-- ==== Sys2Proof/Word.lean ====
section
/-! DEFINITION. The words of the part and the one container the state uses: bytes, 16-bit words sent most significant byte
first (spec 00_scope, "Numbers"), and `Bank`, a list that carries its own length. -/

namespace Sys2Proof

/-- One byte of a frame, a record or a table row. -/
abbrev Byte := BitVec 8

/-- A 16-bit field, sent most significant byte first. -/
abbrev Word16 := BitVec 16

/-- The 16-bit field whose two bytes arrive as `hi`, `lo`. -/
def wordOf (hi lo : Byte) : Word16 := hi ++ lo

/-- The two bytes of a 16-bit field, most significant first. -/
def wordBytes (w : Word16) : List Byte := [w.extractLsb' 8 8, w.extractLsb' 0 8]

/-- The low 16 bits of a natural number, as two bytes. -/
def natBytes (n : Nat) : List Byte := wordBytes (BitVec.ofNat 16 n)

/-- A signed value as a 16-bit two's complement field, as two bytes. -/
def intBytes (x : Int) : List Byte := wordBytes (BitVec.ofInt 16 x)

/-- The number whose bit i is the i-th element of the list. -/
def natOfBits : List Bool → Nat
  | [] => 0
  | b :: bs => b.toNat + 2 * natOfBits bs

/-- Exactly `n` like things, indexed by `Fin n`. The length travels with the data, so no index is ever out of range. -/
structure Bank (α : Type) (n : Nat) where
  cells : List α
  size  : cells.length = n
  deriving DecidableEq, Repr

/-- The bank whose i-th cell is `f i`. -/
def Bank.tabulate {α : Type} {n : Nat} (f : Fin n → α) : Bank α n := ⟨List.ofFn f, by simp⟩

/-- Every cell alike. -/
def Bank.all {α : Type} (n : Nat) (x : α) : Bank α n := ⟨List.replicate n x, by simp⟩

/-- The i-th cell. -/
def Bank.get {α : Type} {n : Nat} (b : Bank α n) (i : Fin n) : α := b.cells.get (i.cast b.size.symm)

/-- The bank with its i-th cell replaced. -/
def Bank.set {α : Type} {n : Nat} (b : Bank α n) (i : Fin n) (x : α) : Bank α n :=
  ⟨b.cells.set i x, by simp [b.size]⟩

/-- Each cell mapped. -/
def Bank.map {α β : Type} {n : Nat} (f : α → β) (b : Bank α n) : Bank β n := ⟨b.cells.map f, by simp [b.size]⟩

/-- Each cell mapped with its index in hand. -/
def Bank.mapIdx {α β : Type} {n : Nat} (f : Fin n → α → β) (b : Bank α n) : Bank β n :=
  Bank.tabulate fun i => f i (b.get i)

/-- A mask of `n` bits, bit i being `f i`. -/
def maskOf {n : Nat} (f : Fin n → Bool) : BitVec n := BitVec.ofNat n (natOfBits (List.ofFn f))

end Sys2Proof
end

