-- ==== Sys2Proof/Syntax.lean ====
section
/-! DEFINITION. The commands of the part: one constructor per row of spec/opcode_table.json. The table gives its rows no
operands; each constructor carries what reaches the part from outside with that operation or event, and the index of the
unit, row, entry or input it concerns (log entry 4). -/

namespace Sys2Proof

/-- A service record as the hub meets it (R135, spec 09 record layout): the hub's position in the carrying frame, the
record's target position, its parameter bytes and its reply room. The kind is the constructor of `Instr`. -/
structure Request where
  position : Nat
  target   : Byte
  params   : List Byte
  room     : Nat
  deriving DecidableEq, Repr

/-- The operations and events of opcode_table.json. -/
inductive Instr where
  /-- POWER_UP (R153, R154): the reset is taken; `strap` is the write-protect strap as sampled (true: protected). -/
  | powerUp (strap : Bool)
  /-- RESET_PIN (R153). -/
  | resetPin
  /-- PROFILE_LOAD_END (R153, R11, R103): the load or reload ends; `contacts` are the contact pin levels at that instant. -/
  | profileLoadEnd (contacts : Byte)
  /-- NATURAL_BEAT_BOUNDARY (R1). -/
  | naturalBeatBoundary
  /-- STARVATION (R111) of a limit row. -/
  | starvation (row : Fin 16)
  /-- SYNC_RESTART (R8). -/
  | syncRestart
  /-- MILLISECOND_TICK (R5, R90); `contacts` are the contact pin levels sampled at the tick. -/
  | millisecondTick (contacts : Byte)
  /-- FILTERED_CHANGE (R91) of a contact. -/
  | filteredChange (contact : Fin 8)
  /-- REVERSAL_PAUSE_END (R26) of a unit. -/
  | reversalPauseEnd (pu : Fin 4)
  /-- BRAKE_ONE_SHOT_START (R30) of a unit. -/
  | brakeOneShotStart (pu : Fin 4)
  /-- BRAKE_END (R31) of a unit. -/
  | brakeEnd (pu : Fin 4)
  /-- STALL (R100) of a rotation input. -/
  | stall (input : Fin 3)
  /-- LINK_TIMER_EXPIRY (R141). -/
  | linkTimerExpiry
  /-- WAKE_CONTACT (R94). -/
  | wakeContact
  /-- WAKE_LINK_START (R157). -/
  | wakeLinkStart
  /-- ACCEPTED_CHANGE (R95, R96) of a rotation input. -/
  | acceptedChange (input : Fin 3)
  /-- TRIGGER_RAISED (R63) of a scan entry. -/
  | triggerRaised (entry : Fin 24)
  /-- CONVERSION_COMPLETE (R67); `raw` is the value the conversion sampled. -/
  | conversionComplete (raw : BitVec 12)
  /-- SWEEP_FRAME (R133 to R138): the next data characters of a run arriving on UP, then `idles` idle characters. -/
  | sweepFrame (bytes : List Byte) (idles : Nat)
  /-- RETURN_FRAME (R133): the next data characters of a run arriving on DOWN, then `idles` idle characters. -/
  | returnFrame (bytes : List Byte) (idles : Nat)
  /-- DOWN_DARK (R133). -/
  | downDark
  /-- IDENTIFY (R147). -/
  | identify (r : Request)
  /-- READ_STATE (R147). -/
  | readState (r : Request)
  /-- TABLE_WRITE (R148). -/
  | tableWrite (r : Request)
  /-- TABLE_READ (R149). -/
  | tableRead (r : Request)
  /-- SWAP (R150). -/
  | swap (r : Request)
  /-- ENABLE (R20, R21). -/
  | enable (r : Request)
  /-- DISABLE (R22, R23). -/
  | disable (r : Request)
  /-- CLEAR (R124). -/
  | clear (r : Request)
  /-- REPORT_MASK (R130). -/
  | reportMask (r : Request)
  /-- SYNC (R7). -/
  | sync (r : Request)
  /-- PROFILE_SAVE (R154, R155). -/
  | profileSave (r : Request)
  /-- PROFILE_BLOCK_BEGIN (R155). -/
  | profileBlockBegin
  /-- PROFILE_BLOCK_VERIFIED (R155); `matched`: the block read back equals the snapshot. -/
  | profileBlockVerified (matched : Bool)
  /-- STANDBY (R156). -/
  | standby (r : Request)
  /-- WAKE (R157). -/
  | wake (r : Request)
  /-- RESET_FULL (R153): a RESET record whose parameter byte is 00h. -/
  | resetFull (position : Nat) (target : Byte) (room : Nat)
  /-- RESET_UNITS (R36): a RESET record whose parameter byte is 01h. -/
  | resetUnits (position : Nat) (target : Byte) (room : Nat)
  /-- DOWN_LIVE (R133): a character arrives on DOWN. -/
  | downLive
  /-- ROTATION_PIN_CHANGE (R95): a rotation pin takes `level` (true: HIGH). -/
  | rotationPinChange (input : Fin 3) (level : Bool)
  /-- ON_TIME_START (R47) of a unit. -/
  | onTimeStart (pu : Fin 4)
  /-- ON_TIME_END (R47) of a unit. -/
  | onTimeEnd (pu : Fin 4)
  /-- DEAD_TIME_END (R15) of a unit. -/
  | deadTimeEnd (pu : Fin 4)
  deriving DecidableEq, Repr

end Sys2Proof
end

