-- ==== Sys2Proof/Machine/Layout.lean ====
section
/-! DEFINITION. The nine tables as the spec lays them out: rows of bytes kept whole (so that spare bits and bytes read back,
R4, R17, R57, R89, R105, R119, R139), named accessors for their fields, the clamp each TABLE_WRITE applies, the factory
defaults, the structural tests of SWAP (R150) and the packing of the profile store (R152). -/

namespace Sys2Proof.Machine

/-- A table row, as stored. -/
abbrev Row := List Byte

/-- The byte at an index of a row (0 beyond its end). -/
def rowByte (r : Row) (i : Nat) : Byte := r.getD i 0

/-- The byte at an index, as a number. -/
def rowNat (r : Row) (i : Nat) : Nat := (rowByte r i).toNat

/-- The 16-bit field at bytes i and i+1. -/
def rowWord (r : Row) (i : Nat) : Word16 := wordOf (rowByte r i) (rowByte r (i + 1))

/-- The 16-bit field at bytes i and i+1, unsigned. -/
def rowWordNat (r : Row) (i : Nat) : Nat := (rowWord r i).toNat

/-- Bit k of byte i. -/
def rowBit (r : Row) (i k : Nat) : Bool := (rowByte r i).getLsbD k

/-- The w bits of byte i from bit lo up, as a number. -/
def rowBits (r : Row) (i lo w : Nat) : Nat := rowNat r i / 2 ^ lo % 2 ^ w

/-- The row with byte i replaced. -/
def rowSetByte (r : Row) (i : Nat) (n : Nat) : Row := r.set i (BitVec.ofNat 8 n)

/-- The row with the 16-bit field at byte i replaced. -/
def rowSetWord (r : Row) (i : Nat) (w : Word16) : Row :=
  (r.set i (w.extractLsb' 8 8)).set (i + 1) (w.extractLsb' 0 8)

/-- The row with the w bits of byte i from bit lo up replaced, the byte's other bits kept. -/
def rowSetBits (r : Row) (i lo w n : Nat) : Row :=
  rowSetByte r i (rowNat r i - rowBits r i lo w * 2 ^ lo + n * 2 ^ lo)

/-- A 16-bit field held to a maximum. -/
def clampWordMax (i max : Nat) (r : Row) : Row :=
  if rowWordNat r i > max then rowSetWord r i (BitVec.ofNat 16 max) else r

/-- A 16-bit field held to a minimum. -/
def clampWordMin (i min : Nat) (r : Row) : Row :=
  if rowWordNat r i < min then rowSetWord r i (BitVec.ofNat 16 min) else r

/-- A byte held to a maximum. -/
def clampByteMax (i max : Nat) (r : Row) : Row := if rowNat r i > max then rowSetByte r i max else r

/-- A byte whose values from `lo` to 254 are stored as FFh (NONE). -/
def clampToNone (i lo : Nat) (r : Row) : Row :=
  if lo ≤ rowNat r i ∧ rowNat r i ≤ 254 then rowSetByte r i 255 else r

/-- A byte whose value 0 is stored as 1. -/
def clampZeroByte (i : Nat) (r : Row) : Row := if rowNat r i = 0 then rowSetByte r i 1 else r

/-- A bit field whose code `bad` is stored as `good`. -/
def clampCode (i lo w bad good : Nat) (r : Row) : Row :=
  if rowBits r i lo w = bad then rowSetBits r i lo w good else r

/-! ## The tables (R147 to R151, spec 10.3) -/

/-- The nine tables. -/
inductive TableId where
  | slot | scan | limit | reflex | unit | input | beat | cal | safe
  deriving DecidableEq, Repr

/-- The table id of spec 10.3. -/
def TableId.code : TableId → Fin 9
  | .slot => 0 | .scan => 1 | .limit => 2 | .reflex => 3 | .unit => 4
  | .input => 5 | .beat => 6 | .cal => 7 | .safe => 8

/-- All tables in table id order. -/
def TableId.inOrder : List TableId := [.slot, .scan, .limit, .reflex, .unit, .input, .beat, .cal, .safe]

/-- The table an id names; an id above 8 names none. -/
def TableId.ofCode (n : Nat) : Option TableId := TableId.inOrder[n]?

/-- Rows of a table (spec 10.3). -/
def TableId.rows : TableId → Nat
  | .slot => 8 | .scan => 24 | .limit => 16 | .reflex => 16 | .unit => 4
  | .input => 11 | .beat => 1 | .cal => 16 | .safe => 1

/-- Row size in bytes (spec 10.3). -/
def TableId.rowSize : TableId → Nat
  | .slot => 4 | .scan => 8 | .limit => 16 | .reflex => 8 | .unit => 16
  | .input => 6 | .beat => 4 | .cal => 1 | .safe => 16

/-- One copy, active or shadow, of all nine tables. -/
structure Tables where
  slot   : List Row
  scan   : List Row
  limit  : List Row
  reflex : List Row
  unit   : List Row
  input  : List Row
  beat   : List Row
  cal    : List Row
  safe   : List Row
  deriving DecidableEq, Repr

/-- The rows of a table. -/
def Tables.get (t : Tables) : TableId → List Row
  | .slot => t.slot | .scan => t.scan | .limit => t.limit | .reflex => t.reflex | .unit => t.unit
  | .input => t.input | .beat => t.beat | .cal => t.cal | .safe => t.safe

/-- The tables with one of them replaced. -/
def Tables.set (t : Tables) (id : TableId) (rows : List Row) : Tables :=
  match id with
  | .slot => { t with slot := rows }
  | .scan => { t with scan := rows }
  | .limit => { t with limit := rows }
  | .reflex => { t with reflex := rows }
  | .unit => { t with unit := rows }
  | .input => { t with input := rows }
  | .beat => { t with beat := rows }
  | .cal => { t with cal := rows }
  | .safe => { t with safe := rows }

/-- The tables with a run of rows stored from row `first` on. -/
def Tables.store (t : Tables) (id : TableId) (first : Nat) (rows : List Row) : Tables :=
  t.set id ((t.get id).mapIdx fun i r => if first ≤ i then rows.getD (i - first) r else r)

/-- One row of a table (no bytes beyond its end). -/
def Tables.row (t : Tables) (id : TableId) (i : Nat) : Row := (t.get id).getD i []

def Tables.unitRow (t : Tables) (u : Fin 4) : Row := t.row .unit u
def Tables.scanRow (t : Tables) (e : Fin 24) : Row := t.row .scan e
def Tables.limitRow (t : Tables) (n : Fin 16) : Row := t.row .limit n
def Tables.reflexRow (t : Tables) (n : Fin 16) : Row := t.row .reflex n
def Tables.contactRow (t : Tables) (c : Fin 8) : Row := t.row .input c
def Tables.rotationRow (t : Tables) (r : Fin 3) : Row := t.row .input (8 + r)
def Tables.safeRow (t : Tables) : Row := t.row .safe 0
def Tables.beatRow (t : Tables) : Row := t.row .beat 0

/-! ## Field accessors -/

/-- BEAT: beat length B and sync lag (spec 1.3). -/
def beatLength (r : Row) : Nat := rowWordNat r 0
def beatSyncLag (r : Row) : Nat := rowNat r 2

/-- The kinds of unit (spec 2.1). -/
inductive Kind where
  | bidir | unidir
  deriving DecidableEq, Repr

/-- UNIT fields (spec 2.3). -/
def unitKind (r : Row) : Kind := if rowBit r 0 0 then .unidir else .bidir
def unitDecaySlow (r : Row) : Bool := rowBit r 0 1
def unitSafeBrake (r : Row) : Bool := rowBit r 0 2
def unitPhaseOffset (r : Row) : Nat := rowWordNat r 1
def unitRampStep (r : Row) : Nat := rowWordNat r 3
def unitReversalPause (r : Row) : Nat := rowNat r 5
def unitMinOn (r : Row) : Nat := rowNat r 6
def unitMinOff (r : Row) : Nat := rowNat r 7
def unitBrakeTime (r : Row) : Nat := rowNat r 8
def unitCurrentSlot (r : Row) : Option Nat := if rowNat r 9 ≤ 23 then some (rowNat r 9) else none
def unitCurrentLimit (r : Row) : Nat := rowWordNat r 10
def unitReleaseCount (r : Row) : Nat := rowNat r 12
def unitExhaustCount (r : Row) : Nat := rowNat r 13
def unitThermalCap (r : Row) : Nat := rowWordNat r 14

/-- SCAN anchor points (spec 4.1). -/
inductive AnchorPoint where
  | onStart | onCenter | offCenter
  deriving DecidableEq, Repr

/-- SCAN fields (spec 4.1). -/
def scanEnabled (r : Row) : Bool := rowBit r 0 0
def scanAnchored (r : Row) : Bool := rowBit r 0 1
def scanAnchorUnit (r : Row) : Fin 4 := Fin.ofNat 4 (rowBits r 0 2 2)
def scanAnchorPoint (r : Row) : AnchorPoint :=
  match rowBits r 0 4 2 with
  | 0 => .onStart
  | 1 => .onCenter
  | _ => .offCenter
def scanInput (r : Row) : Fin 16 := Fin.ofNat 16 (rowBits r 1 0 4)
def scanAverage (r : Row) : Nat := 4 ^ rowBits r 1 4 2
def scanDivider (r : Row) : Nat := 2 ^ rowBits r 2 0 3
def scanPhase (r : Row) : Nat := rowNat r 3
def scanTimedOffset (r : Row) : Nat := rowWordNat r 4
def scanAnchoredOffset (r : Row) : Int := (rowWord r 4).toInt
def scanLateLimit (r : Row) : Nat := rowNat r 6
def scanResultSlot (r : Row) : Fin 26 := Fin.ofNat 26 (rowNat r 7)

/-- LIMIT kinds (spec 7.1). -/
inductive LimitKind where
  | above | below | outside | inside
  deriving DecidableEq, Repr

/-- A unit named by a byte, FFh (and any byte above 3) naming none. -/
def namedUnit (n : Nat) : Option (Fin 4) := if h : n < 4 then some ⟨n, h⟩ else none

/-- LIMIT fields (spec 7.1). -/
def limitEnabled (r : Row) : Bool := rowBit r 0 0
def limitKind (r : Row) : LimitKind :=
  match rowBits r 0 1 2 with
  | 0 => .above
  | 1 => .below
  | 2 => .outside
  | _ => .inside
def limitSource (r : Row) : Nat := rowNat r 1
def limitLow (r : Row) : Nat := rowWordNat r 2
def limitHigh (r : Row) : Nat := rowWordNat r 4
def limitHysteresis (r : Row) : Nat := rowWordNat r 6
def limitTripCount (r : Row) : Nat := rowBits r 8 0 4
def limitReleaseCount (r : Row) : Nat := rowBits r 8 4 4
def limitQualifier (r : Row) : Option (Fin 4) := namedUnit (rowNat r 9)
def limitMinDuty (r : Row) : Nat := rowWordNat r 10
/-- The starvation limit in beats: the field counts units of 16 beats. -/
def limitStarvation (r : Row) : Nat := rowNat r 12 * 16

/-- REFLEX actions on a unit (spec 8.1). -/
inductive ReflexAction where
  | none | cap | coast | brake
  deriving DecidableEq, Repr

/-- REFLEX fields (spec 8.1). -/
def reflexEnabled (r : Row) : Bool := rowBit r 0 0
def reflexLatched (r : Row) : Bool := rowBit r 0 1
def reflexSource (r : Row) : Fin 31 := Fin.ofNat 31 (rowNat r 1)
def reflexAction (r : Row) (u : Fin 4) : ReflexAction :=
  match rowBits r 2 (2 * u) 2 with
  | 0 => .none
  | 1 => .cap
  | 2 => .coast
  | _ => .brake
def reflexCapValue (r : Row) : Nat := rowWordNat r 3

/-- INPUT contact fields (spec 6.1); polarity true is active high. -/
def contactPolarity (r : Row) : Bool := rowBit r 0 0
def contactWakeSource (r : Row) : Bool := rowBit r 0 1
def contactDebounce (r : Row) : Nat := rowBits r 0 4 4

/-- INPUT rotation edge kinds (spec 6.1). -/
inductive EdgeSelect where
  | rising | falling | both
  deriving DecidableEq, Repr

/-- INPUT rotation fields (spec 6.1). -/
def rotationFilter (r : Row) : Nat :=
  match rowBits r 0 0 2 with
  | 0 => 0
  | 1 => 4
  | 2 => 8
  | _ => 16
def rotationEdge (r : Row) : EdgeSelect :=
  match rowBits r 0 2 2 with
  | 0 => .rising
  | 1 => .falling
  | _ => .both
def rotationLinked (r : Row) : Option (Fin 4) := namedUnit (rowNat r 1)
def rotationStallWindow (r : Row) : Nat := rowNat r 2
def rotationStallDuty (r : Row) : Nat := rowWordNat r 3

/-- CAL: the offset of an input in converter counts (R77). -/
def calOffset (t : Tables) (input : Fin 16) : Int := (rowByte (t.row .cal input) 0).toInt

/-- SAFE fields (spec 7.6). -/
def safeLinkTimeout (r : Row) : Nat := rowNat r 0
def safeWarnThreshold (r : Row) : Nat := rowWordNat r 2
def safeShutdownThreshold (r : Row) : Nat := rowWordNat r 4
def safeThermalHysteresis (r : Row) : Nat := rowWordNat r 6
def safeUndervoltage (r : Row) : Nat := rowWordNat r 8
def safeSupplyHysteresis (r : Row) : Nat := rowWordNat r 10
def safeReportMask (r : Row) : Word16 := rowWord r 12

/-- SLOT content kinds (spec 9.5). -/
inductive SlotKind where
  | drivePair | samples | motion | status
  deriving DecidableEq, Repr

/-- SLOT fields (spec 9.5). -/
def slotEnabled (r : Row) : Bool := rowBit r 0 0
def slotKind (r : Row) : SlotKind :=
  match rowBits r 0 1 2 with
  | 0 => .drivePair
  | 1 => .samples
  | 2 => .motion
  | _ => .status
def slotSegment (r : Row) : Nat := rowNat r 1
def slotFirst (r : Row) : Nat := rowNat r 2
def slotSecond (r : Row) : Nat := rowNat r 3

/-! ## Clamping by TABLE_WRITE -/

/-- R139: the SLOT clamps, by the content kind of the entry. -/
def clampSlot (r : Row) : Row :=
  let r := clampByteMax 1 31 r
  match slotKind r with
  | .drivePair => clampToNone 3 4 (clampByteMax 2 3 r)
  | .motion => clampByteMax 2 2 r
  | .samples => r
  | .status => r

/-- R57: the offset clamp of a scan row, by its trigger kind. -/
def clampScanOffset (r : Row) : Row :=
  if scanAnchored r then
    if scanAnchoredOffset r < -512 then rowSetWord r 4 (BitVec.ofInt 16 (-512))
    else if 511 < scanAnchoredOffset r then rowSetWord r 4 (BitVec.ofInt 16 511) else r
  else clampWordMax 4 6399 r

/-- R57: a phase not below the divider as stored is stored as k − 1. -/
def clampScanPhase (r : Row) : Row :=
  if scanDivider r ≤ scanPhase r then rowSetByte r 3 (scanDivider r - 1) else r

/-- R57: the SCAN clamps. -/
def clampScan (r : Row) : Row :=
  clampByteMax 7 23 (clampScanOffset (clampScanPhase (clampCode 2 0 3 7 6 (clampCode 1 4 2 3 2 (clampCode 0 4 2 3 2 r)))))

/-- R105: the LIMIT clamps. -/
def clampLimit (r : Row) : Row :=
  clampWordMax 10 1000 (clampToNone 9 4 (clampCode 8 4 4 0 1 (clampCode 8 0 4 0 1 (clampByteMax 1 25 r))))

/-- R119: the REFLEX clamps. -/
def clampReflex (r : Row) : Row := clampWordMax 3 1000 (clampByteMax 1 30 r)

/-- R17: the UNIT clamps. -/
def clampUnit (r : Row) : Row :=
  clampWordMax 14 1000 (clampZeroByte 13 (clampByteMax 12 15 (clampZeroByte 12
    (clampWordMax 10 65520 (clampToNone 9 24 (clampWordMax 3 1000 (clampWordMax 1 6399 r)))))))

/-- R89: the INPUT clamps, rows 8 to 10 alone having fields to clamp. -/
def clampInput (index : Nat) (r : Row) : Row :=
  if index < 8 then r else clampWordMax 3 1000 (clampToNone 1 4 (clampCode 0 2 2 3 2 r))

/-- R4: the BEAT clamp. -/
def clampBeat (r : Row) : Row := clampWordMin 0 800 (clampWordMax 0 6400 r)

/-- The clamp of a row by its table and its index (R4, R17, R57, R77, R89, R105, R113, R119, R139). -/
def clampRow (id : TableId) (index : Nat) (r : Row) : Row :=
  match id with
  | .slot => clampSlot r
  | .scan => clampScan r
  | .limit => clampLimit r
  | .reflex => clampReflex r
  | .unit => clampUnit r
  | .input => clampInput index r
  | .beat => clampBeat r
  | .cal => r
  | .safe => r

/-- The rows of a TABLE_WRITE from row `first` on, each clamped. -/
def clampRows (id : TableId) (first : Nat) (rows : List Row) : List Row :=
  rows.mapIdx fun i r => clampRow id (first + i) r

/-- The lowest row of a TABLE_WRITE that holds a clamped field: a clamp always changes the row (R148). -/
def firstClamped (id : TableId) (first : Nat) : List Row → Option Nat
  | [] => none
  | r :: rest => if clampRow id first r = r then firstClamped id (first + 1) rest else some first

/-! ## Factory defaults -/

/-- The factory default of a UNIT row: the flags byte and phase offset of the unit, all else alike (spec 2.3). -/
def factoryUnitRow (flags : Byte) (offsetHigh offsetLow : Byte) : Row :=
  [flags, offsetHigh, offsetLow, 0x00, 0x14, 5, 32, 32, 20, 0xFF, 0xFF, 0xF0, 8, 64, 0x02, 0x58]

/-- The factory default of a rotation row with its linked unit (spec 6.1). -/
def factoryRotationRow (linked : Byte) : Row := [0x02, linked, 0, 0x00, 0xC8, 0]

/-- The factory defaults of every table (spec 1.3, 2.3, 4.1, 5.1, 6.1, 7.1, 7.6, 8.1, 9.5). -/
def factoryTables : Tables where
  slot := List.replicate 8 (List.replicate 4 0)
  scan := List.replicate 24 (List.replicate 8 0)
  limit := List.replicate 16 [0, 0, 0, 0, 0, 0, 0, 0, 0x11, 0xFF, 0, 0, 0, 0, 0, 0]
  reflex := List.replicate 16 (List.replicate 8 0)
  unit := [factoryUnitRow 0x06 0x00 0x00, factoryUnitRow 0x06 0x03 0x20, factoryUnitRow 0x07 0x01 0x90,
           factoryUnitRow 0x02 0x04 0xB0]
  input := List.replicate 8 [0x50, 0, 0, 0, 0, 0] ++
           [factoryRotationRow 0, factoryRotationRow 1, factoryRotationRow 2]
  beat := [[0x06, 0x40, 0, 0]]
  cal := List.replicate 16 [0]
  safe := [[50, 0, 0x72, 0xD8, 0x7B, 0x48, 0x02, 0xD0, 0x73, 0x2C, 0x06, 0x66, 0xFF, 0xFF, 0, 0]]

/-! ## Structural tests (R150) -/

/-- The units an enabled DRIVE_PAIR entry names: u1 and, unless NONE, u2. -/
def slotUnits (r : Row) : List Nat :=
  if slotEnabled r ∧ slotKind r = .drivePair then
    slotFirst r :: (if slotSecond r ≤ 3 then [slotSecond r] else [])
  else []

/-- Whether a SLOT row conflicts with an earlier one, or fails by itself: u1 and u2 alike, or a SAMPLES first slot above 21. The first
failure of a table is its lowest row that fails any of these (log entry 39). -/
def slotRowFails (earlier : List Row) (r : Row) : Bool :=
  slotEnabled r &&
    ((earlier.any fun q => slotEnabled q && decide (slotSegment q = slotSegment r)) ||
     ((slotUnits r).any fun u => earlier.any fun q => (slotUnits q).contains u) ||
     decide (¬ (slotUnits r).Nodup) ||
     (decide (slotKind r = .samples) && decide (21 < slotFirst r)))

/-- Whether an enabled SCAN row names the result slot of an earlier enabled row. -/
def scanRowFails (earlier : List Row) (r : Row) : Bool :=
  scanEnabled r && earlier.any fun q => scanEnabled q && decide (rowNat q 7 = rowNat r 7)

/-- The first row of a list that fails a test against the rows before it. -/
def firstFailing (test : List Row → Row → Bool) (earlier : List Row) : List Row → Option Nat
  | [] => none
  | r :: rest => if test earlier r then some earlier.length else firstFailing test (earlier ++ [r]) rest

/-- The offending row of a table under the structural tests of SWAP, if any. -/
def structuralFailure (id : TableId) (rows : List Row) : Option Nat :=
  match id with
  | .slot => firstFailing slotRowFails [] rows
  | .scan => firstFailing scanRowFails [] rows
  | .limit | .reflex | .unit | .input | .beat | .cal | .safe => none

/-! ## The check (R134) and the packing of the profile store (R152) -/

/-- One bit of the cyclic redundancy check with generator 8005h. -/
def crcBit (c : Word16) (b : Bool) : Word16 :=
  if c.getLsbD 15 != b then (c <<< 1) ^^^ 0x8005#16 else c <<< 1

/-- One byte of the check, most significant bit first. -/
def crcByte (c : Word16) (b : Byte) : Word16 :=
  [7, 6, 5, 4, 3, 2, 1, 0].foldl (fun c i => crcBit c (b.getLsbD i)) c

/-- The check over a list of bytes, from initial value 0000h. -/
def crcOf (bytes : List Byte) : Word16 := bytes.foldl crcByte 0

/-- The bytes of a row that the store keeps, in layout order: every byte but the spare ones (R152). -/
def storedBytes (id : TableId) (index : Nat) : List Nat :=
  match id with
  | .slot => List.range 4
  | .scan => List.range 8
  | .limit => List.range 13
  | .reflex => List.range 5
  | .unit => List.range 16
  | .input => if index < 8 then [0] else List.range 5
  | .beat => List.range 3
  | .cal => [0]
  | .safe => 0 :: (List.range 12).map (· + 2)

/-- A table as the store keeps it. -/
def packTable (id : TableId) (rows : List Row) : List Byte :=
  (rows.mapIdx fun i r => (storedBytes id i).map (rowByte r)).flatten

/-- A row rebuilt from its stored bytes, spare bytes reading 0. -/
def unpackRow (id : TableId) (index : Nat) (bytes : List Byte) : Row :=
  ((storedBytes id index).zip bytes).foldl (fun r p => r.set p.1 p.2) (List.replicate id.rowSize 0)

/-- Rows rebuilt from a run of stored bytes, each clamped by its table's rule (R153); the rest of the run comes back. -/
def unpackRows (id : TableId) : Nat → Nat → List Byte → List Row × List Byte
  | _, 0, bytes => ([], bytes)
  | index, k + 1, bytes =>
    let n := (storedBytes id index).length
    let row := clampRow id index (unpackRow id index (bytes.take n))
    let more := unpackRows id (index + 1) k (bytes.drop n)
    (row :: more.1, more.2)

/-- Tables rebuilt, one after the other, from the bytes of a section. -/
def unpackTables (ids : List TableId) (bytes : List Byte) (t : Tables) : Tables :=
  (ids.foldl (fun (acc : Tables × List Byte) id =>
    let got := unpackRows id 0 id.rows acc.2
    (acc.1.set id got.1, got.2)) (t, bytes)).1

/-- The writable sections of the profile store (spec 11). -/
inductive Section where
  | cal | safe | tables
  deriving DecidableEq, Repr

/-- The sections in writing order (R155). -/
def Section.inOrder : List Section := [.cal, .safe, .tables]

/-- The tables a section holds, in table id order. -/
def Section.tableIds : Section → List TableId
  | .cal => [.cal]
  | .safe => [.safe]
  | .tables => [.slot, .scan, .limit, .reflex, .unit, .input, .beat]

/-- Blocks of 32 bytes in a section. -/
def Section.blocks : Section → Nat
  | .cal => 1 | .safe => 1 | .tables => 22

/-- The contents of a section drawn from the tables. -/
def sectionContents (sec : Section) (t : Tables) : List Byte :=
  (sec.tableIds.map fun id => packTable id (t.get id)).flatten

/-- A whole section: contents, 00h up to the check, the check high byte first (R152). -/
def sectionImage (sec : Section) (t : Tables) : List Byte :=
  let c := sectionContents sec t
  let body := c ++ List.replicate (32 * sec.blocks - 2 - c.length) 0
  body ++ wordBytes (crcOf body)

/-- Whether the bytes of a section end in their own check. -/
def sectionCheckGood (bytes : List Byte) : Bool :=
  decide (bytes.drop (bytes.length - 2) = wordBytes (crcOf (bytes.take (bytes.length - 2))))

end Sys2Proof.Machine
end

