-- ==== Sys2Proof/Machine/State.lean ====
section
/-! DEFINITION. Everything the spec gives the part to remember, as plain data, block by block; the two reason types; the state
right after a power-up reset. INVENTORY.md lists each item with its rule and reset value. -/

namespace Sys2Proof.Machine

/-! ## Names -/

/-- A driving direction (FWD, REV). -/
inductive Dir where
  | fwd | rev
  deriving DecidableEq, Repr

/-- The unit states of spec 2.4. -/
inductive UnitState where
  | off | run | pause | brake | heldCoast | heldBrake
  deriving DecidableEq, Repr

/-- The logical drive states of R14. -/
inductive Drive where
  | coast | fwd | rev | brake
  deriving DecidableEq, Repr

/-- The four gate lines of a unit, each on or off (R14, R15). -/
structure Lines where
  ha : Bool
  la : Bool
  hb : Bool
  lb : Bool
  deriving DecidableEq, Repr

/-- The brake one-shot (R29, R30): idle, waiting for its first millisecond tick, or running with milliseconds to run. -/
inductive BrakeCount where
  | idle
  | waiting (length : Nat)
  | running (left : Nat)
  deriving DecidableEq, Repr

/-- The hold action of a unit (R32), in rising severity. -/
inductive Hold where
  | none | coast | brake
  deriving DecidableEq, Repr

/-- What the part is doing as a whole. The spec's three "running" flags follow from it: the beat runs in `run` alone (R12), the
conditioner runs in `run` and `standby` (R103, R104), ports forward in all but `loading` (R142). Standby is `standby` and
`standbyReload` (R156). -/
inductive Phase where
  /-- From power-up or the reset pin to the end of the profile load. -/
  | loading
  /-- From a RESET FULL's frame end to the end of its reload. -/
  | reloading
  | run
  | standby
  /-- Standby entered by a STANDBY that a RESET FULL precedes in its frame, the reload still going on (log entry 14). -/
  | standbyReload
  deriving DecidableEq, Repr

/-- The start causes of R158. -/
inductive StartCause where
  | power | resetPin | softFull | softUnits | wakeLink
  | wakeContact (contact : Fin 8)
  deriving DecidableEq, Repr

/-- The save states of the profile store (spec 11). -/
inductive SaveState where
  | idle | busy | failed
  deriving DecidableEq, Repr

/-- The sixteen latched events of R129. -/
inductive EventId where
  | start | linkLost | linkRestored | frameError | positionChanged | thermalWarn | thermalShutdown | undervoltage
  | limitTripped | reflexFired | scanDrop | starved | setpointClamped | tablesSwapped | profileDone | profileFailed
  deriving DecidableEq, Repr

/-- What the part has fallen due to do by itself at the present instant. The model's own agenda (log entry 5). -/
inductive DueEvent where
  | loadEnd | boundary | restart | wakeStart | wakeContact | msTick
  | filtered (contact : Fin 8)
  | pauseEnd (pu : Fin 4)
  | brakeStart (pu : Fin 4)
  | brakeEnd (pu : Fin 4)
  | stall (input : Fin 3)
  | linkExpiry
  | starvation (row : Fin 16)
  | accepted (input : Fin 3)
  | trigger (entry : Fin 24)
  | conversion
  | blockVerified | blockBegin
  | onStart (pu : Fin 4)
  | onEnd (pu : Fin 4)
  | deadTime (pu : Fin 4)
  | downDark
  deriving DecidableEq, Repr

/-! ## The blocks -/

/-- The beat generator (spec 1): `length` is the beat length in force, `restart` the scheduled SYNC or WAKE instant. -/
structure Beat where
  number   : Word16
  position : Nat
  length   : Nat
  restart  : Option Nat
  divider  : Nat
  deriving DecidableEq, Repr

/-- A setpoint, raw and unclamped (R24): bit 0 of the flags is BRAKE_ON_STOP. -/
structure Setpoint where
  target : Word16
  flags  : Byte
  deriving DecidableEq, Repr

/-- One pulse unit (spec 2, head table; spec 3.6). `drive` is its logical drive state, `lines` its gate lines, `dead` the ticks
of dead time still to pass before the lines newly called for come on (R15). -/
structure PulseUnit where
  state      : UnitState
  kind       : Kind
  target     : Int
  stopFlag   : Bool
  pending    : Option Setpoint
  demand     : Int
  dirMemory  : Option Dir
  zeroCount  : Option Nat
  countDir   : Dir
  foldLevel  : Nat
  releaseRun : Nat
  exhaustRun : Nat
  exhausted  : Bool
  applied    : Int
  onTime     : Nat
  driveDir   : Dir
  brakeCount : BrakeCount
  drive      : Drive
  lines      : Lines
  dead       : Option Nat
  deriving DecidableEq, Repr

/-- What a conversion request is for: a scan entry, or a housekeeping slot (spec 4.3). -/
inductive RequestSource where
  | entry (e : Fin 24)
  | temp
  | supply
  deriving DecidableEq, Repr

/-- A request of the conversion queue (spec 4.3). -/
structure ScanRequest where
  source : RequestSource
  input  : Fin 16
  raised : Nat
  late   : Nat
  deriving DecidableEq, Repr

/-- The conversion in progress; `discard` marks one whose value a flush or RESET FULL discards (R71, R73). -/
structure Conversion where
  request : ScanRequest
  started : Nat
  discard : Bool
  deriving DecidableEq, Repr

/-- What the sequencer keeps per scan entry (spec 4). -/
structure ScanEntry where
  planned : Option Nat
  sum     : Nat
  samples : Nat
  drops   : Nat
  deriving DecidableEq, Repr

/-- The scan sequencer and the converter (spec 4). -/
structure Scan where
  entries   : Bank ScanEntry 24
  queue     : List ScanRequest
  converter : Option Conversion
  deriving DecidableEq, Repr

/-- A result slot (spec 5); slots 24 and 25 are TEMP and SUPPLY, whose fresh flag stays clear. -/
structure Slot where
  value : Nat
  fresh : Bool
  age   : Nat
  deriving DecidableEq, Repr

/-- A contact input (spec 6); levels are true for HIGH. -/
structure Contact where
  filtered : Bool
  hold     : Option Nat
  changed  : Bool
  latch    : Option Bool
  deriving DecidableEq, Repr

/-- A rotation input (spec 6). -/
structure Rotation where
  accepted    : Bool
  persistence : Option Nat
  count       : Word16
  edgeTime    : Option Nat
  edgesSeen   : Nat
  interval    : Nat
  age         : Nat
  stallTimer  : Option Nat
  stalled     : Bool
  deriving DecidableEq, Repr

/-- The levels the environment drives on the input pins: contacts, rotation inputs, analog inputs as the converter reads them. -/
structure Pins where
  contacts : Byte
  rotation : BitVec 3
  analog   : Bank (BitVec 12) 16
  deriving DecidableEq, Repr

/-- A limit row (spec 7). `declared` tells that STARVED has been set for the count as it stands, which sets it no more until a
store restarts it (R111). -/
structure LimitRow where
  tripRun    : Nat
  releaseRun : Nat
  active     : Bool
  qualified  : Bool
  starve     : Option Nat
  declared   : Bool
  deriving DecidableEq, Repr

/-- The limit watch (spec 7): its rows, THERMAL_WARN live and the supply low run. -/
structure LimitWatch where
  rows      : Bank LimitRow 16
  warnLive  : Bool
  supplyLow : Nat
  deriving DecidableEq, Repr

/-- A reflex row: active, and its fired latch (spec 8). -/
structure ReflexRow where
  active : Bool
  fired  : Bool
  deriving DecidableEq, Repr

/-- The reflex block (spec 8): rows, hold action and reflex cap of each unit, the three safe causes. -/
structure Reflex where
  rows    : Bank ReflexRow 16
  hold    : Bank Hold 4
  cap     : Bank (Option Nat) 4
  link    : Bool
  thermal : Bool
  supply  : Bool
  deriving DecidableEq, Repr

/-- The status store (spec 8.7): latched events and the report mask in force. -/
structure Status where
  events : Word16
  mask   : Word16
  deriving DecidableEq, Repr

/-- The link timer (R141). -/
inductive LinkTimer where
  | stopped
  | running (count : Nat)
  | expired
  deriving DecidableEq, Repr

/-- An output port: free, sending the run that arrives on UP or DOWN, or finishing its last characters (R133). -/
inductive PortState where
  | free
  | sending (fromUp : Bool) (since : Nat)
  | draining (freeAt : Nat)
  deriving DecidableEq, Repr

/-- What a good frame end carries out for a record (R144). -/
inductive Action where
  | tableWrite (id : TableId) (first : Nat) (rows : List Row)
  | swap (set : BitVec 9)
  | enable (mask : Byte)
  | disable (mask : Byte)
  | clear (events : Word16) (rows : Word16) (flags : Byte)
  | reportMask (mask : Word16)
  | sync
  | profileSave (cal safe tables : Bool)
  | standby
  | wake
  | resetFull
  | resetUnits
  deriving DecidableEq, Repr

/-- The pass in progress of a run arriving on UP (spec 9): its route by the DOWN state at its start byte, the instant of that byte
and whether the port was busy then, bytes received, position p, error state, the two running checks, the SLOT entry of the segment
being passed, the bytes the hub is about to write in place, the record being passed, and the actions accepted so far. -/
structure Pass where
  toUp      : Bool
  dropped   : Bool
  started   : Nat
  blocked   : Bool
  received  : List Byte
  position  : Nat
  error     : Bool
  crcIn     : Word16
  crcOut    : Word16
  checkGood : Bool
  slotRow   : Option Row
  overlay   : List (Option Byte)
  recordAt  : Nat
  recordNo  : Nat
  accepted  : List Action
  deriving DecidableEq, Repr

/-- The run arriving on DOWN: bytes received, whether it is dropped, the instant of its start byte and whether the UP port was busy
then (R133). -/
structure DownRun where
  received : List Byte
  dropped  : Bool
  started  : Nat
  blocked  : Bool
  deriving DecidableEq, Repr

/-- The link engine (spec 9). `upSent` and `downSent` are the bytes of the run last sent on each port. -/
structure Link where
  downLive    : Bool
  downSilence : Nat
  upRun       : Option Pass
  downRun     : Option DownRun
  upPort      : PortState
  downPort    : PortState
  upSent      : List Byte
  downSent    : List Byte
  staging     : Bank (Option Setpoint) 4
  position    : Nat
  timer       : LinkTimer
  frameErrors : Nat
  deriving DecidableEq, Repr

/-- The tables and their staging (spec 10): active and shadow copies, swap marks, and the sets of carried-out SWAPs whose
tables have not all taken effect (R151). -/
structure Service where
  active  : Tables
  shadow  : Tables
  marks   : BitVec 9
  swaps   : List (BitVec 9)
  deriving DecidableEq, Repr

/-- A block a save has still to write and verify (R155). -/
structure SaveBlock where
  sect  : Section
  index : Nat
  bytes : List Byte
  deriving DecidableEq, Repr

/-- Which sections a flag is set for. -/
structure SectionFlags where
  identity : Bool
  cal      : Bool
  safe     : Bool
  tables   : Bool
  deriving DecidableEq, Repr

/-- The profile store (spec 11): the section bytes, which sections are torn, the section states of the last load (true:
FALLBACK), the serial number read, the save state with its remaining count, the blocks to write and the block being written. -/
structure Profile where
  identity  : List Byte
  cal       : List Byte
  safe      : List Byte
  tables    : List Byte
  torn      : SectionFlags
  fallback  : SectionFlags
  serial    : BitVec 32
  save      : SaveState
  remaining : Nat
  job       : List SaveBlock
  writing   : Option Nat
  deriving DecidableEq, Repr

/-! ## The state -/

/-- The whole part. -/
structure State where
  /-- Commands waiting, first in first out (the row's own field for a block). -/
  pending   : List Instr
  /-- Events fallen due at this instant and not yet taken (the model's own field, log entry 5). -/
  due       : List DueEvent
  /-- The present instant in core ticks (the model's own field: the spec speaks of instants). -/
  now       : Nat
  phase     : Phase
  /-- Core ticks since a load or reload began (the model's own field: R153 bounds the load by 3 ms). -/
  loadTicks : Nat
  cause     : StartCause
  strap     : Bool
  beat      : Beat
  units     : Bank PulseUnit 4
  scan      : Scan
  slots     : Bank Slot 26
  contacts  : Bank Contact 8
  rotation  : Bank Rotation 3
  pins      : Pins
  limits    : LimitWatch
  reflex    : Reflex
  status    : Status
  link      : Link
  service   : Service
  profile   : Profile
  /-- What the hub wrote from the verdict byte of the last record given as a command of its own (none: passed as received). -/
  answer    : List (Option Byte)
  /-- Counter of free values drawn (the model's own field, log entry 10). -/
  freeCount : Nat
  deriving DecidableEq, Repr

/-- The part never faults: the spec gives every command an effect in every state. Closed and empty. -/
inductive Fault where
  deriving DecidableEq, Repr

/-- Why a command has no meaning. -/
inductive Refusal where
  /-- A command whose meaning is not written yet, by its mnemonic. Raised by no arm of exec any more. Safe. -/
  | notModelled (mnemonic : String)
  deriving DecidableEq, Repr

/-! ## Reset values -/

/-- A unit after R36: OFF, everything 0, clear or none, COAST presented. The kind in force has no effect in OFF (R13). -/
def PulseUnit.atReset : PulseUnit where
  state := .off
  kind := .bidir
  target := 0
  stopFlag := false
  pending := none
  demand := 0
  dirMemory := none
  zeroCount := none
  countDir := .fwd
  foldLevel := 0
  releaseRun := 0
  exhaustRun := 0
  exhausted := false
  applied := 0
  onTime := 0
  driveDir := .fwd
  brakeCount := .idle
  drive := .coast
  lines := ⟨false, false, false, false⟩
  dead := none

/-- A scan entry after R73. -/
def ScanEntry.atReset : ScanEntry := { planned := none, sum := 0, samples := 0, drops := 0 }

/-- The sequencer after R73. -/
def Scan.atReset : Scan := { entries := Bank.all 24 ScanEntry.atReset, queue := [], converter := none }

/-- A slot after R87. -/
def Slot.atReset : Slot := { value := 0, fresh := false, age := 0 }

/-- A contact while the conditioner is stopped (R103). -/
def Contact.atReset : Contact := { filtered := false, hold := none, changed := false, latch := none }

/-- A rotation input while the conditioner is stopped (R103). -/
def Rotation.atReset : Rotation where
  accepted := false
  persistence := none
  count := 0
  edgeTime := none
  edgesSeen := 0
  interval := 65535
  age := 65535
  stallTimer := none
  stalled := false

/-- A limit row after R117. -/
def LimitRow.atReset : LimitRow := { tripRun := 0, releaseRun := 0, active := false, qualified := false, starve := none, declared := false }

/-- The limit watch after R117. -/
def LimitWatch.atReset : LimitWatch := { rows := Bank.all 16 LimitRow.atReset, warnLive := false, supplyLow := 0 }

/-- The reflex block after R132. -/
def Reflex.atReset : Reflex where
  rows := Bank.all 16 { active := false, fired := false }
  hold := Bank.all 4 .none
  cap := Bank.all 4 none
  link := false
  thermal := false
  supply := false

/-- The link engine after R142; nothing has been sent. -/
def Link.atReset : Link where
  downLive := false
  downSilence := 0
  upRun := none
  downRun := none
  upPort := .free
  downPort := .free
  upSent := []
  downSent := []
  staging := Bank.all 4 none
  position := 0
  timer := .stopped
  frameErrors := 0

/-- A profile store as never written: every byte FFh, so that no section's check is good (DESIGN CHOICE, log entry 7). -/
def Profile.blank : Profile where
  identity := List.replicate 64 0xFF
  cal := List.replicate 32 0xFF
  safe := List.replicate 32 0xFF
  tables := List.replicate 704 0xFF
  torn := ⟨false, false, false, false⟩
  fallback := ⟨false, false, false, false⟩
  serial := 0
  save := .idle
  remaining := 0
  job := []
  writing := none

/-- The part right after a power-up reset: nothing commanded, the profile load begun (R12, R36, R73, R87, R103, R117, R132,
R142, R151, R153). The values the spec does not give (log entries 6 and 7): the pins, the strap, the store's contents, the
tables, the report mask and the beat length in force before the load ends. -/
def State.reset : State where
  pending := []
  due := []
  now := 0
  phase := .loading
  loadTicks := 0
  cause := .power
  strap := false
  beat := { number := 0, position := 0, length := 1600, restart := none, divider := 0 }
  units := Bank.all 4 PulseUnit.atReset
  scan := Scan.atReset
  slots := Bank.all 26 Slot.atReset
  contacts := Bank.all 8 Contact.atReset
  rotation := Bank.all 3 Rotation.atReset
  pins := { contacts := 0, rotation := 0, analog := Bank.all 16 0 }
  limits := LimitWatch.atReset
  reflex := Reflex.atReset
  status := { events := 0, mask := 0xFFFF }
  link := Link.atReset
  service := { active := factoryTables, shadow := factoryTables, marks := 0, swaps := [] }
  profile := Profile.blank
  answer := []
  freeCount := 0

end Sys2Proof.Machine
end

