-- ==== Sys2Proof/Machine/Ops.lean ====
section
/-! DEFINITION. The named updates of the state that every block uses: one cell of a bank, an event, a mark on the agenda. -/

namespace Sys2Proof.Machine

/-- The state with one unit replaced. -/
def State.setUnit (s : State) (u : Fin 4) (x : PulseUnit) : State := { s with units := s.units.set u x }

/-- The state with one scan entry replaced. -/
def State.setEntry (s : State) (e : Fin 24) (x : ScanEntry) : State :=
  { s with scan := { s.scan with entries := s.scan.entries.set e x } }

/-- The state with one contact replaced. -/
def State.setContact (s : State) (c : Fin 8) (x : Contact) : State := { s with contacts := s.contacts.set c x }

/-- The state with one rotation input replaced. -/
def State.setRotation (s : State) (r : Fin 3) (x : Rotation) : State := { s with rotation := s.rotation.set r x }

/-- The state with one limit row replaced. -/
def State.setLimit (s : State) (n : Fin 16) (x : LimitRow) : State :=
  { s with limits := { s.limits with rows := s.limits.rows.set n x } }

/-- The state with a conversion queue and a converter. -/
def State.setQueue (s : State) (q : List ScanRequest) (c : Option Conversion) : State :=
  { s with scan := { s.scan with queue := q, converter := c } }

/-- The number of an event, its bit in the masks (R129). -/
def EventId.bit : EventId → Nat
  | .start => 0 | .linkLost => 1 | .linkRestored => 2 | .frameError => 3 | .positionChanged => 4 | .thermalWarn => 5
  | .thermalShutdown => 6 | .undervoltage => 7 | .limitTripped => 8 | .reflexFired => 9 | .scanDrop => 10 | .starved => 11
  | .setpointClamped => 12 | .tablesSwapped => 13 | .profileDone => 14 | .profileFailed => 15

/-- An event set in the status store, whether or not it is already set (R129). -/
def State.latch (s : State) (e : EventId) : State :=
  { s with status := { s.status with events := s.status.events ||| (1#16 <<< e.bit) } }

/-- An event set when a condition holds. -/
def State.latchIf (s : State) (b : Bool) (e : EventId) : State := if b then s.latch e else s

/-- An agenda entry added, once. -/
def State.markDue (s : State) (e : DueEvent) : State := if e ∈ s.due then s else { s with due := s.due ++ [e] }

/-- Agenda entries added, each once. -/
def State.markAll (s : State) (es : List DueEvent) : State := es.foldl State.markDue s

/-- Agenda entries put before everything else that has fallen due: they are part of the event that brings
them (log entry 5). -/
def State.markFirst (s : State) (es : List DueEvent) : State := { s with due := es ++ s.due.filter fun e => decide (e ∉ es) }

/-- An agenda entry taken off: its event has been taken. -/
def State.clearDue (s : State) (e : DueEvent) : State := { s with due := s.due.erase e }

/-- Whether an agenda entry belongs to a beat: the end of the beat takes it away (R8, R10, R63). -/
def DueEvent.ofBeat : DueEvent → Bool
  | .boundary | .trigger _ | .onStart _ | .onEnd _ => true
  | .restart | .wakeStart | .loadEnd | .wakeContact | .msTick | .filtered _ | .pauseEnd _ | .brakeStart _ => false
  | .brakeEnd _ | .stall _ | .linkExpiry | .starvation _ | .accepted _ | .conversion | .blockVerified => false
  | .blockBegin | .deadTime _ | .downDark => false

/-- Whether an agenda entry is a contact's filtered change. -/
def DueEvent.isFiltered : DueEvent → Bool
  | .filtered _ => true
  | .boundary | .trigger _ | .onStart _ | .onEnd _ => false
  | .restart | .wakeStart | .loadEnd | .wakeContact | .msTick | .pauseEnd _ | .brakeStart _ => false
  | .brakeEnd _ | .stall _ | .linkExpiry | .starvation _ | .accepted _ | .conversion | .blockVerified => false
  | .blockBegin | .deadTime _ | .downDark => false

/-- Whether an agenda entry outlives a RESET FULL: what neither the beat, the units nor the inputs own. -/
def DueEvent.outlivesReset : DueEvent → Bool
  | .conversion | .msTick | .downDark => true
  | .boundary | .trigger _ | .onStart _ | .onEnd _ => false
  | .restart | .wakeStart | .loadEnd | .wakeContact | .filtered _ | .pauseEnd _ | .brakeStart _ => false
  | .brakeEnd _ | .stall _ | .linkExpiry | .starvation _ | .accepted _ | .blockVerified => false
  | .blockBegin | .deadTime _ => false

/-- The agenda without what belonged to the beat that ends here. -/
def State.dropBeatDue (s : State) : State := { s with due := s.due.filter fun e => !e.ofBeat }

/-- A safe cause of R127. -/
inductive SafeCause where
  | link | thermal | supply
  deriving DecidableEq, Repr

/-- A safe cause set; a cause already set stays set (R127). -/
def State.setCause (s : State) : SafeCause → State
  | .link => { s with reflex := { s.reflex with link := true } }
  | .thermal => { s with reflex := { s.reflex with thermal := true } }
  | .supply => { s with reflex := { s.reflex with supply := true } }

/-- The safe state is active while at least one cause is set (R127). -/
def State.safeActive (s : State) : Bool := s.reflex.link || s.reflex.thermal || s.reflex.supply

/-- The beat runs (R1, R12). -/
def State.beatRunning (s : State) : Bool := decide (s.phase = .run)

/-- The hub is in standby (R156), whether or not a reload goes on. -/
def State.inStandby (s : State) : Bool := decide (s.phase = .standby) || decide (s.phase = .standbyReload)

/-- A reload goes on (R153): from a RESET FULL's frame end to its end. -/
def State.reloading (s : State) : Bool := decide (s.phase = .reloading) || decide (s.phase = .standbyReload)

/-- The instant a scheduled restart or wake is set for has come. -/
def State.restartNow (s : State) : Bool :=
  match s.beat.restart with
  | some t => decide (t ≤ s.now)
  | none => false

/-- The conditioner runs (R103, R104). -/
def State.conditionerRunning (s : State) : Bool := decide (s.phase = .run) || decide (s.phase = .standby)

/-- The hub sends on its ports (R142). -/
def State.forwarding (s : State) : Bool := decide (s.phase ≠ .loading)

/-- The active copies of the tables. -/
def State.tables (s : State) : Tables := s.service.active

/-- Whether an output port sends idle characters at this instant: while forwarding, whenever it sends no run (R133). -/
def State.sendsIdle (s : State) (port : PortState) : Bool :=
  s.forwarding &&
    match port with
    | .free => true
    | .sending _ _ => false
    | .draining freeAt => decide (freeAt ≤ s.now)

end Sys2Proof.Machine
end

