-- ==== Sys2Proof/Machine/Operands.lean ====
section
/-! DEFINITION. The operands of a service record: its kind code and parameter bytes, read as a request, with the argument checks
that give BAD_KIND and BAD_ARG (R143, R146, and each kind's own rule). -/

namespace Sys2Proof.Machine

/-- The verdicts of spec 10.1. -/
inductive Verdict where
  | done | accepted | clamped | busy | notNow | badKind | badArg | badTable | isProtected | noRoom
  deriving DecidableEq, Repr

/-- The verdict codes of spec 10.1. -/
def Verdict.code : Verdict → Byte
  | .done => 0x00 | .accepted => 0x01 | .clamped => 0x02 | .busy => 0x03 | .notNow => 0x04
  | .badKind => 0x05 | .badArg => 0x06 | .badTable => 0x07 | .isProtected => 0x08 | .noRoom => 0x09

/-- What a record asks, once its arguments are sound. -/
inductive Ask where
  | identify
  | readUnits
  | readResults (first count : Nat)
  | readInputs
  | readConditions
  | readEvents
  | tableWrite (id : TableId) (first : Nat) (rows : List Row)
  | tableRead (id : TableId) (shadow : Bool) (first count : Nat)
  | swap (set : BitVec 9)
  | enable (mask : Byte)
  | disable (mask : Byte)
  | clear (events : Word16) (rows : Word16) (flags : Byte)
  | reportMask (mask : Word16)
  | sync
  | profileSave (cal safe tables : Bool)
  | standby
  | wake
  | resetFull
  | resetUnits
  deriving DecidableEq, Repr

/-- Rows cut from the bytes of a TABLE_WRITE. -/
def cutRows (size : Nat) : Nat → List Byte → List Row
  | 0, _ => []
  | k + 1, bytes => bytes.take size :: cutRows size k (bytes.drop size)

/-- READ_STATE (R147). -/
def parseReadState : List Byte → Except Verdict Ask
  | [sel] =>
    match sel.toNat with
    | 0 => .ok .readUnits
    | 2 => .ok .readInputs
    | 3 => .ok .readConditions
    | 4 => .ok .readEvents
    | _ => .error .badArg
  | [sel, first, count] =>
    if sel.toNat = 1 ∧ first.toNat ≤ 25 ∧ first.toNat + count.toNat ≤ 26 then .ok (.readResults first.toNat count.toNat)
    else .error .badArg
  | _ => .error .badArg

/-- TABLE_WRITE (R148). -/
def parseTableWrite : List Byte → Except Verdict Ask
  | id :: first :: count :: bytes =>
    match TableId.ofCode id.toNat with
    | none => .error .badArg
    | some t =>
      if first.toNat + count.toNat ≤ t.rows ∧ bytes.length = count.toNat * t.rowSize then
        .ok (.tableWrite t first.toNat (cutRows t.rowSize count.toNat bytes))
      else .error .badArg
  | _ => .error .badArg

/-- TABLE_READ (R149). -/
def parseTableRead : List Byte → Except Verdict Ask
  | [id, copy, first, count] =>
    match TableId.ofCode id.toNat with
    | none => .error .badArg
    | some t =>
      if copy.toNat ≤ 1 ∧ first.toNat + count.toNat ≤ t.rows then
        .ok (.tableRead t (decide (copy.toNat = 1)) first.toNat count.toNat)
      else .error .badArg
  | _ => .error .badArg

/-- SWAP (R150). -/
def parseSwap : List Byte → Except Verdict Ask
  | [hi, lo] =>
    if (wordOf hi lo).toNat < 512 then .ok (.swap ((wordOf hi lo).setWidth 9)) else .error .badArg
  | _ => .error .badArg

/-- A unit mask (R20, R22): bits 4 to 7 clear. -/
def parseUnitMask (ask : Byte → Ask) : List Byte → Except Verdict Ask
  | [m] => if m.toNat < 16 then .ok (ask m) else .error .badArg
  | _ => .error .badArg

/-- CLEAR (R124). -/
def parseClear : List Byte → Except Verdict Ask
  | [e1, e0, r1, r0, f] => .ok (.clear (wordOf e1 e0) (wordOf r1 r0) f)
  | _ => .error .badArg

/-- REPORT_MASK (R146). -/
def parseReportMask : List Byte → Except Verdict Ask
  | [hi, lo] => .ok (.reportMask (wordOf hi lo))
  | _ => .error .badArg

/-- PROFILE_SAVE (R154). -/
def parseProfileSave : List Byte → Except Verdict Ask
  | [m] =>
    if m.toNat < 8 then .ok (.profileSave (m.getLsbD 0) (m.getLsbD 1) (m.getLsbD 2)) else .error .badArg
  | _ => .error .badArg

/-- RESET (R146). -/
def parseReset : List Byte → Except Verdict Ask
  | [m] => match m.toNat with
    | 0 => .ok .resetFull
    | 1 => .ok .resetUnits
    | _ => .error .badArg
  | _ => .error .badArg

/-- A kind without parameters (R146). -/
def parseBare (ask : Ask) : List Byte → Except Verdict Ask
  | [] => .ok ask
  | _ => .error .badArg

/-- A record's kind and parameters read as a request (R143, R146): an unknown kind is BAD_KIND, unsound arguments BAD_ARG. -/
def parseAsk (kind : Nat) (params : List Byte) : Except Verdict Ask :=
  match kind with
  | 0x01 => parseBare .identify params
  | 0x02 => parseReadState params
  | 0x03 => parseTableWrite params
  | 0x04 => parseTableRead params
  | 0x05 => parseSwap params
  | 0x06 => parseUnitMask .enable params
  | 0x07 => parseUnitMask .disable params
  | 0x08 => parseClear params
  | 0x09 => parseReportMask params
  | 0x0A => parseBare .sync params
  | 0x0B => parseProfileSave params
  | 0x0C => parseBare .standby params
  | 0x0D => parseBare .wake params
  | 0x0E => parseReset params
  | _ => .error .badKind

/-- The kinds that may be broadcast (R145). -/
def broadcastAllowed (kind : Nat) : Bool := [0x03, 0x05, 0x06, 0x07, 0x08, 0x09, 0x0A, 0x0C, 0x0D, 0x0E].contains kind

end Sys2Proof.Machine
end

