-- ==== Sys2Proof/Config.lean ====
section
/-! DEFINITION. What the part fixes: the spec's own fixed figures as definitions, and the values the spec leaves open as
constants without a body (free values), so that no proof can lean on a value the spec does not give. -/

namespace Sys2Proof

/-- FREE VALUE. The revision byte that IDENTIFY reports: fixed in the part and not given (R152). Log entry 9. -/
opaque Config.revision : Byte

/-- FREE VALUE. Whether a block of the profile store reads back as written, when the part verifies it by itself and no
command says so (R155). Applied to the state's counter `freeCount`. Log entry 10. -/
opaque Config.blockReadsBack : Nat → Bool

/-- Core ticks per millisecond tick (R5). -/
def Config.ticksPerMs : Nat := 32000

/-- The fixed dead time in ticks (R15). -/
def Config.deadTime : Nat := 8

/-- Ticks from the start of a conversion to its completion (R67). -/
def Config.conversionTicks : Nat := 64

/-- 100 µs of silence on DOWN, in ticks (R133). -/
def Config.darkTicks : Nat := 3200

/-- 3 ms, the longest profile load, in ticks (R153). -/
def Config.loadTicks : Nat := 96000

/-- One character of the line, 0.8 µs or 25.6 ticks, taken up to whole ticks (spec 09; log entry 8). -/
def Config.characterTicks : Nat := 26

/-- Millisecond ticks from the begin of a profile block to its verification (R155). -/
def Config.blockMs : Nat := 4

/-- Longest sweep frame in bytes (spec 09). -/
def Config.maxFrame : Nat := 508

end Sys2Proof
end

