-- ==== Sys2Proof/Machine/Flags.lean ====
section
/-! DEFINITION. The two-valued signals of the part and the masks that report them: the 31 reflex sources (R120), the event
summary (R131), and the masks of READ_STATE and STATUS (R147, spec 9.2). -/

namespace Sys2Proof.Machine

/-- CTn is active while the conditioner runs and the filtered level equals the polarity of the active row (R91). -/
def State.contactActive (s : State) (c : Fin 8) : Bool :=
  s.conditionerRunning && ((s.contacts.get c).filtered == contactPolarity (s.tables.contactRow c))

/-- The reflex sources by their codes (spec 8.1, R120): 0 to 15 LM, 16 to 23 CT, 24 to 26 ST, 27 to 30 FX. -/
def State.sourceActive (s : State) (i : Fin 31) : Bool :=
  if i.val < 16 then (s.limits.rows.get (Fin.ofNat 16 i.val)).active
  else if i.val < 24 then s.contactActive (Fin.ofNat 8 (i.val - 16))
  else if i.val < 27 then (s.rotation.get (Fin.ofNat 3 (i.val - 24))).stalled
  else (s.units.get (Fin.ofNat 4 (i.val - 27))).exhausted

/-- All 31 sources as they stand. -/
def State.sources (s : State) : Bank Bool 31 := Bank.tabulate s.sourceActive

/-- The set of events both latched and selected by the report mask in force (R131). -/
def State.summary (s : State) : Word16 := s.status.events &&& s.status.mask

/-- LM0 to LM15 as a mask (R118). -/
def State.limitMask (s : State) : Word16 := maskOf fun n : Fin 16 => (s.limits.rows.get n).active

/-- CT0 to CT7 as a mask (R92). -/
def State.contactMask (s : State) : Byte := maskOf fun c : Fin 8 => s.contactActive c

/-- The filtered levels, bit n for CTn, 1 HIGH (spec 9.2). -/
def State.levelMask (s : State) : Byte := maskOf fun c : Fin 8 => (s.contacts.get c).filtered

/-- The change flags (R92). -/
def State.changeMask (s : State) : Byte := maskOf fun c : Fin 8 => (s.contacts.get c).changed

/-- The active reflex rows (R122). -/
def State.rowMask (s : State) : Word16 := maskOf fun n : Fin 16 => (s.reflex.rows.get n).active

/-- The fired latches (R121). -/
def State.firedMask (s : State) : Word16 := maskOf fun n : Fin 16 => (s.reflex.rows.get n).fired

/-- LINK, THERMAL, SUPPLY and THERMAL_WARN live in bits 0 to 3 (spec 9.2, R147). -/
def State.causeBits (s : State) : Nat :=
  natOfBits [s.reflex.link, s.reflex.thermal, s.reflex.supply, s.limits.warnLive]

/-- The unit state codes of spec 2.4. -/
def UnitState.code : UnitState → Nat
  | .off => 0 | .run => 1 | .pause => 2 | .brake => 3 | .heldCoast => 4 | .heldBrake => 5

/-- HELD means either held state (spec 2.4). -/
def UnitState.held : UnitState → Bool
  | .heldCoast | .heldBrake => true
  | .off | .run | .pause | .brake => false

/-- RUN, PAUSE or BRAKE: the states a hold ends (R33). -/
def UnitState.driving : UnitState → Bool
  | .run | .pause | .brake => true
  | .off | .heldCoast | .heldBrake => false

/-- The unit states, 4 bits each, PU0 lowest (spec 9.2, STATUS). -/
def State.unitStateWord (s : State) : Word16 :=
  BitVec.ofNat 16 ((s.units.get 0).state.code + 16 * (s.units.get 1).state.code
    + 256 * (s.units.get 2).state.code + 4096 * (s.units.get 3).state.code)

/-- The start cause codes of R158. -/
def StartCause.code : StartCause → Nat
  | .power => 0 | .resetPin => 1 | .softFull => 2 | .softUnits => 3 | .wakeLink => 4
  | .wakeContact c => 8 + c

/-- The save state codes of R158. -/
def SaveState.code : SaveState → Nat
  | .idle => 0 | .busy => 1 | .failed => 2

/-- The count direction the next qualifying edge of a rotation input would use: the linked unit's, or FWD (R96, R102). -/
def State.edgeDir (s : State) (r : Fin 3) : Dir :=
  match rotationLinked (s.tables.rotationRow r) with
  | some u => (s.units.get u).countDir
  | none => .fwd

end Sys2Proof.Machine
end

