-- ==== Sys2Proof/Machine/PulseUnits.lean ====
section
/-! DEFINITION. The pulse units (spec 2): gate lines and dead time, the transitions between unit states, and the fold-back
counts (spec 3.6). -/

namespace Sys2Proof.Machine

/-! ## Gate lines (R14, R15) -/

/-- The lines a logical drive state calls on (R14). -/
def Drive.called : Drive → Lines
  | .coast => ⟨false, false, false, false⟩
  | .fwd => ⟨true, false, false, true⟩
  | .rev => ⟨false, true, true, false⟩
  | .brake => ⟨false, true, false, true⟩

/-- The lines on in both. -/
def Lines.meet (a b : Lines) : Lines := ⟨a.ha && b.ha, a.la && b.la, a.hb && b.hb, a.lb && b.lb⟩

/-- A change of the logical drive state (R15): the lines the new state does not call for go off, those it calls for and which
are on stay on, and the others wait a dead time of their own from this change (log entry 15). DESIGN CHOICE, unsafe: of two
changes at one core tick each counts, so that a line the state between does not call for goes off and waits (log entry 53). -/
def PulseUnit.present (u : PulseUnit) (d : Drive) : PulseUnit :=
  if u.drive = d then u
  else
    let kept := u.lines.meet d.called
    { u with drive := d, lines := kept, dead := if kept = d.called then none else some Config.deadTime }

/-- The dead time has passed: every line the logical state calls for is on (R15). -/
def PulseUnit.linesOn (u : PulseUnit) : PulseUnit := { u with lines := u.drive.called, dead := none }

/-- The bridge direction as a logical drive state. -/
def Dir.drive : Dir → Drive
  | .fwd => .fwd
  | .rev => .rev

/-- The off-time state: COAST when the decay field reads FAST, BRAKE when it reads SLOW (R16). -/
def offTimeDrive (row : Row) : Drive := if unitDecaySlow row then .brake else .coast

/-- The placement phase: min(phase offset, B − 1) (R47). -/
def placement (row : Row) (length : Nat) : Nat := min (unitPhaseOffset row) (length - 1)

/-- Whether a position lies in the on-time (R47). -/
def inOnTime (phase n length position : Nat) : Bool := decide ((position + length - phase) % length < n)

/-- The logical drive state a unit's state calls for at a position of the beat (R16). -/
def PulseUnit.driveAt (u : PulseUnit) (row : Row) (length position : Nat) : Drive :=
  match u.state with
  | .off => .coast
  | .heldCoast => .coast
  | .heldBrake => .brake
  | .run => if inOnTime (placement row length) u.onTime length position then u.driveDir.drive else offTimeDrive row
  | .pause => offTimeDrive row
  | .brake =>
    match u.brakeCount with
    | .running _ => .brake
    | .idle => offTimeDrive row
    | .waiting _ => offTimeDrive row

/-! ## Fold-back (R51 to R55) -/

/-- The fold-back level, both runs and FXn cleared (R55). -/
def PulseUnit.clearFold (u : PulseUnit) : PulseUnit :=
  { u with foldLevel := 0, releaseRun := 0, exhaustRun := 0, exhausted := false }

/-- A result above the current limit (R52). -/
def PulseUnit.foldAbove (u : PulseUnit) (exhaustCount : Nat) : PulseUnit :=
  if u.foldLevel < 7 then { u with foldLevel := u.foldLevel + 1, releaseRun := 0 }
  else
    let run := if u.exhaustRun < exhaustCount then u.exhaustRun + 1 else u.exhaustRun
    { u with releaseRun := 0, exhaustRun := run, exhausted := u.exhausted || decide (exhaustCount ≤ run) }

/-- A result at or below the current limit (R53). FXn releases as the level falls from 7 to 6 (R54). -/
def PulseUnit.foldBelow (u : PulseUnit) (releaseCount : Nat) : PulseUnit :=
  if releaseCount ≤ u.releaseRun + 1 then
    { u with exhaustRun := 0, releaseRun := 0, foldLevel := u.foldLevel - 1,
             exhausted := if u.foldLevel = 7 then false else u.exhausted }
  else { u with exhaustRun := 0, releaseRun := u.releaseRun + 1 }

/-- A result stored into the unit's current slot: evaluated in RUN alone (R51). -/
def PulseUnit.foldResult (u : PulseUnit) (row : Row) (v : Nat) : PulseUnit :=
  if u.state = .run then
    if unitCurrentLimit row < v then u.foldAbove (unitExhaustCount row) else u.foldBelow (unitReleaseCount row)
  else u

/-! ## Transitions between beat boundaries -/

/-- Entry into OFF (R23): from any state, at once. The count direction is kept. -/
def PulseUnit.toOff (u : PulseUnit) : PulseUnit :=
  let v := { u with state := .off, target := 0, stopFlag := false, pending := none, demand := 0, dirMemory := none,
                    zeroCount := none, applied := 0, onTime := 0, brakeCount := .idle }
  v.clearFold.present .coast

/-- The resets of R36: as entry into OFF, and the count direction becomes FWD. -/
def PulseUnit.resetUnit (u : PulseUnit) : PulseUnit := { u.toOff with countDir := .fwd }

/-- The held state of a hold action. -/
def Hold.heldState : Hold → UnitState
  | .brake => .heldBrake
  | .coast | .none => .heldCoast

/-- The logical drive state of a hold action. -/
def Hold.drive : Hold → Drive
  | .brake => .brake
  | .coast | .none => .coast

/-- A demand that becomes 0 with a reversal pause of 0 clears the direction memory at that instant (R26). -/
def PulseUnit.memoryAfterZero (u : PulseUnit) (row : Row) : PulseUnit :=
  if u.demand ≠ 0 ∧ unitReversalPause row = 0 then { u with dirMemory := none, zeroCount := none } else u

/-- Entry into HELD (R33): target, demand, applied duty, on-time, stop flag, pending target, brake and fold-back go; direction
memory, its count and the count direction stay (but for a reversal pause of 0, R26, log entry 18). -/
def PulseUnit.enterHeld (u : PulseUnit) (row : Row) (h : Hold) : PulseUnit :=
  let m := u.memoryAfterZero row
  let v := { m with state := h.heldState, target := 0, stopFlag := false, pending := none, demand := 0,
                    applied := 0, onTime := 0, brakeCount := .idle }
  v.clearFold.present h.drive

/-- The last hold ends (R35): RUN with target and demand 0, presenting the off-time state. -/
def PulseUnit.leaveHeld (u : PulseUnit) (row : Row) : PulseUnit :=
  { u with state := .run, target := 0, stopFlag := false, demand := 0 }.present (offTimeDrive row)

/-- The hold action delivered to a unit (R32 to R35); a unit in OFF is unaffected. -/
def PulseUnit.deliverHold (u : PulseUnit) (row : Row) (h : Hold) : PulseUnit :=
  match u.state, h with
  | .off, _ => u
  | .run, .none => u
  | .pause, .none => u
  | .brake, .none => u
  | .heldCoast, .none => u.leaveHeld row
  | .heldBrake, .none => u.leaveHeld row
  | .run, h => u.enterHeld row h
  | .pause, h => u.enterHeld row h
  | .brake, h => u.enterHeld row h
  | .heldCoast, h => { u with state := h.heldState }.present h.drive
  | .heldBrake, h => { u with state := h.heldState }.present h.drive

/-- An ENABLE executed on a unit (R21), with the hold action that applies to it at that instant. -/
def PulseUnit.enableUnit (u : PulseUnit) (row : Row) (h : Hold) : PulseUnit :=
  if u.state = .off then
    let k := unitKind row
    let v := { u with kind := k, target := 0, stopFlag := false, demand := 0, applied := 0, onTime := 0,
                      dirMemory := none, zeroCount := none, countDir := if k = Kind.unidir then .fwd else u.countDir }
    match h with
    | .none => { v with state := .run }.present (offTimeDrive row)
    | .coast => { v with state := .heldCoast }.present .coast
    | .brake => { v with state := .heldBrake }.present .brake
  else u

/-- A DISABLE executed on a unit (R23); one already in OFF is left as it is. -/
def PulseUnit.disableUnit (u : PulseUnit) : PulseUnit := if u.state = .off then u else u.toOff

/-! ## Millisecond ticks -/

/-- The zero-demand count at a millisecond tick (R26), and whether the reversal pause ends there. -/
def PulseUnit.zeroTick (u : PulseUnit) (row : Row) : PulseUnit × Bool :=
  if u.demand = 0 ∧ u.dirMemory ≠ none then
    let c := match u.zeroCount with
      | none => 0
      | some k => min (k + 1) 255
    ({ u with zeroCount := some c }, decide (unitReversalPause row ≤ c))
  else (u, false)

/-- The reversal pause ends (R26): the count has reached it, the memory becomes NONE and the count idle. -/
def PulseUnit.endPause (u : PulseUnit) (row : Row) : PulseUnit :=
  match u.zeroCount with
  | none => u
  | some c =>
    if u.demand = 0 ∧ unitReversalPause row ≤ c then { u with dirMemory := none, zeroCount := none } else u

/-- The brake count at a millisecond tick: what falls due there (R30, R31), the count stepping down otherwise. -/
def PulseUnit.brakeTick (u : PulseUnit) : PulseUnit × Bool × Bool :=
  if u.state = .brake then
    match u.brakeCount with
    | .idle => (u, false, false)
    | .waiting _ => (u, true, false)
    | .running k => if k ≤ 1 then (u, false, true) else ({ u with brakeCount := .running (k - 1) }, false, false)
  else (u, false, false)

/-- The brake one-shot starts (R30). -/
def PulseUnit.startBrake (u : PulseUnit) : PulseUnit :=
  match u.state, u.brakeCount with
  | .brake, .waiting n => { u with brakeCount := .running n }.present .brake
  | _, _ => u

/-- The brake one-shot ends (R31): its last millisecond has passed; RUN, presenting the off-time state for the rest of the
beat. -/
def PulseUnit.endBrake (u : PulseUnit) (row : Row) : PulseUnit :=
  match u.state, u.brakeCount with
  | .brake, .running k =>
    if k ≤ 1 then { u with state := .run, brakeCount := .idle }.present (offTimeDrive row) else u
  | _, _ => u

end Sys2Proof.Machine
end

