-- ==== Sys2Proof/Machine/DriveComputation.lean ====
section
/-! DEFINITION. The drive computation of spec 3: at a beat boundary, from target to demand, folded demand, applied duty and
on-time, in the order of R38. -/

namespace Sys2Proof.Machine

/-- The direction of a nonzero duty. -/
def dirOf (d : Int) : Dir := if d < 0 then .rev else .fwd

/-- A target opposes a direction memory that is not NONE (R27, R39, R40). -/
def opposes (t : Int) : Option Dir → Bool
  | some .fwd => decide (t < 0)
  | some .rev => decide (0 < t)
  | none => false

/-- The step toward the target before the crossing rule (R39, R40). -/
def rampToward (step : Nat) (t d : Int) : Int :=
  if step = 0 then t
  else if (t - d).natAbs ≤ step then t
  else if d < t then d + step else d - step

/-- The demand after one boundary (R39 to R41): a step never crosses 0 and never leaves 0 against the memory. -/
def rampStep (step : Nat) (t d : Int) (memory : Option Dir) : Int :=
  if d = 0 then (if opposes t memory then 0 else rampToward step t d)
  else if 0 < d ∧ t < 0 then max (rampToward step t d) 0
  else if d < 0 ∧ 0 < t then min (rampToward step t d) 0
  else rampToward step t d

/-- The folded demand A1 (R42). -/
def foldedDemand (d : Int) (level : Nat) : Int := (d * (8 - (level : Int))).tdiv 8

/-- The cap for the beat (R43). -/
def capFor (warnLive : Bool) (thermalCap : Nat) (reflexCap : Option Nat) : Nat :=
  let c := if warnLive then min 1000 thermalCap else 1000
  match reflexCap with
  | some v => min c v
  | none => c

/-- The applied duty A2 (R44). -/
def appliedDuty (a1 : Int) (cap : Nat) : Int := if a1 < 0 then -min (-a1) cap else min a1 cap

/-- The on-time before clamping (R45). -/
def roundedOnTime (a2 : Int) (length : Nat) : Nat := (a2.natAbs * length + 500) / 1000

/-- The first on-time clamp (R46). -/
def clampMinOff (minOff length n : Nat) : Nat :=
  if length ≤ minOff then 0 else if length - minOff < n then length - minOff else n

/-- The second on-time clamp (R46). -/
def clampMinOn (minOn n : Nat) : Nat := if n < minOn then 0 else n

/-- The on-time of a beat (R45, R46). -/
def onTimeFor (row : Row) (a2 : Int) (length : Nat) : Nat :=
  clampMinOn (unitMinOn row) (clampMinOff (unitMinOff row) length (roundedOnTime a2 length))

/-- The clamped target of a setpoint (R24). -/
def clampTarget (kind : Kind) (t : Int) : Int :=
  if t < -1000 then (if kind = .unidir then 0 else -1000)
  else if 1000 < t then 1000
  else if kind = .unidir ∧ t < 0 then 0
  else t

/-- A pending target applied in RUN, PAUSE or BRAKE (R24); the flag tells whether it was clamped. -/
def PulseUnit.applyPending (u : PulseUnit) : PulseUnit × Bool :=
  match u.pending with
  | none => (u, false)
  | some sp =>
    let t := clampTarget u.kind sp.target.toInt
    ({ u with target := t, stopFlag := sp.flags.getLsbD 0, pending := none }, decide (t ≠ sp.target.toInt))

/-- Demand, direction memory, count direction and state after the ramp (R25 to R29, R38 second and third step). -/
def PulseUnit.rampAndDecide (u : PulseUnit) (row : Row) : PulseUnit :=
  let d := rampStep (unitRampStep row) u.target u.demand u.dirMemory
  if d ≠ 0 then
    { u with state := .run, demand := d, dirMemory := some (dirOf d), countDir := dirOf d, zeroCount := none }
  else
    let m := u.memoryAfterZero row
    let v := { m with demand := 0 }
    if opposes u.target m.dirMemory then { v with state := .pause }
    else if u.demand ≠ 0 ∧ u.target = 0 ∧ u.stopFlag ∧ 0 < unitBrakeTime row then
      { v with state := .brake, brakeCount := .waiting (unitBrakeTime row) }
    else { v with state := .run }

/-- Applied duty, on-time and beat drive direction from the demand (R38 fourth to seventh step, R42 to R48). -/
def PulseUnit.place (u : PulseUnit) (row : Row) (length : Nat) (warnLive : Bool) (reflexCap : Option Nat) : PulseUnit :=
  let a2 := appliedDuty (foldedDemand u.demand u.foldLevel) (capFor warnLive (unitThermalCap row) reflexCap)
  { u with applied := a2, onTime := onTimeFor row a2 length, driveDir := if a2 = 0 then u.driveDir else dirOf a2 }

/-- The drive computation of a unit whose pending target has been applied (R38). -/
def PulseUnit.compute (u : PulseUnit) (row : Row) (length : Nat) (warnLive : Bool) (reflexCap : Option Nat) : PulseUnit :=
  (u.rampAndDecide row).place row length warnLive reflexCap

/-- PAUSE is left at a boundary when the memory is NONE, T is 0 or T has the memory's sign (R28). -/
def PulseUnit.pauseOver (u : PulseUnit) : Bool := !opposes u.target u.dirMemory

/-- A unit's reaction to a beat boundary by its state (R24, R28, R30, R38, R50); the flag tells whether a setpoint was clamped.
Its logical drive state becomes the one position 0 of the new beat calls for (R16). -/
def PulseUnit.boundary (u : PulseUnit) (row : Row) (length : Nat) (warnLive : Bool) (reflexCap : Option Nat) :
    PulseUnit × Bool :=
  let idleBeat (v : PulseUnit) : PulseUnit := { v with demand := 0, applied := 0, onTime := 0 }
  let got : PulseUnit × Bool :=
    match u.state with
    | .off => (idleBeat { u with pending := none }, false)
    | .heldCoast => (idleBeat { u with pending := none }, false)
    | .heldBrake => (idleBeat { u with pending := none }, false)
    | .run => (u.applyPending.1.compute row length warnLive reflexCap, u.applyPending.2)
    | .pause =>
      if u.applyPending.1.pauseOver then (u.applyPending.1.compute row length warnLive reflexCap, u.applyPending.2)
      else (idleBeat u.applyPending.1, u.applyPending.2)
    | .brake => (idleBeat u.applyPending.1, u.applyPending.2)
  (got.1.present (got.1.driveAt row length 0), got.2)

end Sys2Proof.Machine
end

