-- ==== Sys2Proof/Machine/Sequencer.lean ====
section
/-! DEFINITION. The scan sequencer, the conversion queue and the converter (spec 4). -/

namespace Sys2Proof.Machine

/-- A table request, as against a housekeeping one. -/
def RequestSource.isEntry : RequestSource → Bool
  | .entry _ => true
  | .temp | .supply => false

/-- The rank among requests raised at one core tick: entries by index, housekeeping last (R64). -/
def RequestSource.rank : RequestSource → Nat
  | .entry e => e
  | .temp => 24
  | .supply => 25

/-- Whether request a is taken before request b (R64). -/
def ScanRequest.before (a b : ScanRequest) : Bool :=
  decide (a.raised < b.raised) || (decide (a.raised = b.raised) && decide (a.source.rank < b.source.rank))

/-- A request put in its place in the queue (R64): behind every request that is not taken after it. -/
def insertRequest (r : ScanRequest) : List ScanRequest → List ScanRequest
  | [] => [r]
  | q :: qs => if r.before q then r :: q :: qs else q :: insertRequest r qs

/-- The table requests waiting. -/
def tableWaiting (q : List ScanRequest) : List ScanRequest := q.filter fun r => r.source.isEntry

/-- The housekeeping requests waiting. -/
def housekeepingWaiting (q : List ScanRequest) : List ScanRequest := q.filter fun r => !r.source.isEntry

/-- The partial sum of an entry begun afresh. -/
def ScanEntry.restart (e : ScanEntry) : ScanEntry := { e with sum := 0, samples := 0 }

/-- A drop of an entry's sample (R68). -/
def State.drop (s : State) (e : Fin 24) : State :=
  let x := s.scan.entries.get e
  (s.setEntry e { x.restart with drops := if x.drops < 255 then x.drops + 1 else x.drops }).latch .scanDrop

/-- Whether a request's wait exceeds its late limit (R66): never for housekeeping, never for a limit of 0. -/
def ScanRequest.tooLate (r : ScanRequest) (now : Nat) : Bool :=
  r.source.isEntry && decide (r.late ≠ 0) && decide (r.late < now - r.raised)

/-- A late drop takes its effect on the entry of a table request (R66, R68). -/
def State.dropRequest (s : State) (r : ScanRequest) : State :=
  match r.source with
  | .entry e => s.drop e
  | .temp => s
  | .supply => s

/-- The IDLE converter considers the queue from its head (R66): late drops, then the first request that passes starts. -/
def State.takeFrom (s : State) : List ScanRequest → State
  | [] => s.setQueue [] none
  | r :: rest =>
    if r.tooLate s.now then (s.dropRequest r).takeFrom rest
    else s.setQueue rest (some { request := r, started := s.now, discard := false })

/-- The converter takes a request when it is IDLE and the beat's part of the hub runs; parked in standby (R76), and after a
reset there is nothing to take (R73). -/
def State.takeNext (s : State) : State :=
  if s.beatRunning ∧ s.scan.converter = none then s.takeFrom s.scan.queue else s

/-- A request joins the queue; an IDLE converter looks at once (R65, R66). DESIGN CHOICE, unsafe: it does so before a further trigger
of the same tick is raised (log entry 56). -/
def State.join (s : State) (r : ScanRequest) : State :=
  (s.setQueue (insertRequest r s.scan.queue) s.scan.converter).takeNext

/-- A table trigger is raised (R63, R65): overlap drop, full drop, or a request that joins. The planned trigger becomes none. -/
def State.raiseEntry (s : State) (e : Fin 24) : State :=
  let row := s.tables.scanRow e
  let t := s.setEntry e { s.scan.entries.get e with planned := none }
  if s.scan.queue.any fun q => decide (q.source = .entry e) then t.drop e
  else if 4 ≤ (tableWaiting s.scan.queue).length then t.drop e
  else t.join { source := .entry e, input := scanInput row, raised := s.now, late := scanLateLimit row }

/-- A housekeeping request is raised (R70), unless the one place still holds a request (log entry 11). -/
def State.raiseHousekeeping (s : State) (src : RequestSource) (input : Fin 16) : State :=
  if housekeepingWaiting s.scan.queue = [] then s.join { source := src, input := input, raised := s.now, late := 0 } else s

/-- The housekeeping request of a beat (R70): TEMP at number mod 64 = 0, SUPPLY at 32. -/
def State.raiseHousekeepingOfBeat (s : State) : State :=
  if s.beat.number.toNat % 64 = 0 then s.raiseHousekeeping .temp 15
  else if s.beat.number.toNat % 64 = 32 then s.raiseHousekeeping .supply 14
  else s

/-- A flush (R71): waiting table requests go, a table conversion in progress will be discarded, all partial sums restart. -/
def State.flush (s : State) : State :=
  { s with scan :=
    { entries := s.scan.entries.map ScanEntry.restart
      queue := housekeepingWaiting s.scan.queue
      converter := s.scan.converter.map fun c => { c with discard := c.discard || c.request.source.isEntry } } }

/-- The anchor position of an ANCHORED trigger before the offset and the reduction (R61), none when the beat has no such point. -/
def anchorPosition (p : AnchorPoint) (phase n length : Nat) : Option Nat :=
  match p with
  | .onStart => if n = 0 then none else some phase
  | .onCenter => if n = 0 then none else some (phase + n / 2)
  | .offCenter => if length ≤ n then none else some (phase + n + (length - n) / 2)

/-- The planned trigger of an active entry (R60, R61). -/
def State.triggerTime (s : State) (row : Row) : Option Nat :=
  let length := s.beat.length
  if scanAnchored row then
    let u := scanAnchorUnit row
    (anchorPosition (scanAnchorPoint row) (placement (s.tables.unitRow u) length) (s.units.get u).onTime length).map
      fun p => (((p : Int) + scanAnchoredOffset row) % (length : Int)).toNat
  else some (min (scanTimedOffset row) (length - 1))

/-- Whether an entry is active in the beat being opened (R59). -/
def State.entryActive (s : State) (row : Row) : Bool :=
  scanEnabled row && decide (s.beat.number.toNat % scanDivider row = scanPhase row)

/-- The plan of a beat (R59 to R61): every entry's trigger, none where it is not active or plans nothing. -/
def State.plan (s : State) : State :=
  { s with scan := { s.scan with entries := s.scan.entries.mapIdx fun e x =>
    { x with planned := if s.entryActive (s.tables.scanRow e) then s.triggerTime (s.tables.scanRow e) else none } } }

/-- The entries whose trigger falls at a position, in index order. -/
def State.triggersAt (s : State) (position : Nat) : List (Fin 24) :=
  (List.finRange 24).filter fun e => decide ((s.scan.entries.get e).planned = some position)

/-- The sequencer at a beat boundary (R59, R63, R70, R76): a resumed converter takes a kept request, the beat is planned, the
triggers of position 0 are raised in index order and the housekeeping request after them. A kept request meeting a conversion still
in progress at a wake waits for its end, and no other housekeeping request is raised beside it (R66; log entry 47). -/
def State.openScan (s : State) : State :=
  let planned := s.takeNext.plan
  ((planned.triggersAt 0).foldl State.raiseEntry planned).raiseHousekeepingOfBeat

/-- The state of the sequencer after RESET FULL (R73, R75): conversions in progress complete and are discarded. -/
def State.resetScan (s : State) : State :=
  { s with scan :=
    { entries := Bank.all 24 ScanEntry.atReset
      queue := []
      converter := s.scan.converter.map fun c => { c with discard := true } } }

/-- Every planned trigger becomes none (R63, R76). -/
def State.dropPlan (s : State) : State :=
  { s with scan := { s.scan with entries := s.scan.entries.map fun e => { e with planned := none } } }

end Sys2Proof.Machine
end

