-- ==== Sys2Proof/Machine/Reflexes.lean ====
section
/-! DEFINITION. Qualification of limit rows and rotation inputs (R99, R109), reflex rows, hold actions and caps (spec 8), and
`settle`, the ONE place where a change of conditions runs its course: rows, holds, units, qualifications, until no source
changes any more. -/

namespace Sys2Proof.Machine

/-! ## Qualification -/

/-- A unit drives hard enough for a row or an input that names it: RUN, with |A2| at or above the duty (R99, R109). -/
def PulseUnit.drivesAtLeast (u : PulseUnit) (duty : Nat) : Bool := decide (u.state = .run) && decide (duty ≤ u.applied.natAbs)

/-- A limit row is qualified (R109); before the start boundary of a load or reload none is (R117). -/
def State.limitQualified (s : State) (n : Fin 16) : Bool :=
  let row := s.tables.limitRow n
  s.conditionerRunning && limitEnabled row &&
    match limitQualifier row with
    | none => true
    | some u => (s.units.get u).drivesAtLeast (limitMinDuty row)

/-- A limit row brought to its qualification (R109, R110): beginning and ending both leave runs 0 and the condition inactive. -/
def LimitRow.requalify (x : LimitRow) (qualified : Bool) (starvation : Nat) : LimitRow :=
  if qualified = x.qualified then x
  else if qualified then
    { tripRun := 0, releaseRun := 0, active := false, qualified := true,
      starve := if 0 < starvation then some 0 else none, declared := false }
  else LimitRow.atReset

/-- A rotation input is stall-qualified (R99). -/
def State.stallQualified (s : State) (r : Fin 3) : Bool :=
  let row := s.tables.rotationRow r
  s.conditionerRunning && decide (0 < rotationStallWindow row) &&
    match rotationLinked row with
    | none => false
    | some u => (s.units.get u).drivesAtLeast (rotationStallDuty row)

/-- A rotation input brought to its qualification (R99, R100). -/
def Rotation.requalify (x : Rotation) (qualified : Bool) : Rotation :=
  if qualified then
    match x.stallTimer with
    | some _ => x
    | none => { x with stallTimer := some 0, stalled := false }
  else { x with stallTimer := none, stalled := false }

/-- Every row and input brought to its qualification as the units stand. -/
def State.requalify (s : State) : State :=
  let rows := s.limits.rows.mapIdx fun n x =>
    x.requalify (s.limitQualified n) (limitStarvation (s.tables.limitRow n))
  let inputs := s.rotation.mapIdx fun r x => x.requalify (s.stallQualified r)
  { s with limits := { s.limits with rows := rows }, rotation := inputs }

/-! ## Reflex rows (R121, R122) -/

/-- A row fires (R121). -/
def ReflexRow.fire (_ : ReflexRow) : ReflexRow := { active := true, fired := true }

/-- A row at a change of sources: a source that becomes active fires an enabled row; an unlatched row follows its source; a
latched row stays; a disabled row is inactive (R121, R122). -/
def ReflexRow.follow (x : ReflexRow) (row : Row) (was is : Bool) : ReflexRow :=
  if reflexEnabled row then
    if is && !was then x.fire
    else if reflexLatched row then x
    else { x with active := x.active && is }
  else { x with active := false }

/-- Whether a row fires at a change of its source. -/
def rowFires (row : Row) (was is : Bool) : Bool := reflexEnabled row && is && !was

/-- All rows brought up to date after the sources went from `before` to what they are (R120, R121, R122). -/
def State.followSources (s : State) (before : Bank Bool 31) : State :=
  let was (n : Fin 16) : Bool := before.get (reflexSource (s.tables.reflexRow n))
  let is (n : Fin 16) : Bool := s.sourceActive (reflexSource (s.tables.reflexRow n))
  let rows := s.reflex.rows.mapIdx fun n x => x.follow (s.tables.reflexRow n) (was n) (is n)
  let fired := (List.finRange 16).any fun n => rowFires (s.tables.reflexRow n) (was n) (is n)
  { s with reflex := { s.reflex with rows := rows } }.latchIf fired .reflexFired

/-! ## Holds and caps (R123) -/

/-- The more severe of two hold actions (R32, R123). -/
def Hold.worse : Hold → Hold → Hold
  | .brake, _ => .brake
  | _, .brake => .brake
  | .coast, _ => .coast
  | _, .coast => .coast
  | .none, .none => .none

/-- The hold an action asks for. -/
def ReflexAction.hold : ReflexAction → Hold
  | .coast => .coast
  | .brake => .brake
  | .none | .cap => .none

/-- The rows active at present. -/
def State.activeRows (s : State) : List (Fin 16) := (List.finRange 16).filter fun n => (s.reflex.rows.get n).active

/-- A unit's safe action (spec 2.3) as a hold, while the safe state is active (R127). -/
def State.safeHold (s : State) (u : Fin 4) : Hold :=
  if s.safeActive then (if unitSafeBrake (s.tables.unitRow u) then .brake else .coast) else .none

/-- The hold action of a unit (R32, R123). -/
def State.holdOf (s : State) (u : Fin 4) : Hold :=
  s.activeRows.foldl (fun h n => h.worse (reflexAction (s.tables.reflexRow n) u).hold) (s.safeHold u)

/-- The smaller of two caps, a missing one setting no limit. -/
def lowerCap : Option Nat → Nat → Option Nat
  | none, v => some v
  | some c, v => some (min c v)

/-- The reflex cap of a unit (R123). -/
def State.capOf (s : State) (u : Fin 4) : Option Nat :=
  (s.activeRows.filter fun n => decide (reflexAction (s.tables.reflexRow n) u = .cap)).foldl
    (fun c n => lowerCap c (reflexCapValue (s.tables.reflexRow n))) none

/-- Hold actions and reflex caps of all units formed afresh, and the hold actions delivered (R123, R32). -/
def State.formHolds (s : State) : State :=
  { s with
    reflex := { s.reflex with hold := Bank.tabulate s.holdOf, cap := Bank.tabulate s.capOf }
    units := s.units.mapIdx fun u x => x.deliverHold (s.tables.unitRow u) (s.holdOf u) }

/-! ## A change of conditions runs its course -/

/-- One round: all rows concerned are brought up to date, then each unit receives its hold action, then the qualifications that
the units' states decide follow (R120, R123, R99, R109). -/
def State.settleRound (s : State) (before : Bank Bool 31) : State := (s.followSources before).formHolds.requalify

/-- Rounds until the sources no longer change. The first round takes what the event changed; entering HELD can only release
sources, and leaving HELD changes none, so the second round always ends it (Laws/Settled.lean); four are given. -/
def State.settleFuel : Nat → Bank Bool 31 → State → State
  | 0, _, s => s
  | k + 1, before, s =>
    let t := s.settleRound before
    if t.sources = s.sources then t else State.settleFuel k s.sources t

/-- The course of one event whose sources stood at `before`. -/
def State.settle (s : State) (before : Bank Bool 31) : State := State.settleFuel 4 before s

end Sys2Proof.Machine
end

