-- ==== Sys2Proof/Machine/Results.lean ====
section
/-! DEFINITION. The way of a converted value: calibration, averaging, the store into a slot (spec 5), and the readers of a
store: limit rows (spec 7.2 to 7.4), fixed checks (spec 7.7) and fold-back (spec 3.6). -/

namespace Sys2Proof.Machine

/-! ## Judging (R106, R107, R111) -/

/-- How a row judges a result (spec 7.2). -/
inductive Judged where
  | tripping | releasing | deadBand
  deriving DecidableEq, Repr

/-- Tripping (R106). -/
def tripping (kind : LimitKind) (lo hi v : Nat) : Bool :=
  match kind with
  | .above => decide (hi < v)
  | .below => decide (v < lo)
  | .outside => decide (hi < v) || decide (v < lo)
  | .inside => decide (lo ≤ v) && decide (v ≤ hi)

/-- Releasing (R106), bounds formed without wrap: hi − h below 0 is 0 for ABOVE, and leaves its side unreachable for OUTSIDE. -/
def releasing (kind : LimitKind) (lo hi h v : Nat) : Bool :=
  match kind with
  | .above => decide (v ≤ hi - h)
  | .below => decide (lo + h ≤ v)
  | .outside => decide (lo + h ≤ v) && decide (v + h ≤ hi)
  | .inside => decide (v + h < lo) || decide (hi + h < v)

/-- The judgement of a result by a row of the LIMIT table (R106). -/
def judgeResult (row : Row) (v : Nat) : Judged :=
  if tripping (limitKind row) (limitLow row) (limitHigh row) v then .tripping
  else if releasing (limitKind row) (limitLow row) (limitHigh row) (limitHysteresis row) v then .releasing
  else .deadBand

/-- Runs and condition after a judged result (R107); the flag tells a trip. -/
def LimitRow.judge (x : LimitRow) (row : Row) (j : Judged) : LimitRow × Bool :=
  if x.active then
    match j with
    | .releasing =>
      if limitReleaseCount row ≤ x.releaseRun + 1 then ({ x with active := false, releaseRun := 0 }, false)
      else ({ x with releaseRun := x.releaseRun + 1 }, false)
    | .tripping => ({ x with releaseRun := 0 }, false)
    | .deadBand => ({ x with releaseRun := 0 }, false)
  else
    match j with
    | .tripping =>
      if limitTripCount row ≤ x.tripRun + 1 then ({ x with active := true, tripRun := 0 }, true)
      else ({ x with tripRun := x.tripRun + 1 }, false)
    | .releasing => ({ x with tripRun := 0 }, false)
    | .deadBand => ({ x with tripRun := 0 }, false)

/-- A row that receives a store (R108, R110): its starvation count restarts, and a qualified row judges the value once. -/
def LimitRow.receive (x : LimitRow) (row : Row) (v : Nat) : LimitRow × Bool :=
  let y := { x with starve := x.starve.map fun _ => 0, declared := false }
  if y.qualified then y.judge row (judgeResult row v) else (y, false)

/-- A row reaches its starvation limit (R111): active, both runs 0, the count at the limit and its STARVED set. -/
def LimitRow.starved (x : LimitRow) (limit : Nat) : LimitRow :=
  { x with tripRun := 0, releaseRun := 0, active := true, starve := some limit, declared := true }

/-! ## The fixed checks (R114 to R116) -/

/-- THERMAL_WARN live after a TEMP store (R114). -/
def warnAfter (row : Row) (live : Bool) (v : Nat) : Bool :=
  if live then !decide (v < safeWarnThreshold row - safeThermalHysteresis row) else decide (safeWarnThreshold row ≤ v)

/-- A TEMP store judged by the thermal checks (R114, R115). -/
def State.checkTemp (s : State) (v : Nat) : State :=
  let row := s.tables.safeRow
  let live := warnAfter row s.limits.warnLive v
  let t := { s with limits := { s.limits with warnLive := live } }.latchIf (live && !s.limits.warnLive) .thermalWarn
  if safeShutdownThreshold row ≤ v then (t.setCause .thermal).latch .thermalShutdown else t

/-- A SUPPLY store judged by the undervoltage check (R116). -/
def State.checkSupply (s : State) (v : Nat) : State :=
  let row := s.tables.safeRow
  if v < safeUndervoltage row then
    let run := min (s.limits.supplyLow + 1) 2
    let t := { s with limits := { s.limits with supplyLow := run } }
    if run = 2 then (t.setCause .supply).latch .undervoltage else t
  else { s with limits := { s.limits with supplyLow := 0 } }

/-- The SUPPLY slot reads high enough for its cause to clear (R116, R128). -/
def State.supplyRecovered (s : State) : Bool :=
  decide (safeUndervoltage s.tables.safeRow + safeSupplyHysteresis s.tables.safeRow ≤ (s.slots.get 25).value)

/-! ## Storing (R81, R84) -/

/-- The slot written (R81). -/
def Slot.stored (slot : Fin 26) (v : Nat) : Slot := { value := v, fresh := decide (slot.val < 24), age := 0 }

/-- The limit rows that watch a slot receive a store (R108). -/
def State.storeToLimits (s : State) (slot : Fin 26) (v : Nat) : State :=
  let watches (n : Fin 16) : Bool := decide (limitSource (s.tables.limitRow n) = slot.val)
  let got (n : Fin 16) : LimitRow × Bool := (s.limits.rows.get n).receive (s.tables.limitRow n) v
  let rows := s.limits.rows.mapIdx fun n x => if watches n then (got n).1 else x
  let tripped := (List.finRange 16).any fun n => watches n && (got n).2
  { s with limits := { s.limits with rows := rows } }.latchIf tripped .limitTripped

/-- The units whose current slot is stored into evaluate the value for fold-back (R51). -/
def State.storeToUnits (s : State) (slot : Fin 26) (v : Nat) : State :=
  { s with units := s.units.mapIdx fun u x =>
      if unitCurrentSlot (s.tables.unitRow u) = some slot.val then x.foldResult (s.tables.unitRow u) v else x }

/-- The fixed checks see the stores into TEMP (24) and SUPPLY (25) (R84). -/
def State.storeToChecks (s : State) (slot : Fin 26) (v : Nat) : State :=
  if slot = 24 then s.checkTemp v else if slot = 25 then s.checkSupply v else s

/-- A result stored and delivered to its readers, each reading the same state, and its consequences (R81, R84). -/
def State.storeResult (s : State) (slot : Fin 26) (v : Nat) : State :=
  let t := { s with slots := s.slots.set slot (Slot.stored slot v) }
  (((t.storeToLimits slot v).storeToChecks slot v).storeToUnits slot v).settle s.sources

/-! ## Calibration and averaging (R78 to R80) -/

/-- The calibrated sample (R78). -/
def calibrate (offset : Int) (raw : BitVec 12) : Nat := min ((raw.toNat : Int) + offset).toNat 4095

/-- A calibrated sample of a table request enters its entry's partial sum; a complete sum is stored (R79). -/
def State.addSample (s : State) (e : Fin 24) (c : Nat) : State :=
  let row := s.tables.scanRow e
  let x := s.scan.entries.get e
  if x.samples + 1 = scanAverage row then
    (s.setEntry e x.restart).storeResult (scanResultSlot row) ((x.sum + c) * 16 / scanAverage row)
  else s.setEntry e { x with sum := x.sum + c, samples := x.samples + 1 }

/-- The value of a completed conversion goes where its request says (R67, R78 to R80). -/
def State.deliverSample (s : State) (r : ScanRequest) (raw : BitVec 12) : State :=
  let c := calibrate (calOffset s.tables r.input) raw
  match r.source with
  | .entry e => s.addSample e c
  | .temp => s.storeResult 24 (c * 16)
  | .supply => s.storeResult 25 (c * 16)

end Sys2Proof.Machine
end

