-- ==== Sys2Proof/Machine/Boundary.lean ====
section
/-! DEFINITION. What a beat boundary is to all blocks (spec 1.2, R3): swap marks taking effect, the reflex rows' decision at a
REFLEX swap, the units, the plan; the natural boundary, the SYNC restart, the start boundaries after a load and at a wake. -/

namespace Sys2Proof.Machine

/-! ## Swaps (R151) -/

/-- The marks of every table other than SLOT. -/
def beatMarks (marks : BitVec 9) : BitVec 9 := marks &&& 0x1FE#9

/-- Whether a set of tables names a table. -/
def inSet (set : BitVec 9) (id : TableId) : Bool := set.getLsbD id.code

/-- The active copies with the tables of a set taken from the shadow. -/
def takeShadow (active shadow : Tables) (set : BitVec 9) : Tables :=
  TableId.inOrder.foldl (fun t id => if inSet set id then t.set id (shadow.get id) else t) active

/-- The marks of a set take effect (R151): active copies take the shadows, the marks clear, and TABLES_SWAPPED is set when the
last table of a carried-out SWAP is among them. -/
def State.takeMarks (s : State) (set : BitVec 9) : State :=
  let left := s.service.swaps.map fun w => w &&& ~~~set
  let service := { s.service with
    active := takeShadow s.service.active s.service.shadow set
    marks := s.service.marks &&& ~~~set
    swaps := left.filter fun w => decide (w ≠ 0) }
  { s with service := service }.latchIf (left.any fun w => decide (w = 0)) .tablesSwapped

/-- The decision of a reflex row at a REFLEX swap (R126): `old` and `new` are its two rows. -/
def ReflexRow.swapDecide (x : ReflexRow) (old new : Row) (sourceOn : Bool) : ReflexRow × Bool :=
  if !reflexEnabled new then ({ x with active := false }, false)
  else if reflexEnabled old && decide (reflexSource old = reflexSource new) then
    ({ x with active := x.active && (sourceOn || reflexLatched new) }, false)
  else if sourceOn then (x.fire, true)
  else ({ x with active := false }, false)

/-- Every reflex row decided at a REFLEX swap, on the sources as the other swaps left them (R126, log entry 17). -/
def State.decideRows (s : State) (old : Tables) : State :=
  let got (n : Fin 16) : ReflexRow × Bool :=
    (s.reflex.rows.get n).swapDecide (old.reflexRow n) (s.tables.reflexRow n)
      (s.sourceActive (reflexSource (s.tables.reflexRow n)))
  { s with reflex := { s.reflex with rows := Bank.tabulate fun n => (got n).1 } }.latchIf
    ((List.finRange 16).any fun n => (got n).2) .reflexFired

/-- A LIMIT swap (R112): runs 0, conditions released, counts idle, qualification to be decided afresh. -/
def State.swapLimits (s : State) : State :=
  { s with limits := { s.limits with rows := Bank.all 16 LimitRow.atReset } }

/-- An INPUT swap (R101): stall timers idle, STn released. -/
def State.swapInputs (s : State) : State :=
  { s with rotation := s.rotation.map fun x => { x with stallTimer := none, stalled := false } }

/-- A UNIT swap (R55): the fold-back counts of all units cleared. -/
def State.swapUnits (s : State) : State := { s with units := s.units.map PulseUnit.clearFold }

/-- A SAFE swap (R113, R130): the supply low run 0, the report mask taken from the table. -/
def State.swapSafe (s : State) : State :=
  { s with limits := { s.limits with supplyLow := 0 },
           status := { s.status with mask := safeReportMask s.tables.safeRow } }

/-- An update made when a table is in a set. -/
def State.applyIf (s : State) (b : Bool) (f : State → State) : State := if b then f s else s

/-- The swap marks pending at a boundary take effect together, each with what it does to its owner (R151, R3): REFLEX last, on
the sources as the others leave them. -/
def State.takeSwaps (s : State) : State :=
  let set := beatMarks s.service.marks
  let old := s.service.active
  let a := s.takeMarks set
  let b := ((a.applyIf (inSet set .scan) State.flush).applyIf (inSet set .limit) State.swapLimits)
  let c := ((b.applyIf (inSet set .unit) State.swapUnits).applyIf (inSet set .input) State.swapInputs)
  let d := c.applyIf (inSet set .safe) State.swapSafe
  d.applyIf (inSet set .reflex) fun t => t.decideRows old

/-! ## The units at a boundary -/

/-- Every unit's reaction to the boundary (R24, R38, R50), with the caps as they stand (R43). -/
def State.computeUnits (s : State) : State :=
  let got (u : Fin 4) : PulseUnit × Bool :=
    (s.units.get u).boundary (s.tables.unitRow u) s.beat.length s.limits.warnLive (s.reflex.cap.get u)
  { s with units := Bank.tabulate fun u => (got u).1 }.latchIf ((List.finRange 4).any fun u => (got u).2) .setpointClamped

/-- The common course of every beat boundary once its number is set (R3): swaps in force first, the beat length taken afresh, the
reflex block, the units, the qualifications they decide, and the sequencer. `before` are the sources before the boundary. -/
def State.openBeat (s : State) (before : Bank Bool 31) : State :=
  let swapped := s.takeSwaps
  let opened := { swapped with beat := { swapped.beat with position := 0, length := beatLength swapped.tables.beatRow } }
  let computed := (opened.settle before).computeUnits
  (computed.settle computed.sources).openScan

/-! ## Ages and starvation -/

/-- Every slot's age rises by 1, saturating (R82). -/
def State.ageSlots (s : State) : State :=
  { s with slots := s.slots.map fun x => { x with age := min (x.age + 1) 65535 } }

/-- The rows whose starvation count reaches its limit with the next boundary (R110, R111). -/
def State.starvingRows (s : State) : List (Fin 16) :=
  (List.finRange 16).filter fun n =>
    match (s.limits.rows.get n).starve with
    | some c => decide (c + 1 = limitStarvation (s.tables.limitRow n))
    | none => false

/-- The starvation counts that are counting rise by 1 up to their limit (R110). -/
def State.countStarvation (s : State) : State :=
  let rows := s.limits.rows.mapIdx fun n x =>
    { x with starve := x.starve.map fun c => min (c + 1) (limitStarvation (s.tables.limitRow n)) }
  { s with limits := { s.limits with rows := rows } }

/-- STARVATION falls due for the rows of a list that still count at their limit (R111), before anything else of this core tick: a
boundary taken before a store has its starvation before it too (R110). Of two rows due at one boundary the first in index order runs
its course before the second (log entry 48). -/
def State.markStarving (s : State) (rows : List (Fin 16)) : State :=
  s.markFirst ((rows.filter fun n =>
    decide ((s.limits.rows.get n).starve = some (limitStarvation (s.tables.limitRow n)))).map DueEvent.starvation)

/-! ## The four boundaries -/

/-- A boundary that advances the beat number (R2): natural, or a SYNC restart. -/
def State.nextBeat (s : State) : State :=
  let starving := s.starvingRows
  let counted := s.countStarvation.ageSlots.dropBeatDue
  let numbered := { counted with beat := { counted.beat with number := counted.beat.number + 1 } }
  (numbered.openBeat s.sources).markStarving starving

/-- The SYNC restart (R8, R72): the pending restart becomes none and the sequencer flushes, the boundary following. -/
def State.restartBoundary (s : State) : State :=
  if s.beatRunning ∧ s.beat.restart ≠ none then
    { s with beat := { s.beat with restart := none } }.flush.nextBeat
  else s

/-- The natural beat boundary (R1), while the beat runs. At the instant of a pending restart one boundary occurs, the restart's
(R8). -/
def State.naturalBoundary (s : State) : State :=
  if s.beatRunning then if s.restartNow then (s.clearDue .restart).restartBoundary else s.nextBeat else s

/-- A restart scheduled for an instant that has come is taken up by a start boundary (R9). DESIGN CHOICE, unsafe: so is one
scheduled for the very tick at which the reload ends (log entry 52). -/
def takenUp (now : Nat) (restart : Option Nat) : Option Nat := restart.filter fun t => decide (now < t)

/-- The start boundary after a load or reload (R11, R132), which raises every age (log entry 19): `s` is the part loaded and its
conditioner started. Marks that a SWAP set after the RESET FULL of its frame are taken here (log entry 36). -/
def State.startAfterLoad (s : State) (before : Bank Bool 31) : State :=
  let beat := { s.beat with number := 0, position := 0, restart := takenUp s.now s.beat.restart }
  let mask := safeReportMask s.tables.safeRow
  ({ s with phase := .run, beat := beat, status := { s.status with mask := mask } }.latch .start).ageSlots.dropBeatDue.openBeat
    before

/-- A reload ends in standby (R156, log entry 14): no start boundary falls; the report mask is taken from the loaded table, the
conditions run their course, and a wake whose instant came during the reload falls due. -/
def State.parkAfterLoad (s : State) (before : Bank Bool 31) : State :=
  let mask := safeReportMask s.tables.safeRow
  let t := { s with phase := .standby, status := { s.status with mask := mask } }.settle before
  t.applyIf t.restartNow fun v => v.markDue .wakeStart

/-- A contact at a wake: its wake latch becomes none (R94). -/
def Contact.atWake (x : Contact) : Contact := { x with latch := none }

/-- A rotation input at a wake: edges seen 0 and interval 65535 (R104). -/
def Rotation.atWake (x : Rotation) : Rotation := { x with edgesSeen := 0, interval := 65535 }

/-- A limit row at a wake: a count that is counting restarts at 0 (R117). -/
def LimitRow.atWake (x : LimitRow) : LimitRow := { x with starve := x.starve.map fun _ => 0, declared := false }

/-- The start boundary of a wake (R11, R157): ages 0, wake latches none, START set and the cause recorded. -/
def State.wakeUp (s : State) (cause : StartCause) : State :=
  let woken : State := { s with
    phase := .run
    cause := cause
    beat := { s.beat with number := 0, position := 0, restart := none }
    slots := s.slots.map fun x => { x with age := 0 }
    contacts := s.contacts.map Contact.atWake
    rotation := s.rotation.map Rotation.atWake
    limits := { s.limits with rows := s.limits.rows.map LimitRow.atWake } }
  ((woken.latch .start).dropBeatDue.clearDue .wakeContact).openBeat s.sources

end Sys2Proof.Machine
end

