-- ==== Sys2Proof/Machine/Inputs.lean ====
section
/-! DEFINITION. The input conditioner (spec 6): contact sampling, filtered changes, rotation filtering, qualifying edges, stall
timers, and the conditioner's start. -/

namespace Sys2Proof.Machine

/-! ## Contacts (R90 to R94) -/

/-- The sampled level of a contact pin. -/
def Pins.contactLevel (p : Pins) (c : Fin 8) : Bool := p.contacts.getLsbD c

/-- A contact's hold count after a sample (R90), and whether the filtered level is to change. The change itself is the step
FILTERED_CHANGE. -/
def Contact.sample (x : Contact) (level : Bool) (debounce : Nat) : Contact × Bool :=
  if level = x.filtered then ({ x with hold := none }, false)
  else
    match x.hold with
    | none => if debounce = 0 then (x, true) else ({ x with hold := some 0 }, false)
    | some h => ({ x with hold := some (min (h + 1) 15) }, decide (debounce ≤ h + 1))

/-- The filtered level changes to the other level (R91): hold count idle, change flag set. -/
def Contact.change (x : Contact) : Contact := { x with filtered := !x.filtered, hold := none, changed := true }

/-- The wake latch differs from the filtered level (R94). -/
def Contact.wakes (x : Contact) : Bool :=
  match x.latch with
  | some l => l != x.filtered
  | none => false

/-- The contacts that differ from their latches, lowest first (R94). -/
def State.wakingContacts (s : State) : List (Fin 8) := (List.finRange 8).filter fun c => (s.contacts.get c).wakes

/-- The wake latches taken on entering standby (R94). -/
def State.takeLatches (s : State) : State :=
  { s with contacts := s.contacts.mapIdx fun c x =>
      { x with latch := if contactWakeSource (s.tables.contactRow c) then some x.filtered else none } }

/-! ## Rotation inputs (R95 to R98) -/

/-- The level of a rotation pin. -/
def Pins.rotationLevel (p : Pins) (r : Fin 3) : Bool := p.rotation.getLsbD r

/-- The pins with one rotation level replaced. -/
def Pins.setRotation (p : Pins) (r : Fin 3) (level : Bool) : Pins :=
  { p with rotation := maskOf fun q : Fin 3 => if q = r then level else p.rotationLevel q }

/-- The pins with one analog level replaced. -/
def Pins.setAnalog (p : Pins) (i : Fin 16) (raw : BitVec 12) : Pins := { p with analog := p.analog.set i raw }

/-- The comparison of a pin with the accepted level at one core tick (R95), and whether the accepted level is to change. -/
def Rotation.compare (x : Rotation) (level : Bool) (filter : Nat) : Rotation × Bool :=
  if level = x.accepted then ({ x with persistence := none }, false)
  else
    match x.persistence with
    | none => if filter = 0 then (x, true) else ({ x with persistence := some 1 }, decide (filter ≤ 1))
    | some k => ({ x with persistence := some (min (k + 1) 16) }, decide (filter ≤ k + 1))

/-- Whether an accepted change to a level is of the kind the row selects (R96). -/
def edgeQualifies (sel : EdgeSelect) (toHigh : Bool) : Bool :=
  match sel with
  | .rising => toHigh
  | .falling => !toHigh
  | .both => true

/-- The interval between two acceptance instants in µs, saturating (R97). -/
def intervalBetween (earlier later : Nat) : Nat := min ((later - earlier) / 32) 65535

/-- The interval after a qualifying edge (R97): measured when an earlier edge has been seen, else as it was. -/
def Rotation.intervalAt (x : Rotation) (now : Nat) : Nat :=
  match x.edgeTime with
  | some t => if 1 ≤ x.edgesSeen then intervalBetween t now else x.interval
  | none => x.interval

/-- A qualifying edge (R96 to R98, R100): the count by the direction, age 0, interval, stall timer restarted, STn released. -/
def Rotation.edge (x : Rotation) (dir : Dir) (now : Nat) : Rotation :=
  { x with
    count := match dir with
      | .fwd => x.count + 1
      | .rev => x.count - 1
    interval := x.intervalAt now
    edgeTime := some now
    edgesSeen := min (x.edgesSeen + 1) 2
    age := 0
    stallTimer := x.stallTimer.map fun _ => 0
    stalled := false }

/-- An accepted change (R95, R96): the accepted level becomes the pin's, and a qualifying edge takes its effect. -/
def Rotation.accept (x : Rotation) (sel : EdgeSelect) (dir : Dir) (now : Nat) : Rotation :=
  let y := { x with accepted := !x.accepted, persistence := none }
  if edgeQualifies sel y.accepted then y.edge dir now else y

/-- A rotation input at a millisecond tick (R98, R99): age and stall timer, and whether the timer comes to the window there.
DESIGN CHOICE, unsafe: with a window of 1 it does so also after an edge taken first at this core tick (R100, log entry 54). -/
def Rotation.msTick (x : Rotation) (window : Nat) : Rotation × Bool :=
  let y := { x with age := min (x.age + 1) 65535 }
  match x.stallTimer with
  | none => (y, false)
  | some t => ({ y with stallTimer := some (min (t + 1) window) }, decide (t < window ∧ window ≤ t + 1))

/-- The stall timer stands at its window (R100). -/
def Rotation.atWindow (x : Rotation) (window : Nat) : Bool := decide (0 < window) && decide (x.stallTimer = some window)

/-! ## Start and stop (R103) -/

/-- The conditioner stopped by a reset. -/
def State.stopConditioner (s : State) : State :=
  { s with contacts := Bank.all 8 Contact.atReset, rotation := Bank.all 3 Rotation.atReset }

/-- The conditioner started: levels taken from the pins without debounce, everything else as after a reset. -/
def State.startConditioner (s : State) : State :=
  { s with
    contacts := Bank.tabulate fun c => { Contact.atReset with filtered := s.pins.contactLevel c }
    rotation := Bank.tabulate fun r => { Rotation.atReset with accepted := s.pins.rotationLevel r } }

end Sys2Proof.Machine
end

