-- ==== Sys2Proof/Machine/ProfileStore.lean ====
section
/-! DEFINITION. The profile store (spec 11): checking and loading the sections, and a save block by block. -/

namespace Sys2Proof.Machine

/-! ## Sections -/

/-- The bytes of a section. -/
def Profile.bytesOf (p : Profile) : Section → List Byte
  | .cal => p.cal
  | .safe => p.safe
  | .tables => p.tables

/-- The store with a section's bytes replaced. -/
def Profile.setBytes (p : Profile) (sec : Section) (bytes : List Byte) : Profile :=
  match sec with
  | .cal => { p with cal := bytes }
  | .safe => { p with safe := bytes }
  | .tables => { p with tables := bytes }

/-- Whether a section is torn (R155). -/
def Profile.isTorn (p : Profile) : Section → Bool
  | .cal => p.torn.cal
  | .safe => p.torn.safe
  | .tables => p.torn.tables

/-- A section marked torn or whole. -/
def Profile.setTorn (p : Profile) (sec : Section) (b : Bool) : Profile :=
  match sec with
  | .cal => { p with torn := { p.torn with cal := b } }
  | .safe => { p with torn := { p.torn with safe := b } }
  | .tables => { p with torn := { p.torn with tables := b } }

/-- A section's check is good (R152); a torn section has none (R155, log entry 25). -/
def Profile.checkGood (p : Profile) (sec : Section) : Bool := !p.isTorn sec && sectionCheckGood (p.bytesOf sec)

/-! ## Loading (R153) -/

/-- The tables of a section as its stored bytes give them, clamped. -/
def Profile.sectionTables (p : Profile) (sec : Section) (t : Tables) : Tables :=
  unpackTables sec.tableIds (p.bytesOf sec) t

/-- The tables of a section at the factory defaults. -/
def defaultSection (sec : Section) (t : Tables) : Tables :=
  sec.tableIds.foldl (fun t id => t.set id (factoryTables.get id)) t

/-- Whether loaded tables pass the structural tests of SWAP (R150, R153). -/
def structurallySound (t : Tables) : Bool :=
  (structuralFailure .slot t.slot).isNone && (structuralFailure .scan t.scan).isNone

/-- A section loads from the store: its check is good and, for TABLES, the structural tests pass. -/
def Profile.loads (p : Profile) (sec : Section) (t : Tables) : Bool :=
  p.checkGood sec &&
    match sec with
    | .cal => true
    | .safe => true
    | .tables => structurallySound (p.sectionTables .tables t)

/-- A section's tables after the load: from the store, or the factory defaults (R153). -/
def Profile.loadSection (p : Profile) (sec : Section) (t : Tables) : Tables :=
  if p.loads sec t then p.sectionTables sec t else defaultSection sec t

/-- The serial number in bytes 0 to 3 of IDENTITY, most significant first; 0 when its check is bad (R152, R153). -/
def Profile.readSerial (p : Profile) : BitVec 32 :=
  if sectionCheckGood p.identity then
    wordOf (p.identity.getD 0 0) (p.identity.getD 1 0) ++ wordOf (p.identity.getD 2 0) (p.identity.getD 3 0)
  else 0

/-- The load: every section into both copies, its state recorded, the serial number read (R153). -/
def State.loadProfile (s : State) : State :=
  let p := s.profile
  let t := Section.inOrder.foldl (fun t sec => p.loadSection sec t) s.service.active
  let bad (sec : Section) : Bool := !p.loads sec s.service.active
  let states : SectionFlags :=
    { identity := !sectionCheckGood p.identity, cal := bad .cal, safe := bad .safe, tables := bad .tables }
  { s with
    service := { s.service with active := t, shadow := t }
    profile := { p with fallback := states, serial := p.readSerial } }

/-! ## Saving (R155) -/

/-- The blocks of one section's image. -/
def sectionBlocks (sec : Section) (t : Tables) : List SaveBlock :=
  (List.range sec.blocks).map fun i =>
    { sect := sec, index := i, bytes := ((sectionImage sec t).drop (32 * i)).take 32 }

/-- The blocks of a save in writing order. -/
def saveBlocks (cal safe tables : Bool) (t : Tables) : List SaveBlock :=
  (if cal then sectionBlocks .cal t else []) ++ (if safe then sectionBlocks .safe t else []) ++
    (if tables then sectionBlocks .tables t else [])

/-- A PROFILE_SAVE executed: the snapshot taken, BUSY, the remaining count set. -/
def State.beginSave (s : State) (cal safe tables : Bool) : State :=
  let job := saveBlocks cal safe tables s.tables
  { s with profile := { s.profile with save := .busy, remaining := job.length, job := job, writing := none } }

/-- The next block of a save begins (R155): its section is torn from here on. -/
def Profile.beginBlock (p : Profile) : Profile :=
  match p.job with
  | [] => p
  | b :: _ =>
    if p.save = .busy ∧ p.writing = none then { p.setTorn b.sect true with writing := some 0 } else p

/-- The section's bytes with a block written. -/
def writeBlock (bytes : List Byte) (b : SaveBlock) : List Byte :=
  bytes.take (32 * b.index) ++ b.bytes ++ bytes.drop (32 * b.index + 32)

/-- A block that reads back as the snapshot (R155): written, counted down; the section is whole with its last block. -/
def Profile.blockMatches (p : Profile) (b : SaveBlock) (rest : List SaveBlock) : Profile :=
  let whole := decide (b.index + 1 = b.sect.blocks)
  let q := p.setBytes b.sect (writeBlock (p.bytesOf b.sect) b)
  { q.setTorn b.sect (!whole) with
    remaining := p.remaining - 1
    job := rest
    writing := none
    save := if rest = [] then .idle else .busy }

/-- A block that does not (R155): the save stops FAILED; the remaining count stays and the section stays torn. -/
def Profile.blockFails (p : Profile) : Profile := { p with save := .failed, job := [], writing := none }

/-- The block being written has had its four milliseconds (R155). -/
def Profile.blockDone (p : Profile) : Bool :=
  match p.writing with
  | some k => decide (Config.blockMs ≤ k)
  | none => false

/-- The verification of the block being written (R155). -/
def State.verifyBlock (s : State) (matched : Bool) : State :=
  match s.profile.job with
  | [] => s
  | b :: rest =>
    if s.profile.save = .busy ∧ s.profile.blockDone then
      if matched then
        ({ s with profile := s.profile.blockMatches b rest }).latchIf (decide (rest = [])) .profileDone
      else ({ s with profile := s.profile.blockFails }).latch .profileFailed
    else s

/-- A save is aborted by a reset (R155): IDLE with count 0; a torn section stays torn. -/
def Profile.abortSave (p : Profile) : Profile := { p with save := .idle, remaining := 0, job := [], writing := none }

/-- A save at a millisecond tick, and what falls due there: the verification after four, or the first block's begin. -/
def Profile.msTick (p : Profile) : Profile × List DueEvent :=
  match p.save with
  | .idle => (p, [])
  | .failed => (p, [])
  | .busy =>
    match p.writing with
    | none => (p, [.blockBegin])
    | some k =>
      ({ p with writing := some (min (k + 1) Config.blockMs) },
        if Config.blockMs ≤ k + 1 then [.blockVerified, .blockBegin] else [])

end Sys2Proof.Machine
end

