-- ==== Sys2Proof/Machine/Service.lean ====
section
/-! DEFINITION. The service engine (spec 10): what carrying out a record does (R144), the verdict and reply as the record passes
(R143), and the bytes written into the record (R143, R145). -/

namespace Sys2Proof.Machine

/-! ## Carrying out (R144) -/

/-- A TABLE_WRITE carried out (R148): the rows, as clamped, into the shadow copy. -/
def State.doTableWrite (s : State) (id : TableId) (first : Nat) (rows : List Row) : State :=
  { s with service := { s.service with shadow := s.service.shadow.store id first rows } }

/-- A SWAP carried out (R150, R151): marks set, the set recorded. -/
def State.doSwap (s : State) (set : BitVec 9) : State :=
  { s with service := { s.service with marks := s.service.marks ||| set, swaps := s.service.swaps ++ [set] } }

/-- An ENABLE carried out (R21), each named unit meeting the hold action that applies at this instant. -/
def State.doEnable (s : State) (mask : Byte) : State :=
  let units := s.units.mapIdx fun u x =>
    if mask.getLsbD u then x.enableUnit (s.tables.unitRow u) (s.holdOf u) else x
  { s with units := units }.settle s.sources

/-- A DISABLE carried out (R23). A unit's entry into OFF releases FXn and ends qualifications (R99, R109) as ONE event: every row is
brought up to date with both before a unit receives its single change of hold action (R120). -/
def State.doDisable (s : State) (mask : Byte) : State :=
  let units := s.units.mapIdx fun u (x : PulseUnit) => if mask.getLsbD u then x.disableUnit else x
  ({ s with units := units }.requalify).settle s.sources

/-- A reflex row named by a CLEAR (R125); the flag tells whether it fires again. -/
def ReflexRow.cleared (x : ReflexRow) (row : Row) (sourceOn : Bool) : ReflexRow × Bool :=
  if x.active && reflexEnabled row && reflexLatched row then
    if sourceOn then (x.fire, true) else ({ active := false, fired := false }, false)
  else ({ x with fired := false }, false)

/-- The rows named by a CLEAR handled (R125), and the holds formed afresh. -/
def State.clearRows (s : State) (mask : Word16) : State :=
  let got (n : Fin 16) : ReflexRow × Bool :=
    (s.reflex.rows.get n).cleared (s.tables.reflexRow n) (s.sourceActive (reflexSource (s.tables.reflexRow n)))
  let rows := s.reflex.rows.mapIdx fun n x => if mask.getLsbD n then (got n).1 else x
  let fired := (List.finRange 16).any fun n => mask.getLsbD n && (got n).2
  ({ s with reflex := { s.reflex with rows := rows } }.latchIf fired .reflexFired).settle s.sources

/-- The safe causes that pass their tests cleared (R128): LINK always, THERMAL while THERMAL_WARN is not live, SUPPLY with the
supply recovered. -/
def State.passCauses (s : State) : State :=
  { s with reflex := { s.reflex with
      link := false
      thermal := s.reflex.thermal && s.limits.warnLive
      supply := s.reflex.supply && !s.supplyRecovered } }

/-- Every drop counter set to 0 (R69). -/
def State.clearDrops (s : State) : State :=
  { s with scan := { s.scan with entries := s.scan.entries.map fun x => { x with drops := 0 } } }

/-- A CLEAR carried out, part by part in the order of R124 (log entry 20). -/
def State.doClear (s : State) (events rows : Word16) (flags : Byte) : State :=
  let a := { s with status := { s.status with events := s.status.events &&& ~~~events } }
  let b := a.applyIf (flags.getLsbD 1) State.clearDrops
  let c := b.clearRows rows
  c.applyIf (flags.getLsbD 0) fun t => t.passCauses.settle t.sources

/-- The boundary of the present tick has been taken: a running beat stands at position 0, where a boundary alone puts it and
every tick moves it on (R1). -/
def State.boundaryTaken (s : State) : Bool := s.beatRunning && decide (s.beat.position = 0)

/-- A SYNC whose instant is the tick of a boundary already taken (R8): that boundary is the restart's too, so that none is pending,
and the sequencer flushes what was there before this tick (R72, log entry 24). -/
def State.meetBoundary (s : State) : State :=
  { s with
    beat := { s.beat with restart := none }
    scan :=
      { entries := s.scan.entries.map ScanEntry.restart
        queue := s.scan.queue.filter fun r => !r.source.isEntry || decide (r.raised = s.now)
        converter := s.scan.converter.map fun c =>
          { c with discard := c.discard || (c.request.source.isEntry && decide (c.request.raised ≠ s.now)) } } }

/-- A SYNC or WAKE carried out (R7, R157): the instant scheduled. -/
def State.schedule (s : State) (lag : Nat) : State := { s with beat := { s.beat with restart := some (s.now + lag) } }

/-- A SYNC carried out (R7, R8). Where the lag is 0 its instant is now: it falls due at once, or meets the boundary already taken. -/
def State.doSync (s : State) : State :=
  let lag := beatSyncLag s.tables.beatRow
  if 0 < lag then s.schedule lag
  else if s.boundaryTaken then s.meetBoundary
  else (s.schedule lag).markDue .restart

/-- A WAKE carried out (R157). -/
def State.doWake (s : State) : State :=
  let lag := beatSyncLag s.tables.beatRow
  (s.schedule lag).applyIf (decide (lag = 0)) fun t => t.markDue .wakeStart

/-- A STANDBY carried out (R10, R76, R94, R141, R156). One that follows a RESET FULL in its frame enters standby while the reload goes
on (log entry 14). -/
def State.doStandby (s : State) : State :=
  let parked := (s.flush.dropPlan.takeLatches).dropBeatDue
  { parked with
    phase := if s.phase = .run then .standby else if s.phase = .reloading then .standbyReload else s.phase
    beat := { s.beat with position := 0, restart := none }
    link := { s.link with timer := .stopped } }

/-- A RESET FULL carried out (R12, R36, R73, R87, R103, R117, R132, R138, R142, R151, R153, R155): the blocks cleared, the beat
stopped, the reload begun. Tables, report mask, strap and count of time stay. -/
def State.doResetFull (s : State) : State :=
  { s.resetScan.stopConditioner with
    due := s.due.filter DueEvent.outlivesReset
    phase := .reloading
    loadTicks := 0
    cause := .softFull
    beat := { s.beat with number := 0, position := 0, restart := none }
    units := s.units.map PulseUnit.resetUnit
    slots := Bank.all 26 Slot.atReset
    limits := LimitWatch.atReset
    reflex := Reflex.atReset
    status := { s.status with events := 0 }
    link := { s.link with position := 0, frameErrors := 0, timer := .stopped }
    service := { s.service with marks := 0, swaps := [] }
    profile := s.profile.abortSave }

/-- A limit row at a RESET UNITS (R117): runs 0, condition released, a count that is counting back at 0. -/
def LimitRow.atUnitsReset (x : LimitRow) : LimitRow :=
  { x with tripRun := 0, releaseRun := 0, active := false, starve := x.starve.map fun _ => 0, declared := false }

/-- A RESET UNITS carried out (R36, R72, R104, R117, R132): units OFF, flush, conditions released, rows inactive and rebuilt from
the sources that are still active, safe causes that pass their tests cleared, START set. -/
def State.doResetUnits (s : State) : State :=
  let flushed := s.flush
  let cleared : State := { flushed with
    cause := .softUnits
    units := s.units.map PulseUnit.resetUnit
    rotation := s.rotation.map fun x => { x with stallTimer := none, stalled := false }
    limits := { s.limits with rows := s.limits.rows.map LimitRow.atUnitsReset }
    reflex := { s.reflex with rows := Bank.all 16 { active := false, fired := false } } }
  ((cleared.passCauses.latch .start).requalify).settle (Bank.all 31 false)

/-- What a good frame end carries out for a record (R144), at the instant it is carried out. A WAKE whose hub has left standby since
its verdict has nothing to carry out, R157 giving DONE there, and neither has a SYNC whose hub has entered it (R7; log entry 37). -/
def State.carryOut (s : State) : Action → State
  | .tableWrite id first rows => s.doTableWrite id first rows
  | .swap set => s.doSwap set
  | .enable mask => s.doEnable mask
  | .disable mask => s.doDisable mask
  | .clear events rows flags => s.doClear events rows flags
  | .reportMask mask => { s with status := { s.status with mask := mask } }
  | .sync => if s.inStandby then s else s.doSync
  | .profileSave cal safe tables => s.beginSave cal safe tables
  | .standby => s.doStandby
  | .wake => if s.inStandby then s.doWake else s
  | .resetFull => s.doResetFull
  | .resetUnits => s.doResetUnits

/-- An earlier record of the frame taken as already done, for the judging of a later one (R143): after a WAKE every later record is
judged as by a hub still in standby, also where a contact has woken it meanwhile; a RESET FULL counts with its reload (log
entries 31 and 46); a STANDBY leaves the hub in standby. -/
def State.asIfDone (s : State) : Action → State
  | .wake => if s.inStandby then s else { s with phase := .standby }
  | .resetFull => s.doResetFull.loadProfile
  | .standby => { s.doStandby with phase := .standby }
  | a => s.carryOut a

/-- The state a record is judged on (R143). -/
def State.judgedState (s : State) (earlier : List Action) : State := earlier.foldl State.asIfDone s

/-! ## Replies (R147, R149, R158) -/

/-- A unit's 10 bytes of READ_STATE UNITS. -/
def State.unitReply (s : State) (u : Fin 4) : List Byte :=
  let x := s.units.get u
  let kind := if x.state = .off then unitKind (s.tables.unitRow u) else x.kind
  [BitVec.ofNat 8 (x.state.code + if kind = .unidir then 16 else 0)] ++ intBytes x.target ++ intBytes x.demand ++
    [BitVec.ofNat 8 x.foldLevel] ++ intBytes x.applied ++ natBytes x.onTime

/-- A slot's 5 bytes of READ_STATE RESULTS. -/
def State.slotReply (s : State) (n : Nat) : List Byte :=
  let x := s.slots.get (Fin.ofNat 26 n)
  natBytes x.value ++ natBytes x.age ++ [BitVec.ofNat 8 (x.fresh.toNat)]

/-- The bits of a rotation input's stall condition and count direction. -/
def State.rotationBits (s : State) (r : Fin 3) : Byte :=
  BitVec.ofNat 8 (natOfBits [(s.rotation.get r).stalled, decide (s.edgeDir r = .rev)])

/-- A rotation input's 8 bytes of READ_STATE INPUTS. -/
def State.rotationReply (s : State) (r : Fin 3) : List Byte :=
  let x := s.rotation.get r
  wordBytes x.count ++ natBytes x.interval ++ natBytes x.age ++
    [match x.stallTimer with
     | some t => BitVec.ofNat 8 t
     | none => 0xFF] ++ [s.rotationBits r]

/-- READ_STATE INPUTS. -/
def State.inputsReply (s : State) : List Byte :=
  [s.levelMask, s.changeMask, s.contactMask] ++ ((List.finRange 3).map s.rotationReply).flatten

/-- READ_STATE CONDITIONS. -/
def State.conditionsReply (s : State) : List Byte :=
  let st := natOfBits ((List.finRange 3).map fun r => (s.rotation.get r).stalled)
  let fx := natOfBits ((List.finRange 4).map fun u => (s.units.get u).exhausted)
  wordBytes s.limitMask ++ [s.contactMask, BitVec.ofNat 8 (st + 16 * fx)] ++ wordBytes s.rowMask ++
    [BitVec.ofNat 8 s.causeBits]

/-- READ_STATE EVENTS. -/
def State.eventsReply (s : State) : List Byte :=
  wordBytes s.status.events ++ wordBytes s.status.mask ++ wordBytes s.firedMask ++ natBytes s.link.frameErrors ++
    (List.finRange 24).map fun e => BitVec.ofNat 8 (s.scan.entries.get e).drops

/-- The codes of the section states (R158). -/
def SectionFlags.byte (f : SectionFlags) : Byte := BitVec.ofNat 8 (natOfBits [f.identity, f.cal, f.safe, f.tables])

/-- IDENTIFY (R147, R158), with the hub's position in this frame. -/
def State.identifyReply (s : State) (position : Nat) : List Byte :=
  wordBytes 0x3A71 ++ wordBytes 0x0420 ++ [Config.revision] ++
    wordBytes (s.profile.serial.extractLsb' 16 16) ++ wordBytes (s.profile.serial.extractLsb' 0 16) ++
    [BitVec.ofNat 8 position, BitVec.ofNat 8 s.strap.toNat, BitVec.ofNat 8 s.cause.code, s.profile.fallback.byte,
     BitVec.ofNat 8 s.profile.save.code, BitVec.ofNat 8 s.profile.remaining]

/-- TABLE_READ (R149). -/
def State.tableReply (s : State) (id : TableId) (shadow : Bool) (first count : Nat) : List Byte :=
  ((((if shadow then s.service.shadow else s.service.active).get id).drop first).take count).flatten

/-! ## Verdicts (R143) -/

/-- A verdict with its reply and what a good frame end is to carry out. -/
structure Reply where
  verdict : Verdict
  bytes   : List Byte
  action  : Option Action
  deriving DecidableEq, Repr

/-- A refusal. -/
def Reply.refuse (v : Verdict) : Reply := { verdict := v, bytes := [], action := none }

/-- A record answered by its reply alone. -/
def Reply.tell (bytes : List Byte) : Reply := { verdict := .done, bytes := bytes, action := none }

/-- A record accepted. -/
def Reply.accept (a : Action) : Reply := { verdict := .accepted, bytes := [], action := some a }

/-- A named unit is in OFF (R20), or is not (R22). -/
def State.anyNamed (s : State) (mask : Byte) (off : Bool) : Bool :=
  (List.finRange 4).any fun u => mask.getLsbD u && (decide ((s.units.get u).state = .off) == off)

/-- The first structural failure of a set of shadow copies, in table id order (R150): table id and offending row. -/
def State.swapFailure (s : State) (set : BitVec 9) : Option (TableId × Nat) :=
  (TableId.inOrder.filter fun id => inSet set id).findSome? fun id =>
    (structuralFailure id (s.service.shadow.get id)).map fun row => (id, row)

/-- A cause would remain after a CLEAR with the SAFE flag (R124, R128). -/
def State.causeRemains (s : State) : Bool :=
  (s.reflex.thermal && s.limits.warnLive) || (s.reflex.supply && !s.supplyRecovered)

/-- Every unit is in OFF (R146, R156). -/
def State.allOff (s : State) : Bool := (List.finRange 4).all fun u => decide ((s.units.get u).state = .off)

/-- The answer to a sound request by a hub neither in standby nor reloading, or a WAKE in standby (R146 to R150, R154). A save accepted
earlier in the frame gives BUSY to a PROFILE_SAVE unless an accepted RESET FULL between the two aborts it (log entry 50). -/
def State.answerAsk (s : State) (earlier : List Action) (position : Nat) : Ask → Reply
  | .identify => .tell (s.identifyReply position)
  | .readUnits => .tell ((List.finRange 4).map s.unitReply).flatten
  | .readResults first count => .tell (((List.range count).map fun i => s.slotReply (first + i)).flatten)
  | .readInputs => .tell s.inputsReply
  | .readConditions => .tell s.conditionsReply
  | .readEvents => .tell s.eventsReply
  | .tableWrite id first rows =>
    if rows = [] then .tell []
    else if inSet s.service.marks id then .refuse .busy
    else
      let action := Action.tableWrite id first (clampRows id first rows)
      match firstClamped id first rows with
      | none => .accept action
      | some n => { verdict := .clamped, bytes := [BitVec.ofNat 8 n], action := some action }
  | .tableRead id shadow first count => .tell (s.tableReply id shadow first count)
  | .swap set =>
    if set = 0 then .tell []
    else
      match s.swapFailure set with
      | some (id, row) =>
        { verdict := .badTable, bytes := [BitVec.ofNat 8 id.code, BitVec.ofNat 8 row], action := none }
      | none => .accept (.swap set)
  | .enable mask => if s.anyNamed mask true then .accept (.enable mask) else .tell []
  | .disable mask => if s.anyNamed mask false then .accept (.disable mask) else .tell []
  | .clear events rows flags =>
    { verdict := if flags.getLsbD 0 && s.causeRemains then .notNow else .done
      bytes := []
      action := some (.clear events rows flags) }
  | .reportMask mask => .accept (.reportMask mask)
  | .sync => .accept .sync
  | .profileSave cal safe tables =>
    if (cal || safe || tables) = false then .tell []
    else if s.strap then .refuse .isProtected
    else if s.profile.save = .busy then .refuse .busy
    else .accept (.profileSave cal safe tables)
  | .standby =>
    if !s.allOff then .refuse .notNow else if s.profile.save = .busy then .refuse .busy else .accept .standby
  | .wake => if s.inStandby ∧ Action.wake ∉ earlier then .accept .wake else .tell []
  | .resetFull => .accept .resetFull
  | .resetUnits => .accept .resetUnits

/-- The verdict on a record (R143): kind, arguments, state checks, then the kind's own; `earlier` are the actions accepted before
it in the frame. Replies are drawn from the state so judged as well (log entry 38). -/
def State.judge (s : State) (earlier : List Action) (position kind : Nat) (broadcast : Bool) (params : List Byte) : Reply :=
  let now := s.judgedState earlier
  match parseAsk kind params with
  | .error .badKind => .refuse .badKind
  | parsed =>
    if broadcast && !broadcastAllowed kind then .refuse .badKind
    else
      match parsed with
      | .error v => .refuse v
      | .ok ask =>
        if now.inStandby ∧ ask ≠ .wake then .refuse .notNow
        else if now.reloading ∧ Action.resetFull ∉ earlier then .refuse .busy
        else now.answerAsk earlier position ask

/-- The bytes written from the verdict byte of a record addressed to this hub alone (R143): a reply longer than the room is cut
at the last byte that fits, a TABLE_READ's as well, be it inside a row (log entry 49), and turns an agreeing verdict into NO_ROOM. -/
def Reply.addressed (r : Reply) (room : Nat) : List (Option Byte) :=
  let agrees := decide (r.verdict = .done) || decide (r.verdict = .accepted) || decide (r.verdict = .clamped)
  let verdict := if room < r.bytes.length ∧ agrees then Verdict.noRoom else r.verdict
  let written := r.bytes.take room
  [some verdict.code, some (BitVec.ofNat 8 written.length)] ++ written.map some

/-- The bytes written into a broadcast record (R145): the verdict in reply byte p − 1 and nothing else. -/
def Reply.broadcast (r : Reply) (position : Nat) : List (Option Byte) :=
  List.replicate (position + 1) none ++ [some r.verdict.code]

/-- A record's answer at its verdict byte: what is written in place, and what is to be carried out. A record for another position
passes; a broadcast record with room below 4 gets BAD_ARG in its verdict field (R143, R145). DESIGN CHOICE, unsafe: the reply length
passes there as it arrived (log entry 57). -/
def State.answerRecord (s : State) (earlier : List Action) (position : Nat) (target : Byte) (kind : Nat)
    (params : List Byte) (room : Nat) : List (Option Byte) × Option Action :=
  if target.toNat = 15 then
    if room < 4 then ([some Verdict.badArg.code], none)
    else
      let r := s.judge earlier position kind true params
      (r.broadcast position, r.action)
  else if target.toNat = position then
    let r := s.judge earlier position kind false params
    (r.addressed room, r.action)
  else ([], none)

/-- A record given as a command of its own: judged as the only record of a frame that ends good, and carried out at once (log
entry 4). While the ports are silent no record reaches the hub (R142). -/
def State.serve (s : State) (kind position : Nat) (target : Byte) (params : List Byte) (room : Nat) : State :=
  if s.forwarding then
    let got := s.answerRecord [] position target kind params room
    let t := { s with answer := got.1 }
    match got.2 with
    | some a => t.carryOut a
    | none => t
  else { s with answer := [] }

/-- A record of a kind, from its request. -/
def State.serveRequest (s : State) (kind : Nat) (r : Request) : State := s.serve kind r.position r.target r.params r.room

end Sys2Proof.Machine
end

