-- ==== Sys2Proof/Machine/LinkEngine.lean ====
section
/-! DEFINITION. The link engine (spec 9): routing and ports, the pass of a run arriving on UP byte by byte, gives and takes, the
two checks, and the frame end; the transparent way of a run arriving on DOWN. -/

namespace Sys2Proof.Machine

/-! ## Gives and takes (R140) -/

/-- A SAMPLES segment (R83): values and fresh flags of slots s to s+2, the low byte of the beat number. -/
def State.samplesBytes (s : State) (first : Nat) : List Byte :=
  let slot (i : Nat) : Slot := s.slots.get (Fin.ofNat 26 (first + i))
  natBytes (slot 0).value ++ natBytes (slot 1).value ++ natBytes (slot 2).value ++
    [BitVec.ofNat 8 (natOfBits [(slot 0).fresh, (slot 1).fresh, (slot 2).fresh]), s.beat.number.extractLsb' 0 8]

/-- A MOTION segment (R102). -/
def State.motionBytes (s : State) (r : Fin 3) : List Byte :=
  let x := s.rotation.get r
  wordBytes x.count ++ natBytes x.interval ++ natBytes x.age ++ [s.rotationBits r, 0]

/-- A STATUS segment (R92, R140) with this frame's position. -/
def State.statusBytes (s : State) (position : Nat) : List Byte :=
  [s.levelMask, s.changeMask] ++ wordBytes s.unitStateWord ++ wordBytes s.summary ++
    [BitVec.ofNat 8 (s.causeBits + 16 * position), 0]

/-- The fresh flags of three slots cleared by a fill (R83). -/
def State.clearFresh (s : State) (first : Nat) : State :=
  { s with slots := s.slots.mapIdx fun n x =>
      if first ≤ n.val ∧ n.val ≤ first + 2 then { x with fresh := false } else x }

/-- The change flags cleared by a fill (R92). -/
def State.clearChanges (s : State) : State :=
  { s with contacts := s.contacts.map fun x => { x with changed := false } }

/-- A give segment filled (R140): the eight bytes, and the flags its fill clears. A take gives none. -/
def State.fill (s : State) (row : Row) (position : Nat) : State × List Byte :=
  match slotKind row with
  | .drivePair => (s, [])
  | .samples => (s.clearFresh (slotFirst row), s.samplesBytes (slotFirst row))
  | .motion => (s, s.motionBytes (Fin.ofNat 3 (slotFirst row)))
  | .status => (s.clearChanges, s.statusBytes position)

/-- A setpoint staged for a unit (R140); NONE stages nothing. -/
def stageFor (staging : Bank (Option Setpoint) 4) (u : Nat) (sp : Setpoint) : Bank (Option Setpoint) 4 :=
  match namedUnit u with
  | some v => staging.set v (some sp)
  | none => staging

/-- A take segment's setpoints into staging, raw (R140). -/
def State.take (s : State) (row : Row) (seg : List Byte) : State :=
  match slotKind row with
  | .drivePair =>
    let a : Setpoint := { target := rowWord seg 0, flags := rowByte seg 2 }
    let b : Setpoint := { target := rowWord seg 4, flags := rowByte seg 6 }
    { s with link := { s.link with
        staging := stageFor (stageFor s.link.staging (slotFirst row) a) (slotSecond row) b } }
  | .samples => s
  | .motion => s
  | .status => s

/-- The enabled SLOT entry of a segment, if any. -/
def State.slotOf (s : State) (segment : Nat) : Option Row :=
  s.tables.slot.find? fun r => slotEnabled r && decide (slotSegment r = segment)

/-! ## The header of a run, as far as it has arrived -/

/-- Segment count S. -/
def segments (rx : List Byte) : Nat := rowNat rx 4

/-- Record count. -/
def records (rx : List Byte) : Nat := rowNat rx 5

/-- Service area length A. -/
def areaLength (rx : List Byte) : Nat := rowWordNat rx 6

/-- The index of the first byte of the service area. -/
def areaStart (rx : List Byte) : Nat := 8 + 8 * segments rx

/-- The index of the presence mask. -/
def maskStart (rx : List Byte) : Nat := areaStart rx + areaLength rx

/-- The frame's length by its header: 8 + 8S + A + 4. -/
def frameLength (rx : List Byte) : Nat := maskStart rx + 4

/-! ## Ports (R133) -/

/-- A port is busy from a run's start byte until its last byte has been sent. -/
def portBusy (port : PortState) (now : Nat) : Bool :=
  match port with
  | .free => false
  | .sending _ _ => true
  | .draining freeAt => decide (now < freeAt)

/-- The state of a port after a run ended with some idle characters: the last byte leaves two characters after it arrived, so a
second idle character finds the port free (log entry 23). -/
def portAfter (now idles : Nat) : PortState := if 2 ≤ idles then .free else .draining (now + Config.characterTicks)

/-- The port a route leads to, replaced. -/
def Link.setPort (l : Link) (toUp : Bool) (port : PortState) : Link :=
  if toUp then { l with upPort := port } else { l with downPort := port }

/-- The port a route leads to. -/
def Link.port (l : Link) (toUp : Bool) : PortState := if toUp then l.upPort else l.downPort

/-- The run last sent on a port, replaced. -/
def Link.setSent (l : Link) (toUp : Bool) (bytes : List Byte) : Link :=
  if toUp then { l with upSent := bytes } else { l with downSent := bytes }

/-- Bytes sent on a port after those of the run so far. -/
def Link.send (l : Link) (toUp : Bool) (bytes : List Byte) : Link :=
  if toUp then { l with upSent := l.upSent ++ bytes } else { l with downSent := l.downSent ++ bytes }

/-! ## One byte of a run arriving on UP (R135 to R137) -/

/-- What one byte does: the state, the pass, and the byte as the hub sends it. -/
structure Passing where
  state : State
  pass  : Pass
  out   : Byte

/-- A byte that passes as received. -/
def passThrough (s : State) (p : Pass) (b : Byte) : Passing := { state := s, pass := p, out := b }

/-- A byte at which a format error is found (R137): it and every later byte pass as received (log entry 22). -/
def formatError (s : State) (p : Pass) (b : Byte) : Passing :=
  { state := s, pass := { p with error := true, overlay := [] }, out := b }

/-- The next byte written in place, when there is one; else the byte as received. -/
def overlaid (s : State) (p : Pass) (b : Byte) : Passing :=
  match p.overlay with
  | some w :: rest => { state := s, pass := { p with overlay := rest }, out := w }
  | none :: rest => { state := s, pass := { p with overlay := rest }, out := b }
  | [] => passThrough s p b

/-- A header byte (R135, R137), index 1 to 7; `p.received` already holds it. -/
def headerByte (s : State) (p : Pass) (i : Nat) (b : Byte) : Passing :=
  if i = 1 then
    if b = 0 then { state := s, pass := p, out := if p.toUp then 1 else 0 } else formatError s p b
  else if i = 3 then
    if 3 < b.toNat then formatError s p b
    else { state := s, pass := { p with position := b.toNat + 1 }, out := BitVec.ofNat 8 (b.toNat + 1) }
  else if i = 4 then (if 32 < b.toNat then formatError s p b else passThrough s p b)
  else if i = 5 then (if 8 < b.toNat then formatError s p b else passThrough s p b)
  else if i = 7 then passThrough s { p with recordAt := areaStart p.received } b
  else passThrough s p b

/-- A byte of a segment (R135, R140): the SLOT table is consulted at its first byte (log entry 40); a give is filled there, all its
eight bytes, and a take is staged at the last byte. -/
def segmentByte (s : State) (p : Pass) (i : Nat) (b : Byte) : Passing :=
  if (i - 8) % 8 = 0 then
    match s.slotOf ((i - 8) / 8) with
    | none => passThrough s { p with slotRow := none, overlay := [] } b
    | some row =>
      let got := s.fill row p.position
      overlaid got.1 { p with slotRow := some row, overlay := got.2.map some } b
  else
    match p.slotRow with
    | none => overlaid s p b
    | some row =>
      let t := if (i - 8) % 8 = 7 then s.take row (p.received.drop (i - 7)) else s
      overlaid t p b

/-- The bytes of the record being passed. -/
def Pass.record (p : Pass) : List Byte := p.received.drop p.recordAt

/-- A byte of the service area (R135, R137, R143). -/
def areaByte (s : State) (p : Pass) (i : Nat) (b : Byte) : Passing :=
  if records p.received ≤ p.recordNo then passThrough s p b
  else
    let off := i - p.recordAt
    let rec_ := p.record
    let plen := rowNat rec_ 2
    let room := rowNat rec_ 3
    if off = 2 then (if 48 < plen then formatError s p b else passThrough s p b)
    else if off = 3 then
      if 48 < room ∨ maskStart p.received < p.recordAt + 6 + plen + room then formatError s p b else passThrough s p b
    else if off < 4 + plen then passThrough s p b
    else
      let q : Pass :=
        if off = 4 + plen then
          let got := s.answerRecord p.accepted p.position (rowByte rec_ 0) (rowNat rec_ 1)
            ((rec_.drop 4).take plen) room
          { p with overlay := got.1, accepted := p.accepted ++ got.2.toList }
        else p
      let r := overlaid s q b
      if off = 5 + plen + room then
        { r with pass := { r.pass with overlay := [], recordNo := p.recordNo + 1, recordAt := i + 1 } }
      else r

/-- This hub's bit in the presence and attention masks. -/
def positionBit (position : Nat) : Byte := 1#8 <<< (position - 1)

/-- A mask byte (R135): the service area must have been filled exactly; presence but in standby, attention while the event
summary is not empty. -/
def maskByte (s : State) (p : Pass) (i : Nat) (b : Byte) : Passing :=
  if i = maskStart p.received then
    if p.recordNo ≠ records p.received ∨ p.recordAt ≠ maskStart p.received then formatError s p b
    else if s.inStandby then passThrough s p b
    else { state := s, pass := p, out := b ||| positionBit p.position }
  else if s.summary = 0 then passThrough s p b
  else { state := s, pass := p, out := b ||| positionBit p.position }

/-- A byte that the checks cover, by its place in the frame. -/
def coveredByte (s : State) (p : Pass) (i : Nat) (b : Byte) : Passing :=
  if p.error then passThrough s p b
  else if i < 8 then headerByte s p i b
  else if i < areaStart p.received then segmentByte s p i b
  else if i < maskStart p.received then areaByte s p i b
  else maskByte s p i b

/-- The check as the hub sends it (R136): the forwarded check, inverted after a bad check or a format error. -/
def Pass.sentCheck (p : Pass) : Word16 := if p.checkGood && !p.error then p.crcOut else ~~~p.crcOut

/-- A SLOT mark takes effect at an OUT frame's start on UP (R139, R151, log entry 21). -/
def State.slotSwap (s : State) : State :=
  if inSet s.service.marks .slot then s.takeMarks 1#9 else s

/-- One byte, from index 1 on, of a frame this hub passes on (R135 to R137). -/
def passByte (s : State) (p : Pass) (b : Byte) : State × Pass :=
  let i := p.received.length
  let q := { p with received := p.received ++ [b] }
  if i < 8 ∨ i < maskStart q.received + 2 then
    let r := coveredByte s q i b
    let pass := { r.pass with crcIn := crcByte q.crcIn b, crcOut := crcByte q.crcOut r.out }
    ({ r.state with link := r.state.link.send p.toUp [r.out] }, pass)
  else if i = maskStart q.received + 2 then (s, q)
  else if i = maskStart q.received + 3 then
    let r := { q with checkGood := decide (rowWord q.received (i - 1) = q.crcIn) }
    ({ s with link := s.link.send p.toUp (wordBytes r.sentCheck) }, r)
  else ({ s with link := s.link.send p.toUp [b] }, q)

/-! ## The run arriving on UP -/

/-- A pass as it opens with its start byte. -/
def Pass.opened (toUp dropped blocked : Bool) (started : Nat) (start : Byte) : Pass where
  toUp := toUp
  dropped := dropped
  started := started
  blocked := blocked
  received := [start]
  position := 0
  error := false
  crcIn := crcByte 0 start
  crcOut := crcByte 0 start
  checkGood := false
  slotRow := none
  overlay := []
  recordAt := 0
  recordNo := 0
  accepted := []

/-- The start byte of a run on UP (R133): the DOWN state as it stands (log entry 41) settles where an OUT frame goes, and whether that
port is busy; a run that does not begin with D5h is no frame. The port is taken at the direction byte, which shows whether the
frame is routed at all. -/
def State.startUp (s : State) (b : Byte) : State :=
  let toUp := !s.link.downLive
  { s with link := { s.link with
      upRun := some (Pass.opened toUp (decide (b ≠ 0xD5)) (portBusy (s.link.port toUp) s.now) s.now b) } }

/-- The UP port is being used by a run from DOWN. -/
def PortState.fromDown : PortState → Bool
  | .sending up _ => !up
  | .free => false
  | .draining _ => false

/-- A port is used by a run of the other line that began before an instant; begun at that very instant, the run from DOWN has it
(R133). -/
def PortState.takenBefore (port : PortState) (fromUp : Bool) (started : Nat) : Bool :=
  match port with
  | .sending up since => (up != fromUp) && (decide (since < started) || (fromUp && decide (since = started)))
  | .free => false
  | .draining _ => false

/-- The run from DOWN dropped in favour of one from UP that began earlier and takes its port (R133). -/
def Link.yieldDown (l : Link) : Link := { l with downRun := l.downRun.map fun r => { r with dropped := true } }

/-- The direction byte of a run on UP (R133): RETURN is dropped, and so is a frame whose port was busy at its start byte; any other
takes its port, from that start byte on. -/
def State.routeUp (s : State) (p : Pass) (b : Byte) : State :=
  if b = 1 ∨ p.blocked ∨ (s.link.port p.toUp).takenBefore true p.started then
    { s with link := { s.link with upRun := some { p with dropped := true, received := p.received ++ [b] } } }
  else
    let l := if (s.link.port p.toUp).fromDown then s.link.yieldDown else s.link
    let taken := (l.setPort p.toUp (.sending true p.started)).setSent p.toUp p.received
    let r := passByte { s with link := { taken with staging := Bank.all 4 none } } p b
    { r.1 with link := { r.1.link with upRun := some r.2 } }

/-- One byte of a run on UP after its start byte. -/
def State.nextUp (s : State) (p : Pass) (b : Byte) : State :=
  let first := decide (p.received.length = 1)
  let isFrame := decide (p.received.head? = some 0xD5)
  let t := s.applyIf (first && isFrame && decide (b = 0)) State.slotSwap
  if p.dropped then
    { t with link := { t.link with upRun := some { p with received := p.received ++ [b] } } }
  else if first then t.routeUp p b
  else
    let r := passByte t p b
    { r.1 with link := { r.1.link with upRun := some r.2 } }

/-- One byte arriving on UP. -/
def State.byteUp (s : State) (b : Byte) : State :=
  match s.link.upRun with
  | none => s.startUp b
  | some p => s.nextUp p b

/-- The frame end is good (R134): length, no format error, check. -/
def Pass.good (p : Pass) : Bool :=
  decide (p.received.length = frameLength p.received) && decide (p.received.length ≤ Config.maxFrame) &&
    !p.error && p.checkGood

/-- The setpoints in staging become pending targets (R24, R138). -/
def State.commitStaging (s : State) : State :=
  let units := s.units.mapIdx fun u (x : PulseUnit) =>
    match s.link.staging.get u with
    | some sp => { x with pending := some sp }
    | none => x
  { s with units := units, link := { s.link with staging := Bank.all 4 none } }

/-- The link timer restarts (R141), outside standby and outside a reload. -/
def State.restartTimer (s : State) : State :=
  if s.phase = .run then
    { s with link := { s.link with timer := .running 0 } }.latchIf (decide (s.link.timer = LinkTimer.expired)) .linkRestored
  else s

/-- The position of a good frame end recorded (R138). -/
def State.recordPosition (s : State) (p : Nat) : State :=
  { s with link := { s.link with position := p } }.latchIf
    (decide (s.link.position ≠ 0) && decide (s.link.position ≠ p)) .positionChanged

/-- A good frame end, in the order of R138. -/
def State.goodEnd (s : State) (position : Nat) (accepted : List Action) : State :=
  accepted.foldl State.carryOut ((s.commitStaging.restartTimer).recordPosition position)

/-- A bad frame end (R138). -/
def State.badEnd (s : State) : State :=
  { s with link := { s.link with
      staging := Bank.all 4 none
      frameErrors := min (s.link.frameErrors + 1) 65535 } }.latch .frameError

/-- The check byte still held back when a run ends between the two bytes of its check (log entry 8). -/
def Pass.heldBack (p : Pass) : List Byte :=
  if 8 ≤ p.received.length ∧ p.received.length = maskStart p.received + 3 then (wordBytes p.sentCheck).take 1 else []

/-- The idle characters that end a run on UP (R134, R138). A dropped run has no frame end here. A start byte alone has no route: it is
forwarded nowhere and ends bad (log entry 42). -/
def State.endUp (s : State) (p : Pass) (idles : Nat) : State :=
  if p.dropped then { s with link := { s.link with upRun := none } }
  else if p.received.length = 1 then { s with link := { s.link with upRun := none } }.badEnd
  else
    let l := (s.link.send p.toUp p.heldBack).setPort p.toUp (portAfter s.now idles)
    let t := { s with link := { l with upRun := none } }
    if p.good then t.goodEnd p.position p.accepted else t.badEnd

/-- Idle characters on UP: they end a run, and free a port that was sending the end of one. -/
def State.idleUp (s : State) (idles : Nat) : State :=
  if idles = 0 then s
  else
    match s.link.upRun with
    | none => s
    | some p => s.endUp p idles

/-- A run part of which arrived while the ports were silent: what follows of it is lost too (R142, log entry 26). -/
def Pass.lost (now : Nat) : Pass := Pass.opened false true false now 0

/-- Characters that arrive on UP while the ports are silent are lost (R142); an idle character ends the run they belong to. -/
def State.missUp (s : State) (bytes : List Byte) (idles : Nat) : State :=
  if 0 < idles then { s with link := { s.link with upRun := none } }
  else if bytes = [] then s
  else { s with link := { s.link with upRun := some (Pass.lost s.now) } }

/-- Characters arriving on UP. -/
def State.receiveUp (s : State) (bytes : List Byte) (idles : Nat) : State :=
  if s.forwarding then (bytes.foldl State.byteUp s).idleUp idles else s.missUp bytes idles

/-! ## The run arriving on DOWN (R133) -/

/-- A character on DOWN makes it LIVE, once the hub forwards (R133, R142). -/
def State.downCharacter (s : State) : State :=
  if s.forwarding then { s with link := { s.link with downLive := true, downSilence := 0 } } else s

/-- The UP port is held by a run from UP whose start byte came at this very tick (R133): a RETURN frame from DOWN is then kept. -/
def State.upPortYields (s : State) : Bool := decide (s.link.upPort = .sending true s.now)

/-- The run from UP dropped in favour of a RETURN frame from DOWN that takes its port (R133); nothing of it stays staged. -/
def Link.yieldUp (l : Link) : Link :=
  { l with upRun := l.upRun.map fun p => { p with dropped := true }, staging := Bank.all 4 none }

/-- The start byte of a run on DOWN: whether the UP port is busy for it. -/
def State.startDown (s : State) (b : Byte) : State :=
  let run : DownRun :=
    { received := [b]
      dropped := decide (b ≠ 0xD5)
      started := s.now
      blocked := portBusy s.link.upPort s.now && !s.upPortYields }
  { s with link := { s.link with downRun := some run } }

/-- The direction byte of a run on DOWN (R133): RETURN takes the UP port from its start byte on, unless that was busy; any other code
is dropped. -/
def State.routeDown (s : State) (r : DownRun) (b : Byte) : State :=
  let q := { r with received := r.received ++ [b] }
  if b ≠ 1 ∨ r.blocked ∨ s.link.upPort.takenBefore false r.started then
    { s with link := { s.link with downRun := some { q with dropped := true } } }
  else
    let l := match s.link.upPort with
      | .sending true _ => s.link.yieldUp
      | .sending false _ => s.link
      | .free => s.link
      | .draining _ => s.link
    { s with link := { l with downRun := some q, upPort := .sending false r.started, upSent := q.received } }

/-- One byte of a run on DOWN after its start byte: RETURN traffic goes up unchanged. -/
def State.nextDown (s : State) (r : DownRun) (b : Byte) : State :=
  let q := { r with received := r.received ++ [b] }
  if r.dropped then { s with link := { s.link with downRun := some q } }
  else if r.received.length = 1 then s.routeDown r b
  else { s with link := { s.link with downRun := some q, upSent := s.link.upSent ++ [b] } }

/-- One byte arriving on DOWN. -/
def State.byteDown (s : State) (b : Byte) : State :=
  match s.link.downRun with
  | none => s.downCharacter.startDown b
  | some r => s.downCharacter.nextDown r b

/-- The run on DOWN ends, leaving the UP port as `port` if it was sent there. A start byte alone has no route and is forwarded
nowhere (log entry 42). -/
def Link.endDown (l : Link) (port : PortState) : Link :=
  match l.downRun with
  | none => l
  | some r => { l with downRun := none, upPort := if r.dropped ∨ r.received.length = 1 then l.upPort else port }

/-- The idle characters that end a run on DOWN. -/
def State.idleDown (s : State) (idles : Nat) : State :=
  if idles = 0 then s
  else
    let t := s.downCharacter
    { t with link := t.link.endDown (portAfter t.now idles) }

/-- A run on DOWN part of which arrived while the ports were silent (R142, log entry 26). -/
def DownRun.lost (now : Nat) : DownRun := { received := [0], dropped := true, started := now, blocked := false }

/-- Characters that arrive on DOWN while the ports are silent are lost, with the rest of their run (R142). -/
def State.missDown (s : State) (bytes : List Byte) (idles : Nat) : State :=
  if 0 < idles then { s with link := { s.link with downRun := none } }
  else if bytes = [] then s
  else { s with link := { s.link with downRun := some (DownRun.lost s.now) } }

/-- Characters arriving on DOWN. -/
def State.receiveDown (s : State) (bytes : List Byte) (idles : Nat) : State :=
  if s.forwarding then (bytes.foldl State.byteDown s).idleDown idles else s.missDown bytes idles

end Sys2Proof.Machine
end

