-- ==== Sys2Proof/Machine/ResetCommands.lean ====
section
/-! DEFINITION. The commands that begin and end a reset: POWER_UP, RESET_PIN and PROFILE_LOAD_END (R153, R11). -/

namespace Sys2Proof.Machine

/-- The reset as power-up and the reset pin take it (R12, R36, R73, R87, R103, R117, R132, R142, R151, R153, R155): every block
cleared from this moment, the profile load begun. The tables and the report mask keep their contents until the load ends; the
queue of commands, the pins, the store's bytes and the clock are no part of what is reset (log entry 12). The beat number is 0 from here on (log entry 6). -/
def State.takeReset (s : State) (cause : StartCause) : State :=
  { s with
    due := []
    phase := .loading
    loadTicks := 0
    cause := cause
    beat := { s.beat with number := 0, position := 0, restart := none, divider := 0 }
    units := s.units.map PulseUnit.resetUnit
    scan := Scan.atReset
    slots := Bank.all 26 Slot.atReset
    contacts := Bank.all 8 Contact.atReset
    rotation := Bank.all 3 Rotation.atReset
    limits := LimitWatch.atReset
    reflex := Reflex.atReset
    status := { s.status with events := 0 }
    link := Link.atReset
    service := { s.service with marks := 0, swaps := [] }
    profile := s.profile.abortSave
    answer := [] }

/-- The load or reload ends (R153, R103, R11): sections loaded, conditioner started on the pins as they stand, start
boundary, which a hub in standby does without (R156). No condition counts as active before, so that every enabled row whose source
is active there fires (R132). The sections are read as they stand at this instant, the load's end (log entry 51). -/
def State.endLoad (s : State) (contacts : Byte) : State :=
  if s.phase = .loading ∨ s.reloading then
    let pinned := { s with pins := { s.pins with contacts := contacts } }.clearDue .loadEnd
    let loaded := pinned.loadProfile.startConditioner
    if s.phase = .standbyReload then loaded.parkAfterLoad (Bank.all 31 false) else loaded.startAfterLoad (Bank.all 31 false)
  else s

/-- POWER_UP (R153, R154): the reset, and the strap sampled. -/
def execPowerUp (strap : Bool) (s : State) : Host.Outcome State Fault Refusal :=
  .next { s.takeReset .power with strap := strap }

/-- RESET_PIN (R153): the reset, the strap sample kept. -/
def execResetPin (s : State) : Host.Outcome State Fault Refusal := .next (s.takeReset .resetPin)

/-- PROFILE_LOAD_END (R153, R11). -/
def execProfileLoadEnd (contacts : Byte) (s : State) : Host.Outcome State Fault Refusal := .next (s.endLoad contacts)

end Sys2Proof.Machine
end

