-- ==== Sys2Proof/Machine/InputCommands.lean ====
section
/-! DEFINITION. The commands of the input conditioner (spec 6): filtered and accepted changes, stalls, and the rotation pins. -/

namespace Sys2Proof.Machine

/-- A filtered change (R91) while the conditioner runs: the level, the flag, and the course of CTn's change. In standby a wake
source that now differs from its latch falls due to wake the part (R94). -/
def State.changeContact (s : State) (c : Fin 8) : State :=
  if s.conditionerRunning then
    let t := (s.setContact c (s.contacts.get c).change).settle s.sources
    if t.phase = .standby ∧ (t.contacts.get c).wakes then t.markDue .wakeContact else t
  else s

/-- A stall (R100): the timer stands at the window; STn becomes active. Of two due at one tick the first runs its course before the
second (log entry 44). -/
def State.stallInput (s : State) (r : Fin 3) : State :=
  if (s.rotation.get r).atWindow (rotationStallWindow (s.tables.rotationRow r)) then
    (s.setRotation r { s.rotation.get r with stalled := true }).settle s.sources
  else s

/-- The accepted level of a rotation input changes to its pin's level (R95, R96), while the conditioner runs and they differ. -/
def State.acceptLevel (s : State) (r : Fin 3) : State :=
  if s.conditionerRunning ∧ s.pins.rotationLevel r ≠ (s.rotation.get r).accepted then
    (s.setRotation r ((s.rotation.get r).accept (rotationEdge (s.tables.rotationRow r)) (s.edgeDir r) s.now)).settle s.sources
  else s

/-- The comparison of one rotation input at one core tick (R95): the persistence count, and the accepted change falling due. -/
def State.comparePin (s : State) (r : Fin 3) : State :=
  if s.conditionerRunning then
    let got := (s.rotation.get r).compare (s.pins.rotationLevel r) (rotationFilter (s.tables.rotationRow r))
    let t := (s.setRotation r got.1).clearDue (.accepted r)
    if got.2 then t.markDue (.accepted r) else t
  else s

/-- A rotation pin takes a level (R95): the tick at which it changes is the first at which the comparison sees the level, at each of
its changes (log entry 43). -/
def State.driveRotation (s : State) (r : Fin 3) (level : Bool) : State :=
  if s.pins.rotationLevel r = level then s
  else { s with pins := s.pins.setRotation r level }.comparePin r

/-- FILTERED_CHANGE (R91). -/
def execFilteredChange (contact : Fin 8) (s : State) : Host.Outcome State Fault Refusal :=
  .next ((s.clearDue (.filtered contact)).changeContact contact)

/-- STALL (R100). -/
def execStall (input : Fin 3) (s : State) : Host.Outcome State Fault Refusal :=
  .next ((s.clearDue (.stall input)).stallInput input)

/-- ACCEPTED_CHANGE (R95, R96). -/
def execAcceptedChange (input : Fin 3) (s : State) : Host.Outcome State Fault Refusal :=
  .next ((s.clearDue (.accepted input)).acceptLevel input)

/-- ROTATION_PIN_CHANGE (R95). -/
def execRotationPinChange (input : Fin 3) (level : Bool) (s : State) : Host.Outcome State Fault Refusal :=
  .next (s.driveRotation input level)

end Sys2Proof.Machine
end

