-- ==== Sys2Proof/Machine/Clock.lean ====
section
/-! DEFINITION. What the part does with no command waiting (log entry 5): it takes what has fallen due, one event at a time, and
when nothing is due one core tick passes. -/

namespace Sys2Proof.Machine

/-- The command by which a due event is taken; what it needs from outside is what stands on the pins. The verification of a
block takes a free value (log entry 10). -/
def State.commandOf (s : State) : DueEvent → Instr
  | .loadEnd => .profileLoadEnd s.pins.contacts
  | .boundary => .naturalBeatBoundary
  | .restart => .syncRestart
  | .wakeStart => .wakeLinkStart
  | .wakeContact => .wakeContact
  | .msTick => .millisecondTick s.pins.contacts
  | .filtered c => .filteredChange c
  | .pauseEnd u => .reversalPauseEnd u
  | .brakeStart u => .brakeOneShotStart u
  | .brakeEnd u => .brakeEnd u
  | .stall r => .stall r
  | .linkExpiry => .linkTimerExpiry
  | .starvation n => .starvation n
  | .accepted r => .acceptedChange r
  | .trigger e => .triggerRaised e
  | .conversion =>
    match s.scan.converter with
    | some c => .conversionComplete (s.pins.analog.get c.request.input)
    | none => .conversionComplete 0
  | .blockVerified => .profileBlockVerified (Config.blockReadsBack s.freeCount)
  | .blockBegin => .profileBlockBegin
  | .onStart u => .onTimeStart u
  | .onEnd u => .onTimeEnd u
  | .deadTime u => .deadTimeEnd u
  | .downDark => .downDark

/-- The state in which a due event is taken: its mark is off the agenda, and a free value it draws is spent. -/
def State.takeDue (s : State) (e : DueEvent) (rest : List DueEvent) : State :=
  { s with due := rest, freeCount := if e = .blockVerified then s.freeCount + 1 else s.freeCount }

/-- Whether an event marked earlier in this tick still falls: a restart or wake scheduled anew for later does not; a natural
boundary at the instant of a restart gives way to it, and so do the triggers and pulse edges there, since positions at or beyond
that instant do not occur (R8, log entry 24); a dead time or a silence begun afresh has yet to pass (R15, R133). -/
def State.stillDue (s : State) : DueEvent → Bool
  | .boundary => !s.restartNow
  | .restart => s.restartNow
  | .wakeStart => s.restartNow
  | .deadTime u => decide ((s.units.get u).dead = some 0)
  | .downDark => decide (Config.darkTicks ≤ s.link.downSilence)
  | .loadEnd | .wakeContact | .msTick | .filtered _ | .pauseEnd _ | .brakeStart _ | .brakeEnd _ | .stall _ => true
  | .linkExpiry | .starvation _ | .accepted _ | .conversion | .blockVerified | .blockBegin => true
  | .trigger _ | .onStart _ | .onEnd _ => !s.restartNow

/-- The beat advances at a core tick (R1): to its next position, or to its natural boundary. -/
def State.advanceBeat (s : State) : State :=
  if s.beat.length ≤ s.beat.position + 1 then s.markDue .boundary
  else { s with beat := { s.beat with position := s.beat.position + 1 } }

/-- The beat at a core tick (R1, R8): it advances, and a scheduled restart that has come stands before what falls where it would
have come to, which the restart takes away, unless a SYNC sets another instant first. In standby a scheduled wake (R157). -/
def State.tickBeat (s : State) : State :=
  if s.phase = .standby then s.applyIf s.restartNow fun t => t.markDue .wakeStart
  else if s.beatRunning then s.advanceBeat.applyIf s.restartNow fun t => t.markFirst [.restart]
  else s

/-- The position a beat has reached by advancing at this tick, if it has. -/
def State.advanced (before after : State) : Option Nat :=
  if before.beat.position < after.beat.position then some after.beat.position else none

/-- Whether a unit's on-time starts, or ends, at a position (R47). -/
def PulseUnit.edgeAt (u : PulseUnit) (row : Row) (length position : Nat) (starts : Bool) : Bool :=
  let inside := inOnTime (placement row length) u.onTime length position
  decide (u.state = .run) && (inside == starts) &&
    decide (u.drive ≠ if starts then u.driveDir.drive else offTimeDrive row)

/-- What falls at a position: on-times starting and ending, then triggers in index order (R47, R63). -/
def State.positionDue (s : State) (position : Nat) : List DueEvent :=
  let edge (starts : Bool) (u : Fin 4) : Bool :=
    (s.units.get u).edgeAt (s.tables.unitRow u) s.beat.length position starts
  ((List.finRange 4).filter (edge true)).map DueEvent.onStart ++
  ((List.finRange 4).filter (edge false)).map DueEvent.onEnd ++
  (s.triggersAt position).map DueEvent.trigger

/-- The divider at a core tick (R5). -/
def State.tickDivider (s : State) : State :=
  if Config.ticksPerMs ≤ s.beat.divider + 1 then { s with beat := { s.beat with divider := 0 } }.markDue .msTick
  else { s with beat := { s.beat with divider := s.beat.divider + 1 } }

/-- The profile load at a core tick: it ends of itself at its longest time (R153, log entry 13). -/
def State.tickLoad (s : State) : State :=
  if s.phase = .loading ∨ s.reloading then
    let t := { s with loadTicks := s.loadTicks + 1 }
    if Config.loadTicks ≤ s.loadTicks + 1 then t.markDue .loadEnd else t
  else s

/-- A unit's dead time at a core tick (R15). -/
def PulseUnit.tickDead (u : PulseUnit) : PulseUnit := { u with dead := u.dead.map fun k => k - 1 }

/-- The dead times at a core tick: those that have passed fall due. -/
def State.tickDeadTimes (s : State) : State :=
  let t := { s with units := s.units.map PulseUnit.tickDead }
  t.markAll (((List.finRange 4).filter fun u => decide ((t.units.get u).dead = some 0)).map DueEvent.deadTime)

/-- Silence on DOWN at a core tick (R133). -/
def State.tickSilence (s : State) : State :=
  if s.forwarding ∧ s.link.downLive then
    let t := { s with link := { s.link with downSilence := s.link.downSilence + 1 } }
    if Config.darkTicks ≤ s.link.downSilence + 1 then t.markDue .downDark else t
  else s

/-- The converter at a core tick (R67). -/
def State.tickConverter (s : State) : State :=
  match s.scan.converter with
  | some c => if c.started + Config.conversionTicks ≤ s.now then s.markDue .conversion else s
  | none => s

/-- One core tick with nothing due and no command waiting: time moves on, and what the tick brings falls due. -/
def State.tick (s : State) : State :=
  let t := { s with now := s.now + 1 }
  let beat := t.tickBeat
  let timed := ((beat.tickLoad.tickDivider).tickConverter)
  let compared := (List.finRange 3).foldl State.comparePin timed
  let placed := match t.advanced beat with
    | some p => compared.markAll (compared.positionDue p)
    | none => compared
  placed.tickDeadTimes.tickSilence

end Sys2Proof.Machine
end

