-- ==== Sys2Proof/Machine/BeatCommands.lean ====
section
/-! DEFINITION. The commands of the beat (spec 1): natural boundary, SYNC restart, the wakes. -/

namespace Sys2Proof.Machine

/-- A wake by WAKE record: the scheduled instant of the start boundary, in standby (R11, R157). -/
def State.wakeScheduled (s : State) : State :=
  if s.phase = .standby ∧ s.beat.restart ≠ none then s.wakeUp .wakeLink else s

/-- A wake by contact: in standby, the lowest contact that differs from its wake latch (R94). -/
def State.wakeByContact (s : State) : State :=
  if s.phase = .standby then
    match s.wakingContacts with
    | c :: _ => s.wakeUp (.wakeContact c)
    | [] => s
  else s

/-- NATURAL_BEAT_BOUNDARY (R1). -/
def execNaturalBeatBoundary (s : State) : Host.Outcome State Fault Refusal :=
  .next (s.clearDue .boundary).naturalBoundary

/-- SYNC_RESTART (R8). -/
def execSyncRestart (s : State) : Host.Outcome State Fault Refusal := .next (s.clearDue .restart).restartBoundary

/-- WAKE_LINK_START (R157). -/
def execWakeLinkStart (s : State) : Host.Outcome State Fault Refusal := .next (s.clearDue .wakeStart).wakeScheduled

/-- WAKE_CONTACT (R94). -/
def execWakeContact (s : State) : Host.Outcome State Fault Refusal := .next (s.clearDue .wakeContact).wakeByContact

end Sys2Proof.Machine
end

