-- ==== Sys2Proof/Machine/LinkCommands.lean ====
section
/-! DEFINITION. The commands of the ports (R133): characters on UP and DOWN, and the DOWN receive state. -/

namespace Sys2Proof.Machine

/-- The DOWN receive state becomes DARK (R133). A run that the silence cuts off ends with it, and a port it was sent on is free
(log entry 45). -/
def State.goDark (s : State) : State :=
  let ended := s.link.endDown .free
  { s with link := { ended with downLive := false } }

/-- SWEEP_FRAME (R133 to R138): characters arriving on UP. -/
def execSweepFrame (bytes : List Byte) (idles : Nat) (s : State) : Host.Outcome State Fault Refusal :=
  .next (s.receiveUp bytes idles)

/-- RETURN_FRAME (R133): characters arriving on DOWN. -/
def execReturnFrame (bytes : List Byte) (idles : Nat) (s : State) : Host.Outcome State Fault Refusal :=
  .next (s.receiveDown bytes idles)

/-- DOWN_DARK (R133). -/
def execDownDark (s : State) : Host.Outcome State Fault Refusal := .next (s.clearDue .downDark).goDark

/-- DOWN_LIVE (R133). -/
def execDownLive (s : State) : Host.Outcome State Fault Refusal := .next (s.clearDue .downDark).downCharacter

end Sys2Proof.Machine
end

