-- ==== Sys2Proof/Machine/ProfileCommands.lean ====
section
/-! DEFINITION. The commands of a profile save (R154, R155). -/

namespace Sys2Proof.Machine

/-- PROFILE_SAVE (R154, R155). -/
def execProfileSave (r : Request) (s : State) : Host.Outcome State Fault Refusal := .next (s.serveRequest 0x0B r)

/-- PROFILE_BLOCK_BEGIN (R155). -/
def execProfileBlockBegin (s : State) : Host.Outcome State Fault Refusal :=
  let t := s.clearDue .blockBegin
  .next { t with profile := t.profile.beginBlock }

/-- PROFILE_BLOCK_VERIFIED (R155). -/
def execProfileBlockVerified (matched : Bool) (s : State) : Host.Outcome State Fault Refusal :=
  .next ((s.clearDue .blockVerified).verifyBlock matched)

end Sys2Proof.Machine
end

