-- ==== Sys2Proof/Machine/ScanCommands.lean ====
section
/-! DEFINITION. The commands of the sequencer, the converter and the limit watch (spec 4, 5, 7). -/

namespace Sys2Proof.Machine

/-- A planned trigger is raised (R63), while the beat it was planned for runs. -/
def State.raiseTrigger (s : State) (e : Fin 24) : State :=
  if s.beatRunning ∧ (s.scan.entries.get e).planned ≠ none then s.raiseEntry e else s

/-- The conversion in progress completes (R67): the converter is IDLE, the value goes onward unless it is to be discarded (R71,
R73), and the next request is taken (R66). -/
def State.complete (s : State) (raw : BitVec 12) : State :=
  match s.scan.converter with
  | none => s
  | some c =>
    let idle := { s with pins := s.pins.setAnalog c.request.input raw }.setQueue s.scan.queue none
    (if c.discard then idle else idle.deliverSample c.request raw).takeNext

/-- A limit row starves (R111): its count stands at its limit and has set no STARVED there yet; STARVED, and LMn active without
LIMIT_TRIPPED. -/
def State.starve (s : State) (n : Fin 16) : State :=
  if 0 < limitStarvation (s.tables.limitRow n) ∧
      (s.limits.rows.get n).starve = some (limitStarvation (s.tables.limitRow n)) ∧ (s.limits.rows.get n).declared = false then
    ((s.setLimit n ((s.limits.rows.get n).starved (limitStarvation (s.tables.limitRow n)))).latch .starved).settle s.sources
  else s

/-- TRIGGER_RAISED (R63). -/
def execTriggerRaised (entry : Fin 24) (s : State) : Host.Outcome State Fault Refusal :=
  .next ((s.clearDue (.trigger entry)).raiseTrigger entry)

/-- CONVERSION_COMPLETE (R67). -/
def execConversionComplete (raw : BitVec 12) (s : State) : Host.Outcome State Fault Refusal :=
  .next ((s.clearDue .conversion).complete raw)

/-- STARVATION (R111). -/
def execStarvation (row : Fin 16) (s : State) : Host.Outcome State Fault Refusal :=
  .next ((s.clearDue (.starvation row)).starve row)

end Sys2Proof.Machine
end

