-- ==== Sys2Proof/Machine/ServiceCommands.lean ====
section
/-! DEFINITION. The service records as commands of their own (spec 10, log entry 4): each is judged as the only record of a frame
that ends good and is carried out at once. The kind codes are those of R146. -/

namespace Sys2Proof.Machine

/-- IDENTIFY (R147). -/
def execIdentify (r : Request) (s : State) : Host.Outcome State Fault Refusal := .next (s.serveRequest 0x01 r)

/-- READ_STATE (R147). -/
def execReadState (r : Request) (s : State) : Host.Outcome State Fault Refusal := .next (s.serveRequest 0x02 r)

/-- TABLE_WRITE (R148). -/
def execTableWrite (r : Request) (s : State) : Host.Outcome State Fault Refusal := .next (s.serveRequest 0x03 r)

/-- TABLE_READ (R149). -/
def execTableRead (r : Request) (s : State) : Host.Outcome State Fault Refusal := .next (s.serveRequest 0x04 r)

/-- SWAP (R150). -/
def execSwap (r : Request) (s : State) : Host.Outcome State Fault Refusal := .next (s.serveRequest 0x05 r)

/-- ENABLE (R20, R21). -/
def execEnable (r : Request) (s : State) : Host.Outcome State Fault Refusal := .next (s.serveRequest 0x06 r)

/-- DISABLE (R22, R23). -/
def execDisable (r : Request) (s : State) : Host.Outcome State Fault Refusal := .next (s.serveRequest 0x07 r)

/-- CLEAR (R124). -/
def execClear (r : Request) (s : State) : Host.Outcome State Fault Refusal := .next (s.serveRequest 0x08 r)

/-- REPORT_MASK (R130, R146). -/
def execReportMask (r : Request) (s : State) : Host.Outcome State Fault Refusal := .next (s.serveRequest 0x09 r)

/-- SYNC (R7). -/
def execSync (r : Request) (s : State) : Host.Outcome State Fault Refusal := .next (s.serveRequest 0x0A r)

/-- STANDBY (R146, R156). -/
def execStandby (r : Request) (s : State) : Host.Outcome State Fault Refusal := .next (s.serveRequest 0x0C r)

/-- WAKE (R157). -/
def execWake (r : Request) (s : State) : Host.Outcome State Fault Refusal := .next (s.serveRequest 0x0D r)

/-- RESET_FULL (R153): a RESET record with parameter byte 00h. -/
def execResetFull (position : Nat) (target : Byte) (room : Nat) (s : State) : Host.Outcome State Fault Refusal :=
  .next (s.serve 0x0E position target [0x00] room)

/-- RESET_UNITS (R36): a RESET record with parameter byte 01h. -/
def execResetUnits (position : Nat) (target : Byte) (room : Nat) (s : State) : Host.Outcome State Fault Refusal :=
  .next (s.serve 0x0E position target [0x01] room)

end Sys2Proof.Machine
end

