-- ==== Sys2Proof/Machine/TickCommands.lean ====
section
/-! DEFINITION. The millisecond tick (R5) and what the blocks let fall due at it: reversal pause, brake, stall, link timer. -/

namespace Sys2Proof.Machine

/-! ## The tick -/

/-- The contacts sample their pins (R90); the flags tell whose filtered level is to change. -/
def State.sampleContacts (s : State) : Bank (Contact × Bool) 8 :=
  s.contacts.mapIdx fun c x =>
    if s.conditionerRunning then x.sample (s.pins.contactLevel c) (contactDebounce (s.tables.contactRow c)) else (x, false)

/-- The rotation inputs age and their stall timers count (R98, R99); the flags tell whose timer comes to its window. -/
def State.tickRotations (s : State) : Bank (Rotation × Bool) 3 :=
  s.rotation.mapIdx fun r x =>
    if s.conditionerRunning then x.msTick (rotationStallWindow (s.tables.rotationRow r)) else (x, false)

/-- A unit at the tick: its zero-demand count and its brake count (R26, R30, R31), with what falls due. -/
def PulseUnit.msTick (u : PulseUnit) (row : Row) : PulseUnit × Bool × Bool × Bool :=
  ((u.zeroTick row).1.brakeTick.1, (u.zeroTick row).2, (u.zeroTick row).1.brakeTick.2)

/-- The units at the tick. -/
def State.tickUnits (s : State) : Bank (PulseUnit × Bool × Bool × Bool) 4 :=
  s.units.mapIdx fun u x => x.msTick (s.tables.unitRow u)

/-- The link timer counts (R141); the flag tells that it reaches the timeout. DESIGN CHOICE, unsafe: with a timeout of 1 it does so
also after a good frame end taken first at this core tick (log entry 55). -/
def LinkTimer.msTick (t : LinkTimer) (timeout : Nat) : LinkTimer × Bool :=
  match t with
  | .stopped => (.stopped, false)
  | .expired => (.expired, false)
  | .running c => (.running (min (c + 1) 255), decide (0 < timeout) && decide (timeout ≤ c + 1))

/-- What falls due at the tick, in the order in which the blocks are told of it (log entry 5). -/
def State.tickDue (s : State) : List DueEvent :=
  ((List.finRange 8).filter fun c => (s.sampleContacts.get c).2).map DueEvent.filtered ++
  ((List.finRange 4).filter fun u => (s.tickUnits.get u).2.1).map DueEvent.pauseEnd ++
  ((List.finRange 4).filter fun u => (s.tickUnits.get u).2.2.1).map DueEvent.brakeStart ++
  ((List.finRange 4).filter fun u => (s.tickUnits.get u).2.2.2).map DueEvent.brakeEnd ++
  ((List.finRange 3).filter fun r => (s.tickRotations.get r).2).map DueEvent.stall ++
  (if (s.link.timer.msTick (safeLinkTimeout s.tables.safeRow)).2 then [DueEvent.linkExpiry] else []) ++
  s.profile.msTick.2

/-- The counts of every block after the tick. -/
def State.tickCounts (s : State) : State :=
  { s with
    contacts := s.sampleContacts.map fun x => x.1
    units := s.tickUnits.map fun x => x.1
    rotation := s.tickRotations.map fun x => x.1
    link := { s.link with timer := (s.link.timer.msTick (safeLinkTimeout s.tables.safeRow)).1 }
    profile := s.profile.msTick.1 }

/-- The divider wraps, and the contact pins stand at the levels sampled (R5, R90). A filtered change left over from an earlier
tick is overtaken by the sample. -/
def State.wrapDivider (s : State) (contacts : Byte) : State :=
  { s with
    beat := { s.beat with divider := 0 }
    pins := { s.pins with contacts := contacts }
    due := (s.due.erase .msTick).filter fun e => !e.isFiltered }

/-- The millisecond tick (R5): every block counts, and what reaches its end there falls due, before anything else of this core tick:
a tick taken before an edge has its stall before it too (R100). -/
def State.msTick (s : State) (contacts : Byte) : State :=
  let t := s.wrapDivider contacts
  t.tickCounts.markFirst t.tickDue

/-- MILLISECOND_TICK (R5). -/
def execMillisecondTick (contacts : Byte) (s : State) : Host.Outcome State Fault Refusal := .next (s.msTick contacts)

/-! ## What falls due at it -/

/-- A unit changed between boundaries, and the course this runs (R99, R109, R123). -/
def State.changeUnit (s : State) (u : Fin 4) (x : PulseUnit) : State := (s.setUnit u x).settle s.sources

/-- REVERSAL_PAUSE_END (R26). -/
def execReversalPauseEnd (pu : Fin 4) (s : State) : Host.Outcome State Fault Refusal :=
  let t := s.clearDue (.pauseEnd pu)
  .next (t.setUnit pu ((t.units.get pu).endPause (t.tables.unitRow pu)))

/-- BRAKE_ONE_SHOT_START (R30). -/
def execBrakeOneShotStart (pu : Fin 4) (s : State) : Host.Outcome State Fault Refusal :=
  let t := s.clearDue (.brakeStart pu)
  .next (t.setUnit pu (t.units.get pu).startBrake)

/-- BRAKE_END (R31). -/
def execBrakeEnd (pu : Fin 4) (s : State) : Host.Outcome State Fault Refusal :=
  let t := s.clearDue (.brakeEnd pu)
  .next (t.changeUnit pu ((t.units.get pu).endBrake (t.tables.unitRow pu)))

/-- The link timer expires (R141): its count has reached a timeout that is not 0; LINK_LOST and the safe cause LINK. -/
def State.expireLink (s : State) : State :=
  match s.link.timer with
  | .running c =>
    if 0 < safeLinkTimeout s.tables.safeRow ∧ safeLinkTimeout s.tables.safeRow ≤ c then
      (({ s with link := { s.link with timer := .expired } }.latch .linkLost).setCause .link).settle s.sources
    else s
  | .stopped => s
  | .expired => s

/-- LINK_TIMER_EXPIRY (R141). -/
def execLinkTimerExpiry (s : State) : Host.Outcome State Fault Refusal := .next (s.clearDue .linkExpiry).expireLink

end Sys2Proof.Machine
end

