-- ==== Sys2Proof/Machine/UnitCommands.lean ====
section
/-! DEFINITION. The commands of a unit's outputs within a beat: the on-time's start and end (R47) and the dead time's end (R15). -/

namespace Sys2Proof.Machine

/-- A unit whose pulse is placed in this beat: in RUN with an on-time (R47). -/
def PulseUnit.pulsing (u : PulseUnit) : Bool := decide (u.state = .run) && decide (0 < u.onTime)

/-- The on-time starts: the beat drive direction (R16, R48). -/
def PulseUnit.startPulse (u : PulseUnit) : PulseUnit := if u.pulsing then u.present u.driveDir.drive else u

/-- The on-time ends: the off-time state (R16, R48). -/
def PulseUnit.endPulse (u : PulseUnit) (row : Row) : PulseUnit := if u.pulsing then u.present (offTimeDrive row) else u

/-- The dead time ends, where one is running (R15). -/
def PulseUnit.endDead (u : PulseUnit) : PulseUnit := if u.dead = none then u else u.linesOn

/-- ON_TIME_START (R47). -/
def execOnTimeStart (pu : Fin 4) (s : State) : Host.Outcome State Fault Refusal :=
  let t := s.clearDue (.onStart pu)
  .next (t.setUnit pu (t.units.get pu).startPulse)

/-- ON_TIME_END (R47). -/
def execOnTimeEnd (pu : Fin 4) (s : State) : Host.Outcome State Fault Refusal :=
  let t := s.clearDue (.onEnd pu)
  .next (t.setUnit pu ((t.units.get pu).endPulse (t.tables.unitRow pu)))

/-- DEAD_TIME_END (R15). -/
def execDeadTimeEnd (pu : Fin 4) (s : State) : Host.Outcome State Fault Refusal :=
  let t := s.clearDue (.deadTime pu)
  .next (t.setUnit pu (t.units.get pu).endDead)

end Sys2Proof.Machine
end

