-- ==== Sys2Proof/Machine/Dispatch.lean ====
section
/-! DEFINITION. One arm per command, each a direct call of its meaning. -/

namespace Sys2Proof.Machine

def exec (i : Instr) (s : State) : Host.Outcome State Fault Refusal :=
  match i with
  | .powerUp strap => Sys2Proof.Machine.execPowerUp strap s
  | .resetPin => Sys2Proof.Machine.execResetPin s
  | .profileLoadEnd contacts => Sys2Proof.Machine.execProfileLoadEnd contacts s
  | .naturalBeatBoundary => Sys2Proof.Machine.execNaturalBeatBoundary s
  | .starvation row => Sys2Proof.Machine.execStarvation row s
  | .syncRestart => Sys2Proof.Machine.execSyncRestart s
  | .millisecondTick contacts => Sys2Proof.Machine.execMillisecondTick contacts s
  | .filteredChange contact => Sys2Proof.Machine.execFilteredChange contact s
  | .reversalPauseEnd pu => Sys2Proof.Machine.execReversalPauseEnd pu s
  | .brakeOneShotStart pu => Sys2Proof.Machine.execBrakeOneShotStart pu s
  | .brakeEnd pu => Sys2Proof.Machine.execBrakeEnd pu s
  | .stall input => Sys2Proof.Machine.execStall input s
  | .linkTimerExpiry => Sys2Proof.Machine.execLinkTimerExpiry s
  | .wakeContact => Sys2Proof.Machine.execWakeContact s
  | .wakeLinkStart => Sys2Proof.Machine.execWakeLinkStart s
  | .acceptedChange input => Sys2Proof.Machine.execAcceptedChange input s
  | .triggerRaised entry => Sys2Proof.Machine.execTriggerRaised entry s
  | .conversionComplete raw => Sys2Proof.Machine.execConversionComplete raw s
  | .sweepFrame bytes idles => Sys2Proof.Machine.execSweepFrame bytes idles s
  | .returnFrame bytes idles => Sys2Proof.Machine.execReturnFrame bytes idles s
  | .downDark => Sys2Proof.Machine.execDownDark s
  | .identify r => Sys2Proof.Machine.execIdentify r s
  | .readState r => Sys2Proof.Machine.execReadState r s
  | .tableWrite r => Sys2Proof.Machine.execTableWrite r s
  | .tableRead r => Sys2Proof.Machine.execTableRead r s
  | .swap r => Sys2Proof.Machine.execSwap r s
  | .enable r => Sys2Proof.Machine.execEnable r s
  | .disable r => Sys2Proof.Machine.execDisable r s
  | .clear r => Sys2Proof.Machine.execClear r s
  | .reportMask r => Sys2Proof.Machine.execReportMask r s
  | .sync r => Sys2Proof.Machine.execSync r s
  | .profileSave r => Sys2Proof.Machine.execProfileSave r s
  | .profileBlockBegin => Sys2Proof.Machine.execProfileBlockBegin s
  | .profileBlockVerified matched => Sys2Proof.Machine.execProfileBlockVerified matched s
  | .standby r => Sys2Proof.Machine.execStandby r s
  | .wake r => Sys2Proof.Machine.execWake r s
  | .resetFull position target room => Sys2Proof.Machine.execResetFull position target room s
  | .resetUnits position target room => Sys2Proof.Machine.execResetUnits position target room s
  | .downLive => Sys2Proof.Machine.execDownLive s
  | .rotationPinChange input level => Sys2Proof.Machine.execRotationPinChange input level s
  | .onTimeStart pu => Sys2Proof.Machine.execOnTimeStart pu s
  | .onTimeEnd pu => Sys2Proof.Machine.execOnTimeEnd pu s
  | .deadTimeEnd pu => Sys2Proof.Machine.execDeadTimeEnd pu s

end Sys2Proof.Machine
end

