-- ==== Sys2Proof/Safety.lean ====
section
/-! DEFINITION. What a safe state of the part is, in the terms the statements use: the laws the manual gives for gate lines, units,
holds, the conversion queue and results, each as a property that every step is to keep. -/

namespace Sys2Proof.Machine

/-! ## Gate lines (R14, R15, R16) -/

/-- Every line that is on is one the logical drive state calls for; with no dead time running, every line it calls for is on; and
a unit in OFF or HELD presents what its state prescribes. -/
structure PulseUnit.GatesSound (u : PulseUnit) : Prop where
  called : u.lines.meet u.drive.called = u.lines
  settled : u.dead = none → u.lines = u.drive.called
  off : u.state = .off → u.drive = .coast
  heldCoast : u.state = .heldCoast → u.drive = .coast
  heldBrake : u.state = .heldBrake → u.drive = .brake

/-- The high and the low switch of one bridge side are on together. -/
def Lines.shortsSide (l : Lines) : Bool := (l.ha && l.la) || (l.hb && l.lb)

/-- A unit `x` whose logical drive state turned to `d` and left it as `y` (R15): lines no longer called go off at the change, those
called before and after stay on, and the others wait 8 ticks of their own (each change for itself: log entries 15 and 53). -/
structure PulseUnit.Turns (x y : PulseUnit) (d : Drive) : Prop where
  same : x.drive = d → y = x
  cut : x.drive ≠ d → y.lines = x.lines.meet d.called
  wait : x.drive ≠ d → y.dead = if y.lines = d.called then none else some 8
  rest : y = { x with drive := d, lines := y.lines, dead := y.dead }

/-! ## Units (R13, R24, R25, R40, R41, R44, R46, R53) -/

/-- The law of a unit: target and demand within ±1000, never negative for UNIDIR; the direction memory that of a nonzero demand;
applied duty of the demand's sign or 0 and no larger; level 0 to 7; nothing driven outside RUN; nothing kept in OFF or HELD; a
pulse only in the applied duty's direction, and FWD or REV presented only within one. -/
structure PulseUnit.Lawful (u : PulseUnit) : Prop where
  target : u.target.natAbs ≤ 1000
  demand : u.demand.natAbs ≤ 1000
  unidir : u.kind = .unidir → 0 ≤ u.target ∧ 0 ≤ u.demand ∧ u.dirMemory ≠ some .rev ∧ u.countDir = .fwd
  memory : u.demand ≠ 0 → u.dirMemory = some (dirOf u.demand)
  magnitude : u.applied.natAbs ≤ u.demand.natAbs
  sign : u.applied = 0 ∨ (0 < u.applied ∧ 0 < u.demand) ∨ (u.applied < 0 ∧ u.demand < 0)
  level : u.foldLevel ≤ 7
  idle : u.state ≠ .run → u.demand = 0 ∧ u.applied = 0 ∧ u.onTime = 0
  still : u.state = .off ∨ u.state.held = true → u.target = 0 ∧ u.foldLevel = 0 ∧ u.exhausted = false
  forgotten : u.state = .off → u.dirMemory = none
  waiting : u.state ≠ .brake → u.brakeCount = .idle
  pulse : u.onTime ≠ 0 → u.applied ≠ 0 ∧ u.driveDir = dirOf u.applied
  driven : u.drive = .fwd ∨ u.drive = .rev → u.state = .run ∧ u.onTime ≠ 0 ∧ u.drive = u.driveDir.drive

/-- A unit that was `x` opens a beat of some length as `y` (R42 to R48, R16): from the demand it has now, its level and the cap, the
applied duty, the on-time, the beat drive direction, and the logical drive state of position 0, to which its lines turned (R15). -/
def PulseUnit.OpensPulse (x y : PulseUnit) (row : Row) (length cap : Nat) : Prop :=
  let A1 : Int := (y.demand * (8 - (x.foldLevel : Int))).tdiv 8
  let A2 : Int := if A1 < 0 then -min (-A1) cap else min A1 cap
  let n0 : Nat := (A2.natAbs * length + 500) / 1000
  let n1 : Nat := if length ≤ unitMinOff row then 0 else min n0 (length - unitMinOff row)
  let n : Nat := if n1 < unitMinOn row then 0 else n1
  let phase : Int := min (unitPhaseOffset row) (length - 1)
  let inside := (0 - phase) % (length : Int) < n
  y.applied = A2 ∧ y.onTime = n ∧ y.driveDir = (if 0 < A2 then .fwd else if A2 < 0 then .rev else x.driveDir) ∧
  y.drive = (if inside then (if y.driveDir = .rev then .rev else .fwd)
    else if unitDecaySlow row then .brake else .coast) ∧
  (x.drive = y.drive → y.lines = x.lines ∧ y.dead = x.dead) ∧
  (x.drive ≠ y.drive → y.lines = x.lines.meet y.drive.called ∧
    y.dead = if y.lines = y.drive.called then none else some 8)

/-- The on-time of a beat is 0 or lies between the min on-time and the beat length less the min off-time (R46); no unit has one
from a reset to the end of its load or reload, since no boundary falls there (R1, R36). -/
structure State.OnTimesLawful (s : State) : Prop where
  bounded : ∀ u, (s.units.get u).onTime = 0 ∨ (unitMinOn (s.tables.unitRow u) ≤ (s.units.get u).onTime ∧
    (s.units.get u).onTime + unitMinOff (s.tables.unitRow u) ≤ s.beat.length)
  silent : s.phase ≠ .run → s.phase ≠ .standby → ∀ u, (s.units.get u).onTime = 0

/-! ## Holds (R32 to R35, R123, R127) -/

/-- The state of a unit that agrees with a hold action: none but OFF escapes it. -/
def PulseUnit.obeys (u : PulseUnit) (h : Hold) : Bool :=
  match u.state with
  | .off => true
  | .run => decide (h = .none)
  | .pause => decide (h = .none)
  | .brake => decide (h = .none)
  | .heldCoast => decide (h = .coast)
  | .heldBrake => decide (h = .brake)

/-- A unit `x` that has entered HELD as `y` (R33): nothing of its target, demand, pulse, brake or fold-back is left; its direction
memory and zero-demand count stay, but for a demand that becomes 0 with a reversal pause of 0 (R26, log entry 18). -/
def PulseUnit.EntersHeld (x y : PulseUnit) (row : Row) (brake : Bool) : Prop :=
  let forgets : Bool := decide (x.demand ≠ 0 ∧ unitReversalPause row = 0)
  PulseUnit.Turns { x with
    state := if brake then .heldBrake else .heldCoast
    target := 0
    stopFlag := false
    pending := none
    demand := 0
    dirMemory := if forgets then none else x.dirMemory
    zeroCount := if forgets then none else x.zeroCount
    foldLevel := 0
    releaseRun := 0
    exhaustRun := 0
    exhausted := false
    applied := 0
    onTime := 0
    brakeCount := .idle } y (if brake then .brake else .coast)

/-- A unit `x` whose last hold has ended, in RUN as `y` (R35): target and demand 0, stop flag clear, all else kept; it turned to the
off-time state. -/
def PulseUnit.LeavesHeld (x y : PulseUnit) (row : Row) : Prop :=
  PulseUnit.Turns { x with state := .run, target := 0, stopFlag := false, demand := 0 } y
    (if unitDecaySlow row then .brake else .coast)

/-- A unit `x` that stays HELD, as `y` (R34): its state and its logical drive state alone follow the hold action. -/
def PulseUnit.StaysHeld (x y : PulseUnit) : Prop :=
  y.state.held = true ∧
    PulseUnit.Turns { x with state := y.state } y (if y.state = .heldBrake then .brake else .coast)

/-- Every unit is HELD exactly as the active rows and the safe state ask, and what the reflex block keeps is what they ask. -/
structure State.HoldsObeyed (s : State) : Prop where
  obeyed : ∀ u, (s.units.get u).obeys (s.holdOf u) = true
  kept : ∀ u, s.reflex.hold.get u = s.holdOf u
  capped : ∀ u, s.reflex.cap.get u = s.capOf u

/-! ## Conditions and rows (R99, R100, R109, R122) -/

/-- A reflex row that agrees with its source: a disabled row is inactive; an enabled one is active while its source is, and when
it is unlatched only then. -/
def ReflexRow.agrees (x : ReflexRow) (row : Row) (sourceOn : Bool) : Bool :=
  if reflexEnabled row then (!sourceOn || x.active) && (reflexLatched row || !x.active || sourceOn) else !x.active

/-- Nothing waits to be followed up: rows agree with their sources, units with their holds, and limit rows and rotation inputs with
the qualification the units give them. -/
structure State.Settled (s : State) : Prop where
  rows : ∀ n, (s.reflex.rows.get n).agrees (s.tables.reflexRow n)
    (s.sourceActive (reflexSource (s.tables.reflexRow n))) = true
  holds : s.HoldsObeyed
  qualified : ∀ n, (s.limits.rows.get n).qualified = s.limitQualified n
  unqualified : ∀ n, s.limitQualified n = false → s.limits.rows.get n = LimitRow.atReset
  timed : ∀ r, (s.rotation.get r).stallTimer.isSome = s.stallQualified r
  untimed : ∀ r, s.stallQualified r = false → (s.rotation.get r).stalled = false

/-! ## The conversion queue (R64) -/

/-- At most four table requests and one housekeeping request, never two of one scan entry, in the order of their raising. -/
structure QueueLawful (q : List ScanRequest) : Prop where
  table : (tableWaiting q).length ≤ 4
  housekeeping : (housekeepingWaiting q).length ≤ 1
  distinct : (q.map ScanRequest.source).Nodup
  ordered : q.Pairwise fun a b => b.before a = false

/-! ## Beat boundaries and what is raised at them (R8, R11, R63, R65) -/

/-- A command that brings a beat boundary in this state (R1, R8, R11): a natural one, a SYNC restart, the start boundary of a load
or reload, or that of a wake. -/
def State.OpensBeat (s : State) (i : Instr) : Prop :=
  (i = .naturalBeatBoundary ∧ s.phase = .run) ∨ (i = .syncRestart ∧ s.phase = .run ∧ s.beat.restart ≠ none) ∨
  ((∃ pins, i = .profileLoadEnd pins) ∧ (s.phase = .loading ∨ s.phase = .reloading)) ∨
  (i = .wakeLinkStart ∧ s.phase = .standby ∧ s.beat.restart ≠ none) ∨
  (i = .wakeContact ∧ s.phase = .standby ∧ ∃ c, (s.contacts.get c).wakes = true)

/-- The trigger of an entry was raised at the boundary that led from `s` to `t` (R63, R65): its request waits or is in conversion; or
it was dropped, a request of the entry waiting already, or four table requests. -/
def State.RaisedAtBoundary (s t : State) (e : Fin 24) : Prop :=
  let row := t.tables.scanRow e
  let r : ScanRequest := { source := .entry e, input := scanInput row, raised := s.now, late := scanLateLimit row }
  let was := (s.scan.entries.get e).drops
  let is := (t.scan.entries.get e).drops
  (is = was ∧ (r ∈ t.scan.queue ∨ ∃ c, t.scan.converter = some c ∧ c.request = r)) ∨
  (is = (if was < 255 then was + 1 else was) ∧ t.status.events.getLsbD 10 = true ∧
    ((∃ q ∈ t.scan.queue, q ∈ s.scan.queue ∧ q.source = .entry e) ∨ 4 ≤ (tableWaiting t.scan.queue).length))

/-! ## Results (R67, R78, R79, spec 00 "Result units") -/

/-- Stored results within 0 to 65520, and partial sums no larger than their samples allow. -/
structure State.ResultsLawful (s : State) : Prop where
  slots : ∀ n, (s.slots.get n).value ≤ 65520
  sums : ∀ e, (s.scan.entries.get e).sum ≤ 4095 * (s.scan.entries.get e).samples

/-! ## What a change of conditions leaves alone -/

/-- `t` differs from `s` by the course of a change of conditions alone (R120, R123, R99, R109): reflex rows, hold actions and caps,
the units they hold or release, the limit rows and stall timers those units qualify, and REFLEX_FIRED. -/
structure State.Course (s t : State) : Prop where
  pending : t.pending = s.pending
  due : t.due = s.due
  now : t.now = s.now
  phase : t.phase = s.phase
  loadTicks : t.loadTicks = s.loadTicks
  cause : t.cause = s.cause
  strap : t.strap = s.strap
  beat : t.beat = s.beat
  scan : t.scan = s.scan
  slots : t.slots = s.slots
  contacts : t.contacts = s.contacts
  rotation : ∀ r, t.rotation.get r =
    { s.rotation.get r with stallTimer := (t.rotation.get r).stallTimer, stalled := (t.rotation.get r).stalled }
  pins : t.pins = s.pins
  warnLive : t.limits.warnLive = s.limits.warnLive
  supplyLow : t.limits.supplyLow = s.limits.supplyLow
  causes : t.reflex.link = s.reflex.link ∧ t.reflex.thermal = s.reflex.thermal ∧ t.reflex.supply = s.reflex.supply
  fired : ∀ n, (s.reflex.rows.get n).fired = true → (t.reflex.rows.get n).fired = true
  events : ∀ i, i ≠ 9 → t.status.events.getLsbD i = s.status.events.getLsbD i
  reflexFired : s.status.events.getLsbD 9 = true → t.status.events.getLsbD 9 = true
  mask : t.status.mask = s.status.mask
  off : ∀ u, (s.units.get u).state = .off → t.units.get u = s.units.get u
  units : ∀ u, (t.units.get u).kind = (s.units.get u).kind ∧ (t.units.get u).countDir = (s.units.get u).countDir ∧
    (t.units.get u).driveDir = (s.units.get u).driveDir
  link : t.link = s.link
  service : t.service = s.service
  profile : t.profile = s.profile
  answer : t.answer = s.answer
  freeCount : t.freeCount = s.freeCount

/-! ## Format errors (R137) -/

/-- The next byte of a pass shows a format error (R137): a hop count above 3, more than 32 segments or 8 records, a record whose
parameter length or room is above 48 or which would run past the area, or an area that its records have not filled exactly. -/
def Pass.ErrsAt (p : Pass) (b : Byte) : Prop :=
  let i := p.received.length
  let area := 8 + 8 * rowNat p.received 4
  let masks := area + rowWordNat p.received 6
  (i = 3 ∧ 3 < b.toNat) ∨ (i = 4 ∧ 32 < b.toNat) ∨ (i = 5 ∧ 8 < b.toNat) ∨
  (8 ≤ i ∧ area ≤ i ∧ i < masks ∧ p.recordNo < rowNat p.received 5 ∧ i = p.recordAt + 2 ∧ 48 < b.toNat) ∨
  (8 ≤ i ∧ area ≤ i ∧ i < masks ∧ p.recordNo < rowNat p.received 5 ∧ i = p.recordAt + 3 ∧
    (48 < b.toNat ∨ masks < p.recordAt + 6 + rowNat p.received (p.recordAt + 2) + b.toNat)) ∨
  (8 ≤ i ∧ i = masks ∧ (p.recordNo ≠ rowNat p.received 5 ∨ p.recordAt ≠ masks))

/-! ## Records given as commands -/

/-- A record command as its kind code (R146) and its request. -/
def recordOf : Instr → Option (Nat × Request)
  | .identify r => some (0x01, r)
  | .readState r => some (0x02, r)
  | .tableWrite r => some (0x03, r)
  | .tableRead r => some (0x04, r)
  | .swap r => some (0x05, r)
  | .enable r => some (0x06, r)
  | .disable r => some (0x07, r)
  | .clear r => some (0x08, r)
  | .reportMask r => some (0x09, r)
  | .sync r => some (0x0A, r)
  | .profileSave r => some (0x0B, r)
  | .standby r => some (0x0C, r)
  | .wake r => some (0x0D, r)
  | .resetFull p t room => some (0x0E, { position := p, target := t, params := [0x00], room := room })
  | .resetUnits p t room => some (0x0E, { position := p, target := t, params := [0x01], room := room })
  | .powerUp _ | .resetPin | .profileLoadEnd _ | .naturalBeatBoundary | .starvation _ | .syncRestart => none
  | .millisecondTick _ | .filteredChange _ | .reversalPauseEnd _ | .brakeOneShotStart _ | .brakeEnd _ => none
  | .stall _ | .linkTimerExpiry | .wakeContact | .wakeLinkStart | .acceptedChange _ | .triggerRaised _ => none
  | .conversionComplete _ | .sweepFrame _ _ | .returnFrame _ _ | .downDark | .profileBlockBegin => none
  | .profileBlockVerified _ | .downLive | .rotationPinChange _ _ | .onTimeStart _ | .onTimeEnd _ | .deadTimeEnd _ => none

/-- A record is addressed to this hub: its target is the hub's position in the frame, a position of the chain. -/
def addressedHere (r : Request) : Prop := r.target.toNat = r.position ∧ 1 ≤ r.position ∧ r.position ≤ 4

/-! ## Reading a record's answer -/

/-- The verdict and reply bytes of a record refused, or answered with no reply data. -/
def bareAnswer (v : Verdict) : List (Option Byte) := [some v.code, some 0]

/-- The verdict and reply bytes of a record whose reply has the verdict DONE, in a reply room (R143): the whole reply where it fits,
else NO_ROOM, the reply length the room, and the bytes that fit. -/
def doneReply (room : Nat) (reply : List Byte) : List (Option Byte) :=
  if reply.length ≤ room then [some 0x00, some (BitVec.ofNat 8 reply.length)] ++ reply.map some
  else [some 0x09, some (BitVec.ofNat 8 room)] ++ (reply.take room).map some

end Sys2Proof.Machine
end

