-- ==== Sys2Proof/Certificates/Slice0/Obligations.lean ====
section
/-! DEFINITION. The statements for the provers, one definition each; OBLIGATIONS.json lists them with the rules they rest on. -/

open Sys2Proof Sys2Proof.Machine

/-! ## Headline results: what every step keeps -/

/-- O1. R14, R15, R16: whatever happens, a line is on only where the logical drive state calls for it, and the high and the low
switch of one bridge side are never on together. -/
def Obligations.GateLinesNeverShort : Prop :=
  ∀ s t : State, (∀ u, (s.units.get u).GatesSound) → step s = .next t →
    ∀ u, (t.units.get u).GatesSound ∧ (t.units.get u).lines.shortsSide = false

/-- O2. The part's laws on units: UNIDIR never negative (R13), idle units never pulse (R16), demand and applied duty within their
bounds and of one sign (R41, R44), level 0 to 7 and 0 in OFF and HELD (R53). -/
def Obligations.UnitLawKept : Prop :=
  ∀ s t : State, (∀ u, (s.units.get u).Lawful) → step s = .next t → ∀ u, (t.units.get u).Lawful

/-- O3. The part's law on on-time (R46): 0, or between the min on-time and the beat length less the min off-time; and 0 from a reset
to the end of its load or reload, where no boundary computes one (R1, R36). -/
def Obligations.OnTimeLawKept : Prop :=
  ∀ s t : State, s.OnTimesLawful → step s = .next t → t.OnTimesLawful

/-- O4. Rows follow their sources, units their holds, limit rows and stall timers their qualification after every step (R122, R123,
R109, R99); and the part's law on the safe state (R127): while a safe cause is set, no unit is in RUN, PAUSE or BRAKE. -/
def Obligations.ConditionsSettledKept : Prop :=
  ∀ s t : State, s.Settled → step s = .next t →
    t.Settled ∧ (t.safeActive = true → ∀ u, (t.units.get u).state.driving = false)

/-- O5. The part's law on the queue (R64): at most four table requests and one housekeeping request, never two of one entry, kept
in the order of their raise instants, entries before housekeeping within one tick. -/
def Obligations.QueueLawKept : Prop :=
  ∀ s t : State, QueueLawful s.scan.queue → step s = .next t → QueueLawful t.scan.queue

/-- O6. The part's law on results (R79, R80): every result value lies between 0 and 65520. -/
def Obligations.ResultLawKept : Prop :=
  ∀ s t : State, s.ResultsLawful → step s = .next t → t.ResultsLawful

/-- O7. The part's law on bad frames (R136): a frame routed by this hub whose two last bytes are not its check as received takes no
effect on setpoints or by service actions: every unit, the shadow and active copies, the swap marks and recorded sets, the report
mask, the events but FRAME_ERROR, the start cause, the link timer, the recorded position, the profile store, the beat and the phase
stand as before, and staging is not left with anything of it. The SLOT mark alone is not the frame's to leave: an OUT frame's
start takes it (R139, R151), with TABLES_SWAPPED. The gives clear flags as they pass (R83, R92). -/
def Obligations.BadFrameTakesNoEffect : Prop :=
  ∀ (s : State) (body : List Byte) (hi lo : Byte) (idles : Nat), s.link.upRun = none → s.forwarding = true → 1 ≤ idles →
    [hi, lo] ≠ wordBytes (crcOf body) →
    ∃ t, exec (.sweepFrame (body ++ [hi, lo]) idles) s = .next t ∧
      t.units = s.units ∧ t.service.shadow = s.service.shadow ∧
      t.service.marks &&& 0x1FE = s.service.marks &&& 0x1FE ∧
      (∀ id : TableId, id ≠ .slot → t.service.active.get id = s.service.active.get id) ∧
      (t.service = s.service ∨ (s.service.marks.getLsbD 0 = true ∧ t.service.marks = s.service.marks &&& 0x1FE ∧
        t.service.active.get .slot = s.service.shadow.get .slot ∧
        t.service.swaps = (s.service.swaps.map fun w => w &&& 0x1FE).filter fun w => decide (w ≠ 0))) ∧
      t.status.mask = s.status.mask ∧
      (∀ i, i ≠ 3 → i ≠ 13 → t.status.events.getLsbD i = s.status.events.getLsbD i) ∧
      (s.service.marks.getLsbD 0 = false → t.status.events.getLsbD 13 = s.status.events.getLsbD 13) ∧
      (t.link.staging = Bank.all 4 none ∨ t.link.staging = s.link.staging) ∧
      t.link.timer = s.link.timer ∧ t.link.position = s.link.position ∧ t.link.upRun = none ∧ t.link.downLive = s.link.downLive ∧
      t.profile = s.profile ∧ t.beat = s.beat ∧ t.phase = s.phase ∧ t.reflex = s.reflex ∧ t.scan = s.scan ∧
      t.limits = s.limits ∧ t.rotation = s.rotation ∧ t.pending = s.pending ∧ t.due = s.due ∧ t.cause = s.cause ∧
      t.now = s.now ∧ t.loadTicks = s.loadTicks ∧ t.strap = s.strap ∧ t.pins = s.pins ∧ t.answer = s.answer ∧
      t.freeCount = s.freeCount ∧
      (∀ n, t.slots.get n = { s.slots.get n with fresh := (t.slots.get n).fresh }) ∧
      ∀ c, t.contacts.get c = { s.contacts.get c with changed := (t.contacts.get c).changed }

/-- O8. Latched events stay set until a CLEAR or a reset (R129), fired latches (R121) and safe causes (R127) likewise: no other
command takes one away. A SWEEP_FRAME may carry such a record. -/
def Obligations.LatchedStaysLatched : Prop :=
  ∀ (i : Instr) (s t : State), exec i s = .next t →
    (match i with
      | .powerUp _ | .resetPin | .clear _ | .resetFull _ _ _ | .resetUnits _ _ _ | .sweepFrame _ _ => False
      | _ => True) →
    (∀ k, s.status.events.getLsbD k = true → t.status.events.getLsbD k = true) ∧
    (∀ n, (s.reflex.rows.get n).fired = true → (t.reflex.rows.get n).fired = true) ∧
    (s.reflex.link = true → t.reflex.link = true) ∧ (s.reflex.thermal = true → t.reflex.thermal = true) ∧
    (s.reflex.supply = true → t.reflex.supply = true)

/-- O9. The millisecond divider (R5): no occurrence but a power-up, the reset pin and the millisecond tick itself sets it, and a
core tick counts it up or, past 31999, wraps it with the millisecond tick falling due. -/
def Obligations.DividerSetByNothingElse : Prop :=
  (∀ (i : Instr) (s t : State), exec i s = .next t →
    t.beat.divider = (match i with
      | .powerUp _ | .resetPin | .millisecondTick _ => 0
      | _ => s.beat.divider)) ∧
  ∀ s t : State, s.pending = [] → s.due = [] → step s = .next t →
    if s.beat.divider < 31999 then t.beat.divider = s.beat.divider + 1 ∧ DueEvent.msTick ∉ t.due
    else t.beat.divider = 0 ∧ DueEvent.msTick ∈ t.due

/-! ## The machine: queue, reset, start -/

/-- O10. The command at the front of the queue is the one executed, on the state with the rest of the queue (the model's queue, log
entry 1). -/
def Obligations.FrontCommandExecuted : Prop :=
  ∀ (c : Instr) (rest : List Instr) (s : State), step { s with pending := c :: rest } = exec c { s with pending := rest }

/-- O11. The state after reset satisfies every property that the steps keep, with every gate line off, nothing forwarded and the
profile load begun (R14, R36, R73, R87, R103, R117, R132, R142, R153). -/
def Obligations.ResetStateSound : Prop :=
  (∀ u, (State.reset.units.get u).GatesSound ∧ (State.reset.units.get u).Lawful ∧
    (State.reset.units.get u).lines = ⟨false, false, false, false⟩) ∧
  State.reset.OnTimesLawful ∧ State.reset.Settled ∧ QueueLawful State.reset.scan.queue ∧ State.reset.ResultsLawful ∧
  State.reset.phase = .loading ∧ State.reset.forwarding = false ∧ State.reset.pending = []

/-- O12. POWER_UP and RESET_PIN in every state: every block is as State.reset has it from this moment, the cause is recorded, the
strap is sampled at power-up alone, and a save is aborted (R12, R36, R73, R87, R103, R117, R132, R142, R151, R154, R155, R158).
What they leave (tables, mask, store bytes, pins, clock, queue) is the model's reading: log entry 12; that the beat number is 0
before the start boundary is its choice: log entry 6. -/
def Obligations.ResetTaken : Prop :=
  ∀ (s : State) (strap : Bool), ∃ t v : State, exec (.powerUp strap) s = .next t ∧ exec .resetPin s = .next v ∧
    t = { v with cause := .power, strap := strap } ∧ v.cause = .resetPin ∧ v.strap = s.strap ∧
    v.due = [] ∧ v.phase = .loading ∧ v.loadTicks = 0 ∧ v.answer = [] ∧
    v.beat = { number := 0, position := 0, length := s.beat.length, restart := none, divider := 0 } ∧
    v.scan = State.reset.scan ∧ v.slots = State.reset.slots ∧ v.contacts = State.reset.contacts ∧
    v.rotation = State.reset.rotation ∧ v.limits = State.reset.limits ∧ v.reflex = State.reset.reflex ∧
    v.status = { events := 0, mask := s.status.mask } ∧ v.link = State.reset.link ∧
    v.service = { active := s.service.active, shadow := s.service.shadow, marks := 0, swaps := [] } ∧
    v.profile = { s.profile with save := .idle, remaining := 0, job := [], writing := none } ∧
    v.pins = s.pins ∧ v.now = s.now ∧ v.pending = s.pending ∧ v.freeCount = s.freeCount ∧
    ∀ u, v.units.get u = { PulseUnit.atReset with
        kind := (s.units.get u).kind
        driveDir := (s.units.get u).driveDir
        lines := (v.units.get u).lines
        dead := (v.units.get u).dead } ∧
      ((s.units.get u).GatesSound → (v.units.get u).lines = ⟨false, false, false, false⟩)

/-- O13. PROFILE_LOAD_END while loading or reloading (R153, R103, R11, R130, R132): forwarding, the start boundary with beat number
0, each section from the store or, where its check or the structural test fails, the factory defaults and FALLBACK; both copies
alike; the conditioner started on the pins; the report mask from the loaded SAFE table; START set; units in OFF stay there; the
serial number from IDENTITY, 0 where its check is bad (R152); every enabled reflex row whose contact is active on those pins fires.
With no load in progress it changes nothing. A hub that a STANDBY behind the RESET FULL has put into standby loads likewise and
stays there with no start boundary: log entry 14. That the sections are read at the load's end: log entry 51. -/
def Obligations.LoadEndStarts : Prop :=
  (∀ (s : State) (pins : Byte), s.phase = .run ∨ s.phase = .standby → exec (.profileLoadEnd pins) s = .next s) ∧
  (∀ (s : State) (pins : Byte), s.phase = .standbyReload → ∃ t, exec (.profileLoadEnd pins) s = .next t ∧
    t.phase = .standby ∧ t.beat = s.beat ∧ t.status.events.getLsbD 0 = s.status.events.getLsbD 0 ∧
    t.status.mask = safeReportMask (t.service.active.row .safe 0) ∧ t.service.shadow = t.service.active ∧
    t.service.marks = s.service.marks ∧
    (∀ c, t.contacts.get c = { filtered := pins.getLsbD c, hold := none, changed := false, latch := none }) ∧
    t.slots = s.slots ∧ t.scan = s.scan ∧ t.pending = s.pending ∧ t.now = s.now ∧ t.cause = s.cause ∧ t.link = s.link ∧
    (∀ r, s.beat.restart = some r → r ≤ s.now → DueEvent.wakeStart ∈ t.due) ∧
    ∀ u, (s.units.get u).state = .off → (t.units.get u).state = .off) ∧
  ∀ (s : State) (pins : Byte), s.phase = .loading ∨ s.phase = .reloading →
    ∃ t, exec (.profileLoadEnd pins) s = .next t ∧
      t.phase = .run ∧ t.forwarding = true ∧ t.beat.number = 0 ∧ t.beat.position = 0 ∧
      t.beat.length = beatLength (t.service.active.row .beat 0) ∧ t.beat.divider = s.beat.divider ∧
      t.status.events.getLsbD 0 = true ∧ t.status.mask = safeReportMask (t.service.active.row .safe 0) ∧
      t.service.shadow = t.service.active ∧
      (∀ sec id, id ∈ sec.tableIds → t.service.active.get id =
        if s.profile.loads sec s.service.active then (s.profile.sectionTables sec s.service.active).get id
        else factoryTables.get id) ∧
      t.profile.fallback = ⟨!sectionCheckGood s.profile.identity, !s.profile.loads .cal s.service.active,
        !s.profile.loads .safe s.service.active, !s.profile.loads .tables s.service.active⟩ ∧
      (∀ c, t.contacts.get c = { filtered := pins.getLsbD c, hold := none, changed := false, latch := none }) ∧
      t.profile.serial.toNat = (if sectionCheckGood s.profile.identity
        then 16777216 * rowNat s.profile.identity 0 + 65536 * rowNat s.profile.identity 1 +
          256 * rowNat s.profile.identity 2 + rowNat s.profile.identity 3
        else 0) ∧
      (∀ (n : Fin 16) (c : Fin 8), reflexEnabled (t.tables.reflexRow n) = true →
        (reflexSource (t.tables.reflexRow n)).val = 16 + c.val →
        pins.getLsbD c = contactPolarity (t.tables.contactRow c) →
        (t.reflex.rows.get n).fired = true ∧ (t.reflex.rows.get n).active = true ∧ t.status.events.getLsbD 9 = true) ∧
      (∀ r, (t.rotation.get r).accepted = s.pins.rotation.getLsbD r ∧ (t.rotation.get r).count = 0 ∧
        (t.rotation.get r).interval = 65535 ∧ (t.rotation.get r).age = 65535 ∧ (t.rotation.get r).edgesSeen = 0) ∧
      t.pending = s.pending ∧ t.now = s.now ∧ t.cause = s.cause ∧ t.strap = s.strap ∧ t.link = s.link ∧
      ∀ u, (s.units.get u).state = .off → (t.units.get u).state = .off ∧ (t.units.get u).pending = none

/-! ## Pulse units -/

/-- O14. ON_TIME_START and ON_TIME_END of a unit in RUN with a pulse in this beat (R47, R48, R16, R15): the logical drive state
turns to the beat drive direction, or to the off-time state; any other unit is left as it is. Nothing else changes. Which lines
wait how long: log entry 15, and after another change at the same core tick log entry 53. -/
def Obligations.PulseEdgesTurnDrive : Prop :=
  ∀ (s : State) (u : Fin 4), ∃ y z : PulseUnit,
    exec (.onTimeStart u) s = .next { s with due := s.due.erase (.onStart u), units := s.units.set u y } ∧
    exec (.onTimeEnd u) s = .next { s with due := s.due.erase (.onEnd u), units := s.units.set u z } ∧
    if (s.units.get u).state = .run ∧ 0 < (s.units.get u).onTime then
      PulseUnit.Turns (s.units.get u) y (if (s.units.get u).driveDir = .rev then .rev else .fwd) ∧
      PulseUnit.Turns (s.units.get u) z (if unitDecaySlow (s.tables.unitRow u) then .brake else .coast)
    else y = s.units.get u ∧ z = s.units.get u

/-- O15. Dead time (R15): each core tick takes one from it, DEAD_TIME_END falls due as it reaches 0, and then every line the
logical drive state calls for is on; with no dead time running nothing changes. That one dead time serves all lines waiting is
the model's reading: log entry 15. -/
def Obligations.DeadTimeRunsOut : Prop :=
  (∀ (s : State) (u : Fin 4), exec (.deadTimeEnd u) s = .next { s with
      due := s.due.erase (.deadTime u)
      units := s.units.set u (if (s.units.get u).dead = none then s.units.get u
        else { s.units.get u with lines := (s.units.get u).drive.called, dead := none }) }) ∧
  ∀ (s : State) (u : Fin 4), s.pending = [] → s.due = [] → ∃ t, step s = .next t ∧
    (∀ k, (s.units.get u).dead = some (k + 1) → t.units.get u = { s.units.get u with dead := some k } ∧
      (DueEvent.deadTime u ∈ t.due ↔ k = 0)) ∧
    ((s.units.get u).dead = none → t.units.get u = s.units.get u ∧ DueEvent.deadTime u ∉ t.due)

/-- O16. One step of the demand (R39, R40, R41): with step 0 straight to the target, else toward it by at most the step; it stops at
0 on its way across, and does not leave 0 against the direction memory. -/
def Obligations.DemandStepsTowardTarget : Prop :=
  ∀ (S : Nat) (T D : Int) (m : Option Dir),
    (D = 0 → (m = some .fwd ∧ T < 0) ∨ (m = some .rev ∧ 0 < T) → rampStep S T D m = 0) ∧
    (D = 0 → ¬((m = some .fwd ∧ T < 0) ∨ (m = some .rev ∧ 0 < T)) → rampStep S T D m =
      if S = 0 ∨ T.natAbs ≤ S then T else if 0 < T then (S : Int) else -(S : Int)) ∧
    ((0 < D ∧ 0 ≤ T) ∨ (D < 0 ∧ T ≤ 0) → rampStep S T D m =
      if S = 0 ∨ (T - D).natAbs ≤ S then T else if D < T then D + S else D - S) ∧
    (0 < D → T < 0 → rampStep S T D m = if S = 0 ∨ D ≤ S then 0 else D - S) ∧
    (D < 0 → 0 < T → rampStep S T D m = if S = 0 ∨ -D ≤ S then 0 else D + S) ∧
    (S ≠ 0 → (rampStep S T D m - D).natAbs ≤ S) ∧
    (T.natAbs ≤ 1000 → D.natAbs ≤ 1000 → (rampStep S T D m).natAbs ≤ 1000)

/-- O17. The drive computation at a natural boundary (R24 to R29, R38 to R48): what every unit in RUN has after it, from its target
or pending setpoint, its demand, memory and level, its UNIT row, the beat length of the new beat and the cap, in a settled part
with no swap pending; at position 0 it presents its beat drive direction where that lies in the on-time, else its off-time state
(R16, R47, R48). Lines after a change of drive state: log entries 15 and 53. -/
def Obligations.RunUnitComputesItsBeat : Prop :=
  ∀ (s : State) (u : Fin 4), s.Settled → (∀ v, (s.units.get v).GatesSound) → s.phase = .run → s.service.marks &&& 0x1FE = 0 →
    (s.units.get u).state = .run →
    let x := s.units.get u
    let row := s.tables.unitRow u
    let raw : Int := match x.pending with
      | some sp => sp.target.toInt
      | none => x.target
    let T : Int := match x.pending with
      | some _ => if raw < 0 ∧ x.kind = .unidir then 0 else max (-1000) (min raw 1000)
      | none => x.target
    let flag : Bool := match x.pending with
      | some sp => sp.flags.getLsbD 0
      | none => x.stopFlag
    let D := rampStep (unitRampStep row) T x.demand x.dirMemory
    let arrives := decide (x.demand ≠ 0 ∧ D = 0)
    let memory : Option Dir :=
      if D ≠ 0 then some (if D < 0 then .rev else .fwd)
      else if arrives ∧ unitReversalPause row = 0 then none else x.dirMemory
    let opposed := (memory = some .fwd ∧ T < 0) ∨ (memory = some .rev ∧ 0 < T)
    let braking := arrives ∧ T = 0 ∧ flag ∧ 0 < unitBrakeTime row
    let cap : Nat := min (if s.limits.warnLive then min 1000 (unitThermalCap row) else 1000)
      (match s.capOf u with
       | some c => c
       | none => 1000)
    ∃ t, exec .naturalBeatBoundary s = .next t ∧
      let y := t.units.get u
      y.target = T ∧ y.stopFlag = flag ∧ y.pending = none ∧ y.demand = D ∧ y.dirMemory = memory ∧
      (D ≠ 0 → y.state = .run ∧ y.countDir = (if D < 0 then .rev else .fwd) ∧ y.zeroCount = none) ∧
      (D = 0 → y.countDir = x.countDir ∧ y.state = (if opposed then .pause else if braking then .brake else .run) ∧
        y.zeroCount = (if arrives ∧ unitReversalPause row = 0 then none else x.zeroCount) ∧
        y.brakeCount = (if braking then .waiting (unitBrakeTime row) else x.brakeCount)) ∧
      PulseUnit.OpensPulse x y row (beatLength s.tables.beatRow) cap ∧
      y.foldLevel = x.foldLevel ∧ y.kind = x.kind ∧
      (T ≠ raw → t.status.events.getLsbD 12 = true)

/-- O18. A boundary for units that do not compute (R24, R28, R30, R34, R35, R50): PAUSE and BRAKE store a pending setpoint, clamped, as T and
stop flag; PAUSE stays while T opposes the memory and is left on any other T, by the drive computation from demand 0 (R28, R38); BRAKE stays; OFF
and HELD discard it; demand, applied duty and on-time are 0 in each that stays. What the unit that leaves PAUSE has then follows by
the ramp (R39 to R41), the cap and applied duty (R43, R44), the on-time (R45, R46), its placement and direction (R47, R48) and the
gate lines (R14 to R16). Lines after a change of drive state: log entries 15 and 53. -/
def Obligations.IdleUnitsAtBoundary : Prop :=
  ∀ (s : State) (u : Fin 4), s.Settled → (∀ v, (s.units.get v).GatesSound) → s.phase = .run → s.service.marks &&& 0x1FE = 0 →
    (s.units.get u).state ≠ .run →
    let x := s.units.get u
    let raw : Int := match x.pending with
      | some sp => sp.target.toInt
      | none => x.target
    let T : Int := match x.pending with
      | some _ => if raw < 0 ∧ x.kind = .unidir then 0 else max (-1000) (min raw 1000)
      | none => x.target
    let flag : Bool := match x.pending with
      | some sp => sp.flags.getLsbD 0
      | none => x.stopFlag
    let opposed := (x.dirMemory = some .fwd ∧ T < 0) ∨ (x.dirMemory = some .rev ∧ 0 < T)
    ∃ t, exec .naturalBeatBoundary s = .next t ∧
      let y := t.units.get u
      y.pending = none ∧ y.kind = x.kind ∧ y.foldLevel = x.foldLevel ∧
      (x.state = .off → y.state = .off ∧ y.demand = 0 ∧ y.applied = 0 ∧ y.onTime = 0 ∧ y.target = x.target ∧
        y.stopFlag = x.stopFlag) ∧
      (x.state.held = true → y.state.held = true ∨ (y.state = .run ∧ y.target = 0)) ∧
      (x.state.held = true → y.demand = 0 ∧ y.applied = 0 ∧ y.onTime = 0 ∧ y.dirMemory = x.dirMemory) ∧
      (x.state.held = true → y.state = x.state → y.target = x.target ∧ y.stopFlag = x.stopFlag) ∧
      (x.state = .brake → y.state = .brake ∧ y.demand = 0 ∧ y.applied = 0 ∧ y.onTime = 0 ∧ y.brakeCount = x.brakeCount ∧
        y.target = T ∧ y.stopFlag = flag) ∧
      (x.state = .pause → opposed →
        y.state = .pause ∧ y.demand = 0 ∧ y.applied = 0 ∧ y.onTime = 0 ∧ y.target = T ∧ y.stopFlag = flag ∧
        y.dirMemory = x.dirMemory) ∧
      (x.state = .pause → x.demand = 0 → ¬opposed →
        let D := rampStep (unitRampStep (s.tables.unitRow u)) T 0 x.dirMemory
        let cap : Nat := min (if s.limits.warnLive then min 1000 (unitThermalCap (s.tables.unitRow u)) else 1000)
          (match s.capOf u with
           | some c => c
           | none => 1000)
        y.state = .run ∧ y.target = T ∧ y.stopFlag = flag ∧ y.demand = D ∧ y.brakeCount = x.brakeCount ∧
        (D ≠ 0 → y.dirMemory = some (if D < 0 then .rev else .fwd) ∧ y.countDir = (if D < 0 then .rev else .fwd) ∧
          y.zeroCount = none) ∧
        (D = 0 → y.dirMemory = x.dirMemory ∧ y.countDir = x.countDir ∧ y.zeroCount = x.zeroCount) ∧
        PulseUnit.OpensPulse x y (s.tables.unitRow u) (beatLength s.tables.beatRow) cap) ∧
      (x.state = .pause ∨ x.state = .brake → T ≠ raw → t.status.events.getLsbD 12 = true)

/-- O19. Fold-back at a result stored into the unit's current slot (R51, R52, R53, R54): evaluated in RUN alone, against the current
limit of the active UNIT table; the level stays within 0 to 7. -/
def Obligations.FoldBackFollowsResults : Prop :=
  ∀ (s : State) (slot : Fin 26) (v : Nat) (u : Fin 4),
    let x := s.units.get u
    let row := s.tables.unitRow u
    let y := (s.storeToUnits slot v).units.get u
    (unitCurrentSlot row ≠ some slot.val ∨ x.state ≠ .run → y = x) ∧
    (unitCurrentSlot row = some slot.val → x.state = .run →
      (unitCurrentLimit row < v → x.foldLevel < 7 → y = { x with foldLevel := x.foldLevel + 1, releaseRun := 0 }) ∧
      (unitCurrentLimit row < v → 7 ≤ x.foldLevel →
        let run := if x.exhaustRun < unitExhaustCount row then x.exhaustRun + 1 else x.exhaustRun
        y = { x with releaseRun := 0, exhaustRun := run, exhausted := x.exhausted || decide (unitExhaustCount row ≤ run) }) ∧
      (v ≤ unitCurrentLimit row → x.releaseRun + 1 < unitReleaseCount row →
        y = { x with exhaustRun := 0, releaseRun := x.releaseRun + 1 }) ∧
      (v ≤ unitCurrentLimit row → unitReleaseCount row ≤ x.releaseRun + 1 →
        y = { x with exhaustRun := 0, releaseRun := 0, foldLevel := x.foldLevel - 1,
                     exhausted := x.exhausted && !decide (x.foldLevel = 7) })) ∧
    (x.foldLevel ≤ 7 → y.foldLevel ≤ 7)

/-- O20. REVERSAL_PAUSE_END, BRAKE_ONE_SHOT_START and BRAKE_END (R26, R30, R31). The end of a brake may qualify limit rows and
stall timers (R99, R109) and what follows from that. Lines after a change of drive state: log entries 15 and 53. -/
def Obligations.PauseAndBrakeTimersEnd : Prop :=
  ∀ (s : State) (u : Fin 4),
    let x := s.units.get u
    let row := s.tables.unitRow u
    exec (.reversalPauseEnd u) s = .next { s with
      due := s.due.erase (.pauseEnd u)
      units := s.units.set u
        (if x.demand = 0 ∧ (∃ c, x.zeroCount = some c ∧ unitReversalPause row ≤ c)
         then { x with dirMemory := none, zeroCount := none } else x) } ∧
    (∃ y, exec (.brakeOneShotStart u) s = .next { s with due := s.due.erase (.brakeStart u), units := s.units.set u y } ∧
      (∀ n, x.state = .brake → x.brakeCount = .waiting n → PulseUnit.Turns { x with brakeCount := .running n } y .brake) ∧
      ((∀ n, x.brakeCount ≠ .waiting n) ∨ x.state ≠ .brake → y = x)) ∧
    (∃ y t, exec (.brakeEnd u) s = .next t ∧
      State.Course { s with due := s.due.erase (.brakeEnd u), units := s.units.set u y } t ∧
      (∀ k, k ≤ 1 → x.state = .brake → x.brakeCount = .running k →
        PulseUnit.Turns { x with state := .run, brakeCount := .idle } y (if unitDecaySlow row then .brake else .coast)) ∧
      ((∀ k, k ≤ 1 → x.brakeCount ≠ .running k) ∨ x.state ≠ .brake → y = x) ∧
      (s.Settled → t.Settled ∧ (x.state = .brake → x.brakeCount = .running 1 → t.units.get u = y)))

/-! ## The beat -/

/-- O21. A natural boundary (R1, R2, R82, R70, R3): number plus 1, position 0, the length afresh from the active BEAT table, every age
plus 1, SETPOINT and plan work of the other statements, a TEMP or SUPPLY request in beats 0 and 32 of 64. At the instant of a
pending restart the one boundary is the restart's (R8). With the beat not running, nothing. -/
def Obligations.NaturalBoundaryOpensBeat : Prop :=
  ∀ s : State,
    (s.phase ≠ .run → exec .naturalBeatBoundary s = .next { s with due := s.due.erase .boundary }) ∧
    (s.phase = .run → (∃ r, s.beat.restart = some r ∧ r ≤ s.now) → exec .naturalBeatBoundary s = exec .syncRestart s) ∧
    (s.phase = .run → (∀ r, s.beat.restart = some r → s.now < r) → ∃ t, exec .naturalBeatBoundary s = .next t ∧
      t.beat = { number := s.beat.number + 1, position := 0, length := beatLength t.tables.beatRow,
                 restart := s.beat.restart, divider := s.beat.divider } ∧
      (∀ n, t.slots.get n = { s.slots.get n with age := min ((s.slots.get n).age + 1) 65535 }) ∧
      (housekeepingWaiting s.scan.queue = [] → ∀ r : ScanRequest,
        (t.beat.number.toNat % 64 = 0 ∧ r = { source := .temp, input := 15, raised := s.now, late := 0 }) ∨
        (t.beat.number.toNat % 64 = 32 ∧ r = { source := .supply, input := 14, raised := s.now, late := 0 }) →
        r ∈ t.scan.queue ∨ ∃ c, t.scan.converter = some c ∧ c.request = r) ∧
      (∀ e ∈ t.due, e.ofBeat = false ∧ (e ∈ s.due ∨ ∃ n, e = .starvation n)) ∧
      (∀ k, s.status.events.getLsbD k = true → t.status.events.getLsbD k = true) ∧
      (∀ u, (s.units.get u).state = .off → (t.units.get u).state = .off) ∧
      t.pending = s.pending ∧ t.now = s.now ∧ t.phase = s.phase ∧ t.loadTicks = s.loadTicks ∧ t.cause = s.cause ∧
      t.strap = s.strap ∧ t.pins = s.pins ∧ t.contacts = s.contacts ∧ t.link = s.link ∧ t.profile = s.profile ∧
      t.answer = s.answer ∧ t.freeCount = s.freeCount ∧ t.limits.warnLive = s.limits.warnLive ∧
      t.service.shadow = s.service.shadow ∧ t.reflex.link = s.reflex.link ∧ t.reflex.thermal = s.reflex.thermal ∧
      t.reflex.supply = s.reflex.supply)

/-- O22. When swap marks take effect (R151, R139): every mark but SLOT at the beat boundary, all together, SLOT at the direction
byte of an OUT frame on UP; active copies take the shadows, marks clear, TABLES_SWAPPED with the last table of a recorded set;
and what each swap does to its owner (R55, R58, R71, R72, R93, R101, R112, R113, R126, R130): a SCAN swap flushes, so that no table
request from before it is converted into a result; each row is decided on the sources as the other
swaps leave them, and a contact's condition follows its new polarity. The SLOT mark is taken at the direction byte of the frame:
log entry 21. That a continuing inactive row fires where an INPUT swap of the same boundary makes its contact active, where R126's
table says inactive, is the model's reading: log entry 17. -/
def Obligations.SwapMarksTakeEffect : Prop :=
  (∀ s : State, s.phase = .run → ∃ t, exec .naturalBeatBoundary s = .next t ∧
    let set := s.service.marks &&& 0x1FE
    t.service.marks = s.service.marks &&& 1 ∧
    (∀ id : TableId, t.service.active.get id =
      if id ≠ .slot ∧ s.service.marks.getLsbD id.code then s.service.shadow.get id else s.service.active.get id) ∧
    t.service.swaps = (s.service.swaps.map fun w => w &&& ~~~set).filter (fun w => decide (w ≠ 0)) ∧
    t.status.events.getLsbD 13 = (s.status.events.getLsbD 13 || s.service.swaps.any fun w => decide (w &&& ~~~set = 0)) ∧
    t.status.mask = (if set.getLsbD 8 then safeReportMask (t.tables.row .safe 0) else s.status.mask) ∧
    t.limits.supplyLow = (if set.getLsbD 8 then 0 else s.limits.supplyLow) ∧
    (set.getLsbD 1 = true → (∀ e, (t.scan.entries.get e).sum = 0 ∧ (t.scan.entries.get e).samples = 0) ∧
      (∀ q ∈ t.scan.queue, q.source.isEntry = true → q.raised = s.now) ∧
      (∀ q ∈ t.scan.queue, q.source.isEntry = false → q.raised = s.now ∨ q ∈ s.scan.queue) ∧
      (∀ c, s.scan.converter = some c →
        t.scan.converter = some { c with discard := c.discard || c.request.source.isEntry }) ∧
      ∀ c, s.scan.converter = none → t.scan.converter = some c → c.discard = false ∧
        (c.request.source.isEntry = true → c.request.raised = s.now)) ∧
    (set.getLsbD 2 = true → ∀ n, (t.limits.rows.get n).tripRun = 0 ∧ (t.limits.rows.get n).releaseRun = 0 ∧
      (t.limits.rows.get n).active = false ∧
      ((t.limits.rows.get n).starve = none ∨ (t.limits.rows.get n).starve = some 0)) ∧
    (set.getLsbD 4 = true → ∀ u, (t.units.get u).foldLevel = 0 ∧ (t.units.get u).releaseRun = 0 ∧
      (t.units.get u).exhaustRun = 0 ∧ (t.units.get u).exhausted = false) ∧
    (set.getLsbD 5 = true → ∀ r, (t.rotation.get r).stalled = false ∧
      ((t.rotation.get r).stallTimer = none ∨ (t.rotation.get r).stallTimer = some 0)) ∧
    (s.Settled → t.Settled ∧ ∀ n, let old := s.tables.reflexRow n
      let new := t.tables.reflexRow n
      let x := s.reflex.rows.get n
      let y := t.reflex.rows.get n
      let continuing := reflexEnabled old = true ∧ reflexSource old = reflexSource new
      (reflexEnabled new = false → y.active = false ∧ y.fired = x.fired) ∧
      (reflexEnabled new = true → t.sourceActive (reflexSource new) = true → y.active = true ∧
        (¬continuing → y.fired = true ∧ t.status.events.getLsbD 9 = true)) ∧
      (reflexEnabled new = true → continuing → x.active = true → reflexLatched new = true → y.active = true) ∧
      (reflexEnabled new = true → reflexLatched new = false → t.sourceActive (reflexSource new) = false → y.active = false) ∧
      ∀ c : Fin 8, (reflexSource new).val = 16 + c.val → reflexEnabled new = true →
        let before := decide ((s.contacts.get c).filtered = contactPolarity (s.tables.contactRow c))
        let after := decide ((s.contacts.get c).filtered = contactPolarity (t.tables.contactRow c))
        (y.active = true ↔ after = true ∨ (continuing ∧ x.active = true ∧ reflexLatched new = true)) ∧
        (y.fired = true ↔ x.fired = true ∨ (after = true ∧ ¬(continuing ∧ before = true))))) ∧
  ∀ s : State, s.forwarding = true → s.link.upRun = none → ∃ t, exec (.sweepFrame [0xD5, 0] 0) s = .next t ∧
    (s.service.marks.getLsbD 0 = false → t.service = s.service ∧ t.status = s.status) ∧
    (s.service.marks.getLsbD 0 = true →
      t.service.marks = s.service.marks &&& 0x1FE ∧ t.service.shadow = s.service.shadow ∧
      (∀ id : TableId, t.service.active.get id = if id = .slot then s.service.shadow.get id else s.service.active.get id) ∧
      t.status.events.getLsbD 13 = (s.status.events.getLsbD 13 || s.service.swaps.any fun w => decide (w &&& 0x1FE = 0)))

/-- O23. SYNC_RESTART (R8, R72): the pending restart is spent, the beat number advances by one at position 0, what was due of the cut
beat does not occur, the sequencer flushes:
no table request from before stays, partial sums are 0, and a table conversion in progress will be discarded. With no restart
pending, or the beat not running, nothing. -/
def Obligations.SyncRestartCutsBeat : Prop :=
  ∀ s : State,
    (s.phase ≠ .run ∨ s.beat.restart = none → exec .syncRestart s = .next { s with due := s.due.erase .restart }) ∧
    (s.phase = .run → s.beat.restart ≠ none → ∃ t, exec .syncRestart s = .next t ∧
      t.beat = { number := s.beat.number + 1, position := 0, length := beatLength t.tables.beatRow,
                 restart := none, divider := s.beat.divider } ∧
      (∀ n, t.slots.get n = { s.slots.get n with age := min ((s.slots.get n).age + 1) 65535 }) ∧
      (∀ e, (t.scan.entries.get e).sum = 0 ∧ (t.scan.entries.get e).samples = 0 ∧
        (s.scan.entries.get e).drops ≤ (t.scan.entries.get e).drops) ∧
      (∀ q ∈ t.scan.queue, q.source.isEntry = true → q.raised = s.now) ∧
      (∀ q ∈ t.scan.queue, q.source.isEntry = false → q.raised = s.now ∨ q ∈ s.scan.queue) ∧
      (∀ c, s.scan.converter = some c → t.scan.converter = some { c with discard := c.discard || c.request.source.isEntry }) ∧
      (∀ e ∈ t.due, e.ofBeat = false ∧ (e ∈ s.due ∨ ∃ n, e = .starvation n)) ∧
      t.pending = s.pending ∧ t.now = s.now ∧ t.phase = s.phase ∧ t.pins = s.pins ∧ t.contacts = s.contacts ∧
      t.link = s.link ∧ t.profile = s.profile ∧ t.cause = s.cause)

/-- O24. The start boundary of a wake (R11, R94, R104, R151, R157, R158): by the scheduled instant, or by the lowest contact that
differs from its wake latch; beat 0, ages 0, latches none, START, the cause; the marks left pending but SLOT's take effect, with
TABLES_SWAPPED at the last table of a recorded set; otherwise nothing. -/
def Obligations.WakeStartsBeat : Prop :=
  ∀ s : State,
    (s.phase ≠ .standby ∨ s.beat.restart = none → exec .wakeLinkStart s = .next { s with due := s.due.erase .wakeStart }) ∧
    (s.phase ≠ .standby ∨ (∀ c, (s.contacts.get c).wakes = false) →
      exec .wakeContact s = .next { s with due := s.due.erase .wakeContact }) ∧
    ∀ (i : Instr) (cause : StartCause),
      (i = .wakeLinkStart ∧ cause = .wakeLink ∧ s.beat.restart ≠ none) ∨
      (∃ c, i = .wakeContact ∧ cause = .wakeContact c ∧ (s.contacts.get c).wakes = true ∧
        ∀ k < c, (s.contacts.get k).wakes = false) →
      s.phase = .standby → ∃ t, exec i s = .next t ∧
        t.phase = .run ∧ t.cause = cause ∧ t.status.events.getLsbD 0 = true ∧
        t.beat = { number := 0, position := 0, length := beatLength t.tables.beatRow, restart := none,
                   divider := s.beat.divider } ∧
        (∀ n, t.slots.get n = { s.slots.get n with age := 0 }) ∧
        (∀ c, t.contacts.get c = { s.contacts.get c with latch := none }) ∧
        (∀ r, (t.rotation.get r).count = (s.rotation.get r).count ∧ (t.rotation.get r).accepted = (s.rotation.get r).accepted ∧
          (t.rotation.get r).edgesSeen = 0 ∧ (t.rotation.get r).interval = 65535 ∧
          (t.rotation.get r).age = (s.rotation.get r).age) ∧
        t.pending = s.pending ∧ t.now = s.now ∧ t.pins = s.pins ∧ t.link = s.link ∧ t.profile = s.profile ∧
        t.service.shadow = s.service.shadow ∧ t.service.marks = s.service.marks &&& 1 ∧
        (∀ id : TableId, t.service.active.get id =
          if id ≠ .slot ∧ s.service.marks.getLsbD id.code then s.service.shadow.get id else s.service.active.get id) ∧
        let left := s.service.swaps.map fun w => w &&& ~~~(s.service.marks &&& 0x1FE)
        t.service.swaps = left.filter (fun w => decide (w ≠ 0)) ∧
        t.status.events.getLsbD 13 = (s.status.events.getLsbD 13 || left.any fun w => decide (w = 0))

/-- O25. A core tick with no command waiting and nothing due (R1, R8, R47, R48, R63, R67, R95, R157): time and position move on, each
rotation pin is compared with its accepted level, and what the tick brings falls due: boundaries, restarts, the starts and ends of
on-times, triggers, conversions, accepted changes. A restart stands before all else, so that it takes away what is due of the beat
it cuts (O23). The agenda is the model's (log entry 5); so is that the part ticks in place of idling (log entry 2), and the length
of a load left alone, 96000 ticks (log entry 13: R153 says only at most 3 ms). -/
def Obligations.CoreTickMovesTime : Prop :=
  ∀ s : State, s.pending = [] → s.due = [] → ∃ t, step s = .next t ∧
    t.now = s.now + 1 ∧ t.beat.number = s.beat.number ∧ t.beat.length = s.beat.length ∧ t.beat.restart = s.beat.restart ∧
    (s.phase ≠ .run → t.beat.position = s.beat.position) ∧
    (DueEvent.restart ∈ t.due ↔ s.phase = .run ∧ ∃ r, s.beat.restart = some r ∧ r ≤ s.now + 1) ∧
    (DueEvent.restart ∈ t.due → t.due.head? = some .restart) ∧
    (s.phase = .run → s.beat.length ≤ s.beat.position + 1 → DueEvent.boundary ∈ t.due ∧ t.beat.position = s.beat.position) ∧
    (s.phase = .run → s.beat.position + 1 < s.beat.length →
      t.beat.position = s.beat.position + 1 ∧ DueEvent.boundary ∉ t.due ∧
      (∀ e, DueEvent.trigger e ∈ t.due ↔ (s.scan.entries.get e).planned = some (s.beat.position + 1)) ∧
      ∀ u, let x := s.units.get u
        let row := s.tables.unitRow u
        let phase : Int := min (unitPhaseOffset row) (s.beat.length - 1)
        let inside := ((s.beat.position + 1 : Nat) - phase) % (s.beat.length : Int) < x.onTime
        (DueEvent.onStart u ∈ t.due ↔ x.state = .run ∧ inside ∧ x.drive ≠ if x.driveDir = .rev then .rev else .fwd) ∧
        (DueEvent.onEnd u ∈ t.due ↔ x.state = .run ∧ ¬inside ∧ x.drive ≠ if unitDecaySlow row then .brake else .coast)) ∧
    (DueEvent.wakeStart ∈ t.due ↔ s.phase = .standby ∧ ∃ r, s.beat.restart = some r ∧ r ≤ s.now + 1) ∧
    (DueEvent.conversion ∈ t.due ↔ ∃ c, s.scan.converter = some c ∧ c.started + 64 ≤ s.now + 1) ∧
    (DueEvent.loadEnd ∈ t.due ↔ (s.phase ≠ .run ∧ s.phase ≠ .standby) ∧ 96000 ≤ s.loadTicks + 1) ∧
    t.loadTicks = s.loadTicks + (if s.phase = .run ∨ s.phase = .standby then 0 else 1) ∧
    t.pending = [] ∧ t.phase = s.phase ∧ t.cause = s.cause ∧ t.strap = s.strap ∧ t.scan = s.scan ∧ t.slots = s.slots ∧
    t.contacts = s.contacts ∧ t.pins = s.pins ∧ t.limits = s.limits ∧ t.reflex = s.reflex ∧ t.status = s.status ∧
    t.service = s.service ∧ t.profile = s.profile ∧ t.answer = s.answer ∧ t.freeCount = s.freeCount ∧
    t.link = { s.link with downSilence := t.link.downSilence } ∧
    (∀ u, t.units.get u = { s.units.get u with dead := (t.units.get u).dead }) ∧
    ∀ r, let x := s.rotation.get r
      let y := t.rotation.get r
      let level := s.pins.rotation.getLsbD r
      let filter := rotationFilter (s.tables.rotationRow r)
      let falls := DueEvent.accepted r ∈ t.due
      y = { x with persistence := y.persistence } ∧
      (s.phase ≠ .run → s.phase ≠ .standby → y = x ∧ ¬falls) ∧
      (s.phase = .run ∨ s.phase = .standby →
        (level = x.accepted → y.persistence = none ∧ ¬falls) ∧
        (level ≠ x.accepted → x.persistence = none → filter = 0 → y.persistence = none ∧ falls) ∧
        (level ≠ x.accepted → x.persistence = none → filter ≠ 0 → y.persistence = some 1 ∧ (falls ↔ filter ≤ 1)) ∧
        ∀ k, level ≠ x.accepted → x.persistence = some k →
          y.persistence = some (min (k + 1) 16) ∧ (falls ↔ filter ≤ k + 1))

/-! ## The millisecond tick and what falls due at it -/

/-- O26. A millisecond tick (R5, R26, R30, R90, R98, R99, R141, R155): each block counts once, and what comes to its end is put on
the agenda; the filtered levels, unit states and conditions themselves do not move yet. That the tick counts also after an edge or
a good frame end taken first at its core tick, so that a window or timeout of 1 ms is reached there, is the model's choice: log
entries 54 and 55. -/
def Obligations.MillisecondTickCounts : Prop :=
  ∀ (s : State) (pins : Byte), s.due = [] → ∃ t, exec (.millisecondTick pins) s = .next t ∧
    t.beat = { s.beat with divider := 0 } ∧ t.pins = { s.pins with contacts := pins } ∧
    (∀ c, let x := s.contacts.get c
      let d := contactDebounce (s.tables.contactRow c)
      if s.phase = .run ∨ s.phase = .standby then
        (pins.getLsbD c = x.filtered → t.contacts.get c = { x with hold := none } ∧ DueEvent.filtered c ∉ t.due) ∧
        (pins.getLsbD c ≠ x.filtered → x.hold = none → d = 0 → t.contacts.get c = x ∧ DueEvent.filtered c ∈ t.due) ∧
        (pins.getLsbD c ≠ x.filtered → x.hold = none → 0 < d →
          t.contacts.get c = { x with hold := some 0 } ∧ DueEvent.filtered c ∉ t.due) ∧
        (∀ h, h < 15 → pins.getLsbD c ≠ x.filtered → x.hold = some h →
          t.contacts.get c = { x with hold := some (h + 1) } ∧ (DueEvent.filtered c ∈ t.due ↔ d ≤ h + 1))
      else t.contacts.get c = x ∧ DueEvent.filtered c ∉ t.due) ∧
    (∀ r, let x := s.rotation.get r
      let w := rotationStallWindow (s.tables.rotationRow r)
      if s.phase = .run ∨ s.phase = .standby then
        t.rotation.get r = { x with age := min (x.age + 1) 65535, stallTimer := x.stallTimer.map fun k => min (k + 1) w } ∧
        (DueEvent.stall r ∈ t.due ↔ ∃ k, x.stallTimer = some k ∧ k < w ∧ k + 1 = w)
      else t.rotation.get r = x ∧ DueEvent.stall r ∉ t.due) ∧
    (∀ u, let x := s.units.get u
      let y := t.units.get u
      y = { x with zeroCount := y.zeroCount, brakeCount := y.brakeCount } ∧
      y.zeroCount = (if x.demand = 0 ∧ x.dirMemory ≠ none then
          (match x.zeroCount with
           | none => some 0
           | some k => some (min (k + 1) 255)) else x.zeroCount) ∧
      (DueEvent.pauseEnd u ∈ t.due ↔ x.demand = 0 ∧ x.dirMemory ≠ none ∧
        ∃ k, y.zeroCount = some k ∧ unitReversalPause (s.tables.unitRow u) ≤ k) ∧
      (DueEvent.brakeStart u ∈ t.due ↔ x.state = .brake ∧ ∃ n, x.brakeCount = .waiting n) ∧
      (DueEvent.brakeEnd u ∈ t.due ↔ x.state = .brake ∧ ∃ k, x.brakeCount = .running k ∧ k ≤ 1) ∧
      (∀ k, x.state = .brake → x.brakeCount = .running (k + 2) → y.brakeCount = .running (k + 1))) ∧
    (∀ c, s.link.timer = .running c → t.link = { s.link with timer := .running (min (c + 1) 255) }) ∧
    ((∀ c, s.link.timer ≠ .running c) → t.link = s.link) ∧
    (DueEvent.linkExpiry ∈ t.due ↔ ∃ c, s.link.timer = .running c ∧ 0 < safeLinkTimeout (s.tables.row .safe 0) ∧
      safeLinkTimeout (s.tables.row .safe 0) ≤ c + 1) ∧
    (s.profile.save ≠ .busy → t.profile = s.profile ∧ DueEvent.blockBegin ∉ t.due ∧ DueEvent.blockVerified ∉ t.due) ∧
    (s.profile.save = .busy → s.profile.writing = none →
      t.profile = s.profile ∧ DueEvent.blockBegin ∈ t.due ∧ DueEvent.blockVerified ∉ t.due) ∧
    (∀ k, s.profile.save = .busy → s.profile.writing = some k → t.profile = { s.profile with writing := some (min (k + 1) 4) } ∧
      (DueEvent.blockVerified ∈ t.due ↔ 4 ≤ k + 1) ∧ (DueEvent.blockBegin ∈ t.due ↔ 4 ≤ k + 1)) ∧
    t.pending = s.pending ∧ t.now = s.now ∧ t.phase = s.phase ∧ t.loadTicks = s.loadTicks ∧ t.cause = s.cause ∧
    t.strap = s.strap ∧ t.scan = s.scan ∧ t.slots = s.slots ∧ t.limits = s.limits ∧ t.reflex = s.reflex ∧
    t.status = s.status ∧ t.service = s.service ∧ t.answer = s.answer ∧ t.freeCount = s.freeCount

/-- O27. FILTERED_CHANGE (R91, R121): the filtered level becomes the other one, the change flag is set, rows watching the
contact follow. That in standby the wake comparison of R94 is made here, at the change itself, so that a wake source that now
differs from its latch falls due to wake the part, is the model's reading: log entry 33. With the conditioner stopped, nothing. -/
def Obligations.FilteredChangeTaken : Prop :=
  ∀ (s : State) (c : Fin 8),
    (s.phase ≠ .run → s.phase ≠ .standby → exec (.filteredChange c) s = .next { s with due := s.due.erase (.filtered c) }) ∧
    (s.Settled → s.phase = .run ∨ s.phase = .standby → ∃ v,
      let x := s.contacts.get c
      let y : Contact := { x with filtered := !x.filtered, hold := none, changed := true }
      let e := State.Course { s with due := s.due.erase (.filtered c), contacts := s.contacts.set c y } v
      e ∧ v.Settled ∧
      exec (.filteredChange c) s = .next
        (if s.phase = .standby ∧ (∃ l, x.latch = some l ∧ l ≠ y.filtered) ∧ DueEvent.wakeContact ∉ v.due
         then { v with due := v.due ++ [.wakeContact] } else v) ∧
      ∀ n, reflexEnabled (s.tables.reflexRow n) = true → (reflexSource (s.tables.reflexRow n)).val = 16 + c.val →
        y.filtered = contactPolarity (s.tables.contactRow c) →
        (v.reflex.rows.get n).fired = true ∧ (v.reflex.rows.get n).active = true ∧ v.status.events.getLsbD 9 = true)

/-- O28. STALL (R100, R121): with the timer at the window, STn becomes active, and every enabled row watching it fires at that event;
a latched one keeps its hold, and where none of them holds the linked unit STn stays active. Otherwise nothing.
ACCEPTED_CHANGE (R95, R96, R97, R98, R100): the accepted level becomes the pin's; a qualifying edge counts in the direction of the
linked unit, measures the interval, sets the age to 0, releases STn and restarts the stall timer. With the levels alike or the
conditioner stopped, nothing. Both complete in every state. That nothing else moves where no condition changes is said of a settled
part whose gate lines are sound, which every step keeps (O4, O1). -/
def Obligations.StallsAndEdgesTaken : Prop :=
  (∀ (s : State) (r : Fin 3),
    let x := s.rotation.get r
    let w := rotationStallWindow (s.tables.rotationRow r)
    let watches (n : Fin 16) : Prop :=
      reflexEnabled (s.tables.reflexRow n) = true ∧ (reflexSource (s.tables.reflexRow n)).val = 24 + r.val
    (w = 0 ∨ x.stallTimer ≠ some w → exec (.stall r) s = .next { s with due := s.due.erase (.stall r) }) ∧
    (0 < w → x.stallTimer = some w → ∃ t, exec (.stall r) s = .next t ∧
      State.Course { s with due := s.due.erase (.stall r), rotation := s.rotation.set r { x with stalled := true } } t) ∧
    (s.Settled → (∀ u, (s.units.get u).GatesSound) → 0 < w → x.stallTimer = some w → x.stalled = true →
      exec (.stall r) s = .next { s with due := s.due.erase (.stall r) }) ∧
    (s.Settled → 0 < w → x.stallTimer = some w → x.stalled = false → ∃ t, exec (.stall r) s = .next t ∧
      State.Course { s with due := s.due.erase (.stall r), rotation := s.rotation.set r { x with stalled := true } } t ∧
      t.Settled ∧
      ((∀ n u, watches n → rotationLinked (s.tables.rotationRow r) = some u →
          reflexAction (s.tables.reflexRow n) u ≠ .coast ∧ reflexAction (s.tables.reflexRow n) u ≠ .brake) →
        t.rotation.get r = { x with stalled := true }) ∧
      (∀ n, watches n →
        (t.reflex.rows.get n).fired = true ∧ t.status.events.getLsbD 9 = true ∧
        (reflexLatched (s.tables.reflexRow n) = true → (t.reflex.rows.get n).active = true ∧
          ∀ u, rotationLinked (s.tables.rotationRow r) = some u →
            reflexAction (s.tables.reflexRow n) u = .coast ∨ reflexAction (s.tables.reflexRow n) u = .brake →
            (t.units.get u).state.held = true ∧ (t.rotation.get r).stalled = false)))) ∧
  ∀ (s : State) (r : Fin 3),
    let x := s.rotation.get r
    let row := s.tables.rotationRow r
    let level := s.pins.rotation.getLsbD r
    let qualifies := (rotationEdge row = .rising ∧ level = true) ∨ (rotationEdge row = .falling ∧ level = false) ∨
      rotationEdge row = .both
    let backward := ∃ u, rotationLinked row = some u ∧ (s.units.get u).countDir = .rev
    ((s.phase ≠ .run ∧ s.phase ≠ .standby) ∨ level = x.accepted →
      exec (.acceptedChange r) s = .next { s with due := s.due.erase (.accepted r) }) ∧
    (s.phase = .run ∨ s.phase = .standby → level ≠ x.accepted →
      (¬qualifies → ∃ t, exec (.acceptedChange r) s = .next t ∧
        let after := { s with
          due := s.due.erase (.accepted r)
          rotation := s.rotation.set r { x with accepted := level, persistence := none } }
        State.Course after t ∧ (s.Settled → (∀ u, (s.units.get u).GatesSound) → t = after)) ∧
      (qualifies → ∃ t y, exec (.acceptedChange r) s = .next t ∧
        State.Course { s with due := s.due.erase (.accepted r), rotation := s.rotation.set r y } t ∧
        (s.Settled → t.Settled ∧ t.rotation.get r = y) ∧ y.accepted = level ∧ y.persistence = none ∧
        (backward → y.count = x.count - 1) ∧ (¬backward → y.count = x.count + 1) ∧ y.age = 0 ∧
        y.edgeTime = some s.now ∧ y.edgesSeen = min (x.edgesSeen + 1) 2 ∧ y.stalled = false ∧
        (∀ k, 1 ≤ x.edgesSeen → x.edgeTime = some k → y.interval = min ((s.now - k) / 32) 65535) ∧
        (x.edgesSeen = 0 → y.interval = x.interval) ∧
        y.stallTimer = x.stallTimer.map fun _ => 0))

/-- O29. LINK_TIMER_EXPIRY (R141, R127): a running timer whose count has reached a timeout that is not 0 expires; LINK_LOST, the safe
cause LINK, and no unit is left driving: each one in RUN, PAUSE or BRAKE enters HELD with its safe action (R33), one HELD already
follows its hold action (R34), one in OFF stays as it is. Otherwise nothing. What a reversal pause of 0 does to the direction memory:
log entry 18; lines after a change of drive state: log entries 15 and 53. -/
def Obligations.LinkTimerExpires : Prop :=
  ∀ s : State,
    let timeout := safeLinkTimeout (s.tables.row .safe 0)
    ((∀ c, s.link.timer = .running c → timeout = 0 ∨ c < timeout) →
      exec .linkTimerExpiry s = .next { s with due := s.due.erase .linkExpiry }) ∧
    (∀ c, s.Settled → s.link.timer = .running c → 0 < timeout → timeout ≤ c → ∃ t, exec .linkTimerExpiry s = .next t ∧
      State.Course { s with
        due := s.due.erase .linkExpiry
        link := { s.link with timer := .expired }
        status := { s.status with events := s.status.events ||| 2 }
        reflex := { s.reflex with link := true } } t ∧
      t.Settled ∧ (∀ u, (t.units.get u).state.driving = false) ∧
      (∀ u, (s.units.get u).state = .off → t.units.get u = s.units.get u) ∧
      (∀ u, (s.units.get u).state.driving = true →
        PulseUnit.EntersHeld (s.units.get u) (t.units.get u) (s.tables.unitRow u) (unitSafeBrake (s.tables.unitRow u))) ∧
      ((∀ u, (s.units.get u).GatesSound) →
        ∀ u, (s.units.get u).state.held = true → PulseUnit.StaysHeld (s.units.get u) (t.units.get u)))

/-! ## Inputs -/

/-- O30. ROTATION_PIN_CHANGE (R95): the persistence count at a pin's change, and the accepted change falling due, or not, by the
filter. That the comparison is made at the change itself, the tick of the change being the first to see the new level, and at each
of several changes, is the model's choice: log entry 43. -/
def Obligations.RotationPinCompared : Prop :=
  ∀ (s : State) (r : Fin 3) (level : Bool),
    (s.pins.rotation.getLsbD r = level → exec (.rotationPinChange r level) s = .next s) ∧
    (s.pins.rotation.getLsbD r ≠ level → ∃ t, exec (.rotationPinChange r level) s = .next t ∧
      t.pins.contacts = s.pins.contacts ∧ t.pins.analog = s.pins.analog ∧
      (∀ q : Fin 3, t.pins.rotation.getLsbD q = if q = r then level else s.pins.rotation.getLsbD q) ∧
      (s.phase ≠ .run → s.phase ≠ .standby → t = { s with pins := t.pins }) ∧
      (s.phase = .run ∨ s.phase = .standby →
        let x := s.rotation.get r
        let f := rotationFilter (s.tables.rotationRow r)
        ∃ y, t = { s with pins := t.pins, due := t.due, rotation := s.rotation.set r y } ∧
          (∀ e, e ≠ .accepted r → (e ∈ t.due ↔ e ∈ s.due)) ∧
          (level = x.accepted → y = { x with persistence := none } ∧
            (s.due.count (.accepted r) ≤ 1 → DueEvent.accepted r ∉ t.due)) ∧
          (level ≠ x.accepted → x.persistence = none → f = 0 → y = x ∧ DueEvent.accepted r ∈ t.due) ∧
          (level ≠ x.accepted → x.persistence = none → f ≠ 0 → y = { x with persistence := some 1 } ∧
            (f ≤ 1 → DueEvent.accepted r ∈ t.due) ∧
            (1 < f → s.due.count (.accepted r) ≤ 1 → DueEvent.accepted r ∉ t.due)) ∧
          (∀ k, level ≠ x.accepted → x.persistence = some k → y = { x with persistence := some (min (k + 1) 16) } ∧
            (f ≤ k + 1 → DueEvent.accepted r ∈ t.due) ∧
            (k + 1 < f → s.due.count (.accepted r) ≤ 1 → DueEvent.accepted r ∉ t.due))))

/-! ## What a frame takes, gives and carries as it passes -/

/-- O31. A segment and a record of a frame passing this hub (R83, R92, R102, R135, R140, R143): a DRIVE_PAIR is taken into staging and
passes as received; SAMPLES, MOTION and STATUS are given as they stand at the segment's first byte, clearing fresh and change flags;
a segment no entry names passes. A record for this hub is answered at its verdict byte in its own bytes and its action joins those
accepted; one for another position passes. Both checks run over what arrived and what was sent. From a byte that shows a format error on
(R136, R137) every byte passes as received: no further take, give, verdict or mask bit, the check sent inverted, the frame end bad.
That the byte at which the error shows is itself passed as received: log entry 22. -/
def Obligations.PassTakesGivesAndAnswers : Prop :=
  (∀ (s : State) (p : Pass) (seg : List Byte), s.forwarding = true → s.link.upRun = some p → p.dropped = false → p.error = false →
    8 ≤ p.received.length → p.received.length % 8 = 0 → p.received.length < 8 + 8 * rowNat p.received 4 → seg.length = 8 →
    let k := p.received.length / 8 - 1
    let b (i : Nat) : Byte := seg.getD i 0
    ∃ t q out, exec (.sweepFrame seg 0) s = .next t ∧ t.link.upRun = some q ∧ q.received = p.received ++ seg ∧
      q.crcIn = seg.foldl crcByte p.crcIn ∧ q.crcOut = out.foldl crcByte p.crcOut ∧ q.error = false ∧ q.accepted = p.accepted ∧
      q.position = p.position ∧
      (if p.toUp then t.link.upSent = s.link.upSent ++ out ∧ t.link.downSent = s.link.downSent
       else t.link.downSent = s.link.downSent ++ out ∧ t.link.upSent = s.link.upSent) ∧
      t = { s with slots := t.slots, contacts := t.contacts, link := t.link } ∧
      ((∀ row ∈ s.tables.slot, slotEnabled row = true → slotSegment row ≠ k) →
        out = seg ∧ t.link.staging = s.link.staging ∧ t.slots = s.slots ∧ t.contacts = s.contacts) ∧
      (∀ row ∈ s.tables.slot, slotEnabled row = true → slotSegment row = k →
        (∀ other ∈ s.tables.slot, slotEnabled other = true → slotSegment other = k → other = row) →
        (slotKind row = .drivePair → out = seg ∧ t.slots = s.slots ∧ t.contacts = s.contacts ∧
          ∀ u : Fin 4, t.link.staging.get u =
            if slotSecond row = u.val then some { target := b 4 ++ b 5, flags := b 6 }
            else if slotFirst row = u.val then some { target := b 0 ++ b 1, flags := b 2 }
            else s.link.staging.get u) ∧
        (slotKind row ≠ .drivePair → t.link.staging = s.link.staging) ∧
        (slotKind row = .samples → slotFirst row ≤ 21 → t.contacts = s.contacts ∧
          (∀ n : Fin 26, t.slots.get n = if slotFirst row ≤ n.val ∧ n.val ≤ slotFirst row + 2
            then { s.slots.get n with fresh := false } else s.slots.get n) ∧
          let x (i : Nat) : Slot := s.slots.get (Fin.ofNat 26 (slotFirst row + i))
          let bit (i : Nat) : Nat := if (x i).fresh then 2 ^ i else 0
          out = natBytes (x 0).value ++ natBytes (x 1).value ++ natBytes (x 2).value ++
            [BitVec.ofNat 8 (bit 0 + bit 1 + bit 2), BitVec.ofNat 8 s.beat.number.toNat]) ∧
        (∀ r : Fin 3, slotKind row = .motion → slotFirst row = r.val → t.slots = s.slots ∧ t.contacts = s.contacts ∧
          let x := s.rotation.get r
          let back : Bool := match rotationLinked (s.tables.rotationRow r) with
            | some u => decide ((s.units.get u).countDir = .rev)
            | none => false
          out = wordBytes x.count ++ natBytes x.interval ++ natBytes x.age ++
            [BitVec.ofNat 8 ((if x.stalled then 1 else 0) + if back then 2 else 0), 0]) ∧
        (slotKind row = .status → t.slots = s.slots ∧ (∀ c, t.contacts.get c = { s.contacts.get c with changed := false }) ∧
          ∃ levels changes states causes : Byte, ∃ high : Byte,
            out = [levels, changes, high, states] ++ wordBytes (s.status.events &&& s.status.mask) ++ [causes, 0] ∧
            (∀ c : Fin 8, levels.getLsbD c = (s.contacts.get c).filtered ∧ changes.getLsbD c = (s.contacts.get c).changed) ∧
            states.toNat = (s.units.get 0).state.code + 16 * (s.units.get 1).state.code ∧
            high.toNat = (s.units.get 2).state.code + 16 * (s.units.get 3).state.code ∧
            causes.getLsbD 0 = s.reflex.link ∧ causes.getLsbD 1 = s.reflex.thermal ∧ causes.getLsbD 2 = s.reflex.supply ∧
            causes.getLsbD 3 = s.limits.warnLive ∧ (p.position ≤ 4 → causes.toNat / 16 = p.position)))) ∧
  (∀ (s : State) (p : Pass) (target kind v len : Byte) (params room : List Byte), s.forwarding = true → s.link.upRun = some p →
    p.dropped = false → p.error = false → 8 ≤ p.received.length → p.received.length = p.recordAt →
    8 + 8 * rowNat p.received 4 ≤ p.recordAt → p.recordNo < rowNat p.received 5 → params.length ≤ 48 → room.length ≤ 48 →
    p.recordAt + 6 + params.length + room.length ≤ 8 + 8 * rowNat p.received 4 + rowWordNat p.received 6 →
    let record := [target, kind, BitVec.ofNat 8 params.length, BitVec.ofNat 8 room.length] ++ params ++ v :: len :: room
    let answer := s.answerRecord p.accepted p.position target kind.toNat params room.length
    ∃ t q out, exec (.sweepFrame record 0) s = .next t ∧ t = { s with link := t.link } ∧ t.link.upRun = some q ∧
      q.received = p.received ++ record ∧ q.recordNo = p.recordNo + 1 ∧ q.recordAt = p.recordAt + record.length ∧
      q.error = false ∧ q.accepted = p.accepted ++ answer.2.toList ∧ t.link.staging = s.link.staging ∧
      q.crcIn = record.foldl crcByte p.crcIn ∧ q.crcOut = out.foldl crcByte p.crcOut ∧
      (if p.toUp then t.link.upSent = s.link.upSent ++ out ∧ t.link.downSent = s.link.downSent
       else t.link.downSent = s.link.downSent ++ out ∧ t.link.upSent = s.link.upSent) ∧
      out.length = record.length ∧ out.take (4 + params.length) = record.take (4 + params.length) ∧
      (∀ i < 2 + room.length, out[4 + params.length + i]? =
        match answer.1[i]? with
        | some (some w) => some w
        | _ => record[4 + params.length + i]?) ∧
      (target.toNat ≠ 15 → target.toNat ≠ p.position → out = record ∧ q.accepted = p.accepted) ∧
      (target.toNat = p.position → p.position ≤ 4 → let r := s.judge p.accepted p.position kind.toNat false params
        q.accepted = p.accepted ++ r.action.toList ∧
        (r.bytes.length ≤ room.length → out[4 + params.length]? = some r.verdict.code))) ∧
  (∀ (s : State) (p : Pass) (b : Byte) (rest : List Byte), s.forwarding = true → s.link.upRun = some p → p.dropped = false →
    p.error = false → 2 ≤ p.received.length → p.ErrsAt b →
    let all := p.received ++ b :: rest
    let masks := 8 + 8 * rowNat all 4 + rowWordNat all 6
    (∀ idles : Nat, 1 ≤ idles → ∃ t, exec (.sweepFrame (b :: rest) idles) s = .next t ∧
      t = { s with link := t.link, status := { s.status with events := s.status.events ||| 8 } } ∧
      t.link.staging = Bank.all 4 none ∧ t.link.upRun = none ∧ t.link.position = s.link.position ∧
      t.link.timer = s.link.timer ∧ t.link.frameErrors = min (s.link.frameErrors + 1) 65535) ∧
    ∃ t q out, exec (.sweepFrame (b :: rest) 0) s = .next t ∧ t = { s with link := t.link } ∧ t.link.upRun = some q ∧
      q.received = all ∧ q.error = true ∧ q.accepted = p.accepted ∧ t.link.staging = s.link.staging ∧
      (if p.toUp then t.link.upSent = s.link.upSent ++ out ∧ t.link.downSent = s.link.downSent
       else t.link.downSent = s.link.downSent ++ out ∧ t.link.upSent = s.link.upSent) ∧
      (all.length ≤ 8 ∨ all.length ≤ masks + 2 → out = b :: rest) ∧
      (8 ≤ all.length → all.length = masks + 4 → let body := (b :: rest).take (rest.length - 1)
        out = body ++ wordBytes (~~~(body.foldl crcByte p.crcOut)))) ∧
  ∀ (s : State) (d : Byte) (rest : List Byte), s.forwarding = true → s.link.upRun = none → s.link.upPort = .free →
    s.link.downPort = .free → d ≠ 0 → d ≠ 1 →
    let all := 0xD5 :: d :: rest
    let masks := 8 + 8 * rowNat all 4 + rowWordNat all 6
    (∀ idles : Nat, 1 ≤ idles → ∃ t, exec (.sweepFrame all idles) s = .next t ∧
      t = { s with link := t.link, status := { s.status with events := s.status.events ||| 8 } } ∧
      t.link.staging = Bank.all 4 none ∧ t.link.upRun = none ∧ t.link.position = s.link.position ∧
      t.link.timer = s.link.timer ∧ t.link.frameErrors = min (s.link.frameErrors + 1) 65535) ∧
    ∃ t q out, exec (.sweepFrame all 0) s = .next t ∧ t = { s with link := t.link } ∧ t.link.upRun = some q ∧
      q.received = all ∧ q.error = true ∧ q.accepted = [] ∧ t.link.staging = Bank.all 4 none ∧
      (if s.link.downLive then t.link.downSent = out ∧ t.link.upSent = s.link.upSent
       else t.link.upSent = out ∧ t.link.downSent = s.link.downSent) ∧
      (all.length ≤ 8 ∨ all.length ≤ masks + 2 → out = all) ∧
      (8 ≤ all.length → all.length = masks + 4 → let body := all.take (masks + 2)
        out = body ++ wordBytes (~~~(crcOf body)))


/-! ## Sequencer and converter -/

/-- O32. TRIGGER_RAISED (R63, R65, R66, R68): a request of the entry already waiting, or four table requests waiting, drops the
trigger; else a request joins, and an idle converter with an empty queue takes it at once. Without a planned trigger, or with the
beat stopped, nothing. That raise and taking are one event, also where more triggers are raised at the tick, is the model's choice:
log entry 56. -/
def Obligations.TriggerRaisesRequest : Prop :=
  ∀ (s : State) (e : Fin 24),
    let x := s.scan.entries.get e
    let row := s.tables.scanRow e
    let r : ScanRequest := { source := .entry e, input := scanInput row, raised := s.now, late := scanLateLimit row }
    let y : ScanEntry :=
      { planned := none, sum := 0, samples := 0, drops := if x.drops < 255 then x.drops + 1 else x.drops }
    let dropped := (∃ q ∈ s.scan.queue, q.source = .entry e) ∨ 4 ≤ (s.scan.queue.filter fun q => q.source.isEntry).length
    (s.phase ≠ .run ∨ x.planned = none → exec (.triggerRaised e) s = .next { s with due := s.due.erase (.trigger e) }) ∧
    (s.phase = .run → x.planned ≠ none → dropped → exec (.triggerRaised e) s = .next { s with
      due := s.due.erase (.trigger e)
      scan := { s.scan with entries := s.scan.entries.set e y }
      status := { s.status with events := s.status.events ||| 0x400 } }) ∧
    (s.phase = .run → x.planned ≠ none → ¬dropped →
      (s.scan.converter = none → s.scan.queue = [] → exec (.triggerRaised e) s = .next { s with
        due := s.due.erase (.trigger e)
        scan := ⟨s.scan.entries.set e { x with planned := none }, [], some { request := r, started := s.now, discard := false }⟩ }) ∧
      (s.scan.converter ≠ none → ∃ q, exec (.triggerRaised e) s = .next { s with
          due := s.due.erase (.trigger e)
          scan := { s.scan with entries := s.scan.entries.set e { x with planned := none }, queue := q } } ∧
        q.Perm (r :: s.scan.queue) ∧ (QueueLawful s.scan.queue → QueueLawful q)))

/-- O33. CONVERSION_COMPLETE and the taking that follows it (R66, R68, R71, R73): with a value to be discarded, the head of the queue
starts, or is dropped late and the next is considered as if the late one had never waited; parked outside running operation. With a
value that counts and requests waiting, the value is delivered as with an empty queue (O34) and the head is taken the same way. With
no conversion, nothing. -/
def Obligations.ConverterTakesHead : Prop :=
  ∀ (s : State) (raw : BitVec 12),
    (s.scan.converter = none → exec (.conversionComplete raw) s = .next { s with due := s.due.erase .conversion }) ∧
    (∀ c, s.scan.converter = some c → c.discard = true →
      let done : State := { s with
        due := s.due.erase .conversion
        pins := { s.pins with analog := s.pins.analog.set c.request.input raw }
        scan := { s.scan with converter := none } }
      (s.phase ≠ .run ∨ s.scan.queue = [] → exec (.conversionComplete raw) s = .next done) ∧
      (∀ h rest, s.phase = .run → s.scan.queue = h :: rest →
        h.source.isEntry = false ∨ h.late = 0 ∨ s.now - h.raised ≤ h.late →
        exec (.conversionComplete raw) s = .next { done with
          scan := { s.scan with queue := rest, converter := some { request := h, started := s.now, discard := false } } }) ∧
      (∀ h rest e, s.phase = .run → s.scan.queue = h :: rest → h.source = .entry e → 0 < h.late → h.late < s.now - h.raised →
        let x := s.scan.entries.get e
        let y : ScanEntry := { x with sum := 0, samples := 0, drops := if x.drops < 255 then x.drops + 1 else x.drops }
        let dropped : State := { s with
          scan := { s.scan with entries := s.scan.entries.set e y, queue := rest }
          status := { s.status with events := s.status.events ||| 0x400 } }
        (∃ t, exec (.conversionComplete raw) s = .next t) ∧
        exec (.conversionComplete raw) s = exec (.conversionComplete raw) dropped ∧
        (rest = [] → exec (.conversionComplete raw) s = .next { done with
          scan := ⟨s.scan.entries.set e y, [], none⟩
          status := { s.status with events := s.status.events ||| 0x400 } }))) ∧
    ∀ c, s.scan.converter = some c → c.discard = false →
      ∃ v t, exec (.conversionComplete raw) { s with scan := { s.scan with queue := [] } } = .next v ∧
        exec (.conversionComplete raw) s = .next t ∧
        exec (.conversionComplete raw) { v with
          due := s.due
          scan := { v.scan with queue := s.scan.queue, converter := some { c with discard := true } } } = .next t

/-- O34. CONVERSION_COMPLETE with a value that counts (R67, R78, R79, R80, R81, R84): calibrated, added to the entry's partial sum, and
with the last sample of the average stored; a housekeeping value is stored without averaging. A store is delivered at its tick to
the limit rows (O38), the fixed checks (O39) and the units (O19) that read the slot, and their consequences run their course: where
no row and no safe cause holds a unit, it stands as its fold-back leaves it. The queue is empty here, so that the converter is IDLE
after it. -/
def Obligations.ConversionDeliversSample : Prop :=
  (∀ (s : State) (raw : BitVec 12) (c : Conversion), s.scan.converter = some c → c.discard = false → s.scan.queue = [] →
    let cal := (rowByte (s.tables.row .cal c.request.input) 0).toInt
    let sample : Nat := min ((raw.toNat : Int) + cal).toNat 4095
    let done (entries : Bank ScanEntry 24) : State := { s with
      due := s.due.erase .conversion
      pins := { s.pins with analog := s.pins.analog.set c.request.input raw }
      scan := ⟨entries, [], none⟩ }
    ∃ t, exec (.conversionComplete raw) s = .next t ∧ t.scan.queue = [] ∧ t.scan.converter = none ∧
      t.pins = { s.pins with analog := s.pins.analog.set c.request.input raw } ∧
      (∀ e, c.request.source = .entry e →
        let x := s.scan.entries.get e
        let row := s.tables.scanRow e
        let value := (x.sum + sample) * 16 / scanAverage row
        (x.samples + 1 ≠ scanAverage row →
          t = done (s.scan.entries.set e { x with sum := x.sum + sample, samples := x.samples + 1 })) ∧
        (x.samples + 1 = scanAverage row →
          t = (done (s.scan.entries.set e { x with sum := 0, samples := 0 })).storeResult (scanResultSlot row) value ∧
          t.scan.entries = s.scan.entries.set e { x with sum := 0, samples := 0 } ∧
          t.slots = s.slots.set (scanResultSlot row)
            { value := value, fresh := decide ((scanResultSlot row).val < 24), age := 0 })) ∧
      (c.request.source = .temp → t = (done s.scan.entries).storeResult 24 (sample * 16) ∧ t.scan.entries = s.scan.entries ∧
        t.slots = s.slots.set 24 { value := sample * 16, fresh := false, age := 0 }) ∧
      (c.request.source = .supply → t = (done s.scan.entries).storeResult 25 (sample * 16) ∧ t.scan.entries = s.scan.entries ∧
        t.slots = s.slots.set 25 { value := sample * 16, fresh := false, age := 0 }) ∧
      t.pending = s.pending ∧ t.due = s.due.erase .conversion ∧ t.now = s.now ∧ t.phase = s.phase ∧ t.cause = s.cause ∧
      t.strap = s.strap ∧ t.beat = s.beat ∧ t.contacts = s.contacts ∧ t.link = s.link ∧ t.service = s.service ∧
      t.profile = s.profile ∧ t.answer = s.answer ∧ t.freeCount = s.freeCount) ∧
  ∀ (s : State) (slot : Fin 26) (v : Nat),
    let stored : State := { s with slots := s.slots.set slot { value := v, fresh := decide (slot.val < 24), age := 0 } }
    let t := s.storeResult slot v
    State.Course (((stored.storeToLimits slot v).storeToChecks slot v).storeToUnits slot v) t ∧
    (s.Settled → t.Settled ∧ ∀ u, t.safeActive = false →
      (∀ k, reflexEnabled (s.tables.reflexRow k) = true →
        reflexAction (s.tables.reflexRow k) u ≠ .coast ∧ reflexAction (s.tables.reflexRow k) u ≠ .brake) →
      t.units.get u = (s.storeToUnits slot v).units.get u)

/-- O35. The plan of TIMED entries at every boundary, natural, of a SYNC restart, of a start (R59, R60, R63, R11): the trigger of an
active entry is planned at min(offset, B - 1) of the new beat, whatever the units do and whatever swap takes effect there, and one
planned at position 0 is raised at the boundary itself; an entry not enabled or not active in the beat plans nothing and drops
nothing. -/
def Obligations.TimedTriggerPlanned : Prop :=
  ∀ (s : State) (i : Instr) (e : Fin 24), s.OpensBeat i → ∃ t, exec i s = .next t ∧
    let row := t.tables.scanRow e
    let B := beatLength (t.tables.row .beat 0)
    let active := scanEnabled row = true ∧ t.beat.number.toNat % scanDivider row = scanPhase row
    let position := min (scanTimedOffset row) (B - 1)
    let idleEmpty := s.scan.converter = none → tableWaiting s.scan.queue = []
    t.beat.length = B ∧
    (active → scanAnchored row = false →
      (t.scan.entries.get e).planned = (if position = 0 then none else some position) ∧
      (idleEmpty → position = 0 → s.RaisedAtBoundary t e) ∧
      (idleEmpty → position ≠ 0 → (t.scan.entries.get e).drops = (s.scan.entries.get e).drops)) ∧
    (¬active → (t.scan.entries.get e).planned = none ∧
      (idleEmpty → (t.scan.entries.get e).drops = (s.scan.entries.get e).drops))

/-- O36. The plan of an active ANCHORED entry at every boundary (R61, R47, R63, R8, R11): from the on-time its anchor unit has in the
new beat, reduced mod B, raised at the boundary itself where that is 0; none where the beat has no such point, which is no drop. -/
def Obligations.AnchoredTriggerPlanned : Prop :=
  ∀ (s : State) (i : Instr) (e : Fin 24), s.OpensBeat i → ∃ t, exec i s = .next t ∧
    let row := t.tables.scanRow e
    let B := t.beat.length
    let n := (t.units.get (scanAnchorUnit row)).onTime
    let phase := min (unitPhaseOffset (t.tables.unitRow (scanAnchorUnit row))) (B - 1)
    let idleEmpty := s.scan.converter = none → tableWaiting s.scan.queue = []
    let plans (at_ : Option Nat) : Prop :=
      let position := at_.map fun a => (((a : Int) + scanAnchoredOffset row) % (B : Int)).toNat
      (t.scan.entries.get e).planned = (if position = some 0 then none else position) ∧
      (idleEmpty → position = some 0 → s.RaisedAtBoundary t e) ∧
      (idleEmpty → position ≠ some 0 → (t.scan.entries.get e).drops = (s.scan.entries.get e).drops)
    scanEnabled row = true → t.beat.number.toNat % scanDivider row = scanPhase row → scanAnchored row = true →
      (scanAnchorPoint row = .onStart → plans (if n = 0 then none else some phase)) ∧
      (scanAnchorPoint row = .onCenter → plans (if n = 0 then none else some (phase + n / 2))) ∧
      (scanAnchorPoint row = .offCenter → plans (if B ≤ n then none else some (phase + n + (B - n) / 2)))

/-! ## Limit watch -/

/-- O37. R106: how a result is judged, by kind, thresholds and hysteresis, sums and differences without wrap; a row that is not
qualified judges nothing. -/
def Obligations.ResultsJudgedByKind : Prop :=
  (∀ (row : Row) (v : Nat),
    let lo : Int := limitLow row
    let hi : Int := limitHigh row
    let h : Int := limitHysteresis row
    let trips : Prop := match limitKind row with
      | .above => (v : Int) > hi
      | .below => (v : Int) < lo
      | .outside => (v : Int) > hi ∨ (v : Int) < lo
      | .inside => lo ≤ v ∧ (v : Int) ≤ hi
    let releases : Prop := match limitKind row with
      | .above => (v : Int) ≤ max (hi - h) 0
      | .below => (v : Int) ≥ lo + h
      | .outside => lo + h ≤ v ∧ (v : Int) ≤ hi - h
      | .inside => (v : Int) < lo - h ∨ (v : Int) > hi + h
    ¬(trips ∧ releases) ∧
    (judgeResult row v = .tripping ↔ trips) ∧ (judgeResult row v = .releasing ↔ releases) ∧
    (judgeResult row v = .deadBand ↔ ¬trips ∧ ¬releases) ∧
    (h = 0 → limitKind row ≠ .outside ∨ lo ≤ hi → (releases ↔ ¬trips)) ∧
    (hi < lo → limitKind row = .outside → trips) ∧ (hi < lo → limitKind row = .inside → ¬trips)) ∧
  ∀ (x : LimitRow) (row : Row) (v : Nat),
    let y : LimitRow := { x with starve := x.starve.map fun _ => 0, declared := false }
    x.receive row v = if x.qualified then y.judge row (judgeResult row v) else (y, false)

/-- O38. A result stored into the slot a limit row watches (R107, R108, R109, R110): runs, condition and starvation count after it, and
LIMIT_TRIPPED, while the row is qualified and nothing can take its qualifier unit out of RUN at this event; a row not qualified
judges nothing. Where qualification ends, at a store or at a boundary, the row is as after reset; where it begins, its runs are 0,
its condition inactive and its starvation count at 0. -/
def Obligations.LimitRowCountsRuns : Prop :=
  (∀ (s : State) (slot : Fin 26) (v : Nat) (n : Fin 16), s.Settled → s.conditionerRunning = true →
    let row := s.tables.limitRow n
    let x := s.limits.rows.get n
    let t := s.storeResult slot v
    let y := t.limits.rows.get n
    let z : LimitRow := { x with starve := x.starve.map fun _ => 0, declared := false }
    let qualifies (w : State) : Prop := ∀ u, limitQualifier row = some u →
      (w.units.get u).state = .run ∧ limitMinDuty row ≤ (w.units.get u).applied.natAbs
    let undisturbed : Prop := ∀ u, limitQualifier row = some u → t.safeActive = false ∧
      ∀ k, reflexEnabled (s.tables.reflexRow k) = true →
        reflexAction (s.tables.reflexRow k) u ≠ .coast ∧ reflexAction (s.tables.reflexRow k) u ≠ .brake
    limitEnabled row = true →
      (¬qualifies t → y = ⟨0, 0, false, false, none, false⟩) ∧
      (¬qualifies s → qualifies t →
        y = ⟨0, 0, false, true, if 0 < limitStarvation row then some 0 else none, false⟩) ∧
      (qualifies s → undisturbed → limitSource row ≠ slot.val → y = x) ∧
      (qualifies s → undisturbed → limitSource row = slot.val →
        (x.active = false → judgeResult row v = .tripping → limitTripCount row ≤ x.tripRun + 1 →
          y = { z with active := true, tripRun := 0 } ∧ t.status.events.getLsbD 8 = true) ∧
        (x.active = false → judgeResult row v = .tripping → x.tripRun + 1 < limitTripCount row →
          y = { z with tripRun := x.tripRun + 1 }) ∧
        (x.active = false → judgeResult row v ≠ .tripping → y = { z with tripRun := 0 }) ∧
        (x.active = true → judgeResult row v = .releasing → limitReleaseCount row ≤ x.releaseRun + 1 →
          y = { z with active := false, releaseRun := 0 }) ∧
        (x.active = true → judgeResult row v = .releasing → x.releaseRun + 1 < limitReleaseCount row →
          y = { z with releaseRun := x.releaseRun + 1 }) ∧
        (x.active = true → judgeResult row v ≠ .releasing → y = { z with releaseRun := 0 }))) ∧
  ∀ (s : State) (n : Fin 16) (u : Fin 4), s.Settled → s.phase = .run → s.service.marks &&& 0x1FE = 0 →
    let row := s.tables.limitRow n
    let x := s.limits.rows.get n
    let qualifies (w : State) : Prop := (w.units.get u).state = .run ∧ limitMinDuty row ≤ (w.units.get u).applied.natAbs
    limitEnabled row = true → limitQualifier row = some u → ∃ t, exec .naturalBeatBoundary s = .next t ∧
      let y := t.limits.rows.get n
      (¬qualifies t → y = ⟨0, 0, false, false, none, false⟩) ∧
      (¬qualifies s → qualifies t →
        y = ⟨0, 0, false, true, if 0 < limitStarvation row then some 0 else none, false⟩) ∧
      (qualifies s → qualifies t → y = { x with starve := x.starve.map fun c => min (c + 1) (limitStarvation row) })

/-- O39. The fixed checks at a store into TEMP and SUPPLY (R114, R115, R116), and the test that lets SUPPLY clear: the warning's
live state with its hysteresis, the shutdown cause, the run of two stores below the undervoltage threshold. -/
def Obligations.FixedChecksJudgeStores : Prop :=
  ∀ (s : State) (v : Nat),
    let row := s.tables.row .safe 0
    (∃ t, t = s.storeResult 24 v ∧
      t.limits.warnLive = (if s.limits.warnLive then !decide ((v : Int) < max ((safeWarnThreshold row : Int) - safeThermalHysteresis row) 0)
        else decide (safeWarnThreshold row ≤ v)) ∧
      t.status.events.getLsbD 5 = (s.status.events.getLsbD 5 || (!s.limits.warnLive && decide (safeWarnThreshold row ≤ v))) ∧
      t.reflex.thermal = (s.reflex.thermal || decide (safeShutdownThreshold row ≤ v)) ∧
      t.status.events.getLsbD 6 = (s.status.events.getLsbD 6 || decide (safeShutdownThreshold row ≤ v)) ∧
      t.reflex.supply = s.reflex.supply ∧ t.limits.supplyLow = s.limits.supplyLow) ∧
    (∃ t, t = s.storeResult 25 v ∧
      t.limits.supplyLow = (if v < safeUndervoltage row then min (s.limits.supplyLow + 1) 2 else 0) ∧
      t.reflex.supply = (s.reflex.supply || (decide (v < safeUndervoltage row) && decide (1 ≤ s.limits.supplyLow))) ∧
      t.status.events.getLsbD 7 =
        (s.status.events.getLsbD 7 || (decide (v < safeUndervoltage row) && decide (1 ≤ s.limits.supplyLow))) ∧
      t.reflex.thermal = s.reflex.thermal ∧ t.limits.warnLive = s.limits.warnLive) ∧
    (s.supplyRecovered = true ↔ safeUndervoltage row + safeSupplyHysteresis row ≤ (s.slots.get 25).value)

/-- O40. STARVATION (R110, R111): at the count's limit STARVED is set and LMn becomes active without LIMIT_TRIPPED, both runs 0, once
for the count as it stands; the count reaches the limit at a boundary, which puts the event on the agenda before everything else
of its tick. Otherwise nothing. The agenda and its order are the model's: log entry 5. -/
def Obligations.StarvationDeclared : Prop :=
  (∀ (s : State) (n : Fin 16),
    let limit := limitStarvation (s.tables.limitRow n)
    let x := s.limits.rows.get n
    let y : LimitRow := { x with tripRun := 0, releaseRun := 0, active := true, declared := true }
    (limit = 0 ∨ x.starve ≠ some limit ∨ x.declared = true →
      exec (.starvation n) s = .next { s with due := s.due.erase (.starvation n) }) ∧
    (s.Settled → 0 < limit → x.starve = some limit → x.declared = false → ∃ t, exec (.starvation n) s = .next t ∧
      State.Course { s with
        due := s.due.erase (.starvation n)
        limits := { s.limits with rows := s.limits.rows.set n y }
        status := { s.status with events := s.status.events ||| 0x800 } } t ∧
      t.Settled ∧
      (limitQualifier (s.tables.limitRow n) = none → t.limits.rows.get n = y) ∧
      (x.active = false → ∀ k, reflexEnabled (s.tables.reflexRow k) = true →
        (reflexSource (s.tables.reflexRow k)).val = n.val → (t.reflex.rows.get k).fired = true))) ∧
  ∀ (s : State) (n : Fin 16) (c : Nat), s.phase = .run → s.service.marks &&& 0x1FE = 0 → s.Settled →
    limitQualifier (s.tables.limitRow n) = none → (s.limits.rows.get n).starve = some c →
    let limit := limitStarvation (s.tables.limitRow n)
    ∃ t, exec .naturalBeatBoundary s = .next t ∧ (t.limits.rows.get n).starve = some (min (c + 1) limit) ∧
      (t.limits.rows.get n).declared = (s.limits.rows.get n).declared ∧
      (c + 1 = limit → ∃ first rest, t.due = first ++ rest ∧ DueEvent.starvation n ∈ first ∧
        ∀ e ∈ first, ∃ m, e = .starvation m)

/-! ## Service records -/

/-- O41. What a record as a command of its own can meet (R142, R143): silent ports; another position; an unsound parameter list; a hub
in standby (all but WAKE) or reloading. None of these changes anything but the answer written into the record. That such a record
is judged and carried out by itself is the model's choice (log entry 4), and so is that a hub can be in standby with a reload going
on, where every record gets NOT_NOW but a WAKE, which gets BUSY (log entry 14). -/
def Obligations.RecordsTurnedAway : Prop :=
  ∀ (c : Instr) (s : State) (k : Nat) (r : Request), recordOf c = some (k, r) →
    (s.phase = .loading → exec c s = .next { s with answer := [] }) ∧
    (s.phase ≠ .loading → r.target.toNat ≠ 15 → r.target.toNat ≠ r.position → exec c s = .next { s with answer := [] }) ∧
    (s.phase ≠ .loading → addressedHere r →
      (∀ v, parseAsk k r.params = .error v → exec c s = .next { s with answer := bareAnswer v }) ∧
      (∀ a, parseAsk k r.params = .ok a →
        (s.phase = .standby ∨ s.phase = .standbyReload → a ≠ .wake → exec c s = .next { s with answer := bareAnswer .notNow }) ∧
        (s.phase = .reloading ∨ (s.phase = .standbyReload ∧ a = .wake) → exec c s = .next { s with answer := bareAnswer .busy })))

/-- O42. The parameter lists each kind accepts (R146, and R20, R22, R124, R147 to R150, R154): every other one is BAD_ARG, and a kind
code that R146 does not list is BAD_KIND. -/
def Obligations.ParametersJudged : Prop :=
  (∀ k ps, (k = 0 ∨ 0x0E < k) → parseAsk k ps = .error .badKind) ∧
  (∀ k ps, k ∈ [0x01, 0x0A, 0x0C, 0x0D] → ((∃ a, parseAsk k ps = .ok a) ↔ ps = []) ∧ (ps ≠ [] → parseAsk k ps = .error .badArg)) ∧
  (∀ k ps, k ∈ [0x06, 0x07] → ((∃ a, parseAsk k ps = .ok a) ↔ ∃ m : Byte, ps = [m] ∧ m.toNat < 16)) ∧
  (∀ ps, (∃ a, parseAsk 0x05 ps = .ok a) ↔ ∃ hi lo : Byte, ps = [hi, lo] ∧ hi.toNat < 2) ∧
  (∀ ps, (∃ a, parseAsk 0x08 ps = .ok a) ↔ ps.length = 5) ∧
  (∀ ps, (∃ a, parseAsk 0x09 ps = .ok a) ↔ ps.length = 2) ∧
  (∀ ps, (∃ a, parseAsk 0x0B ps = .ok a) ↔ ∃ m : Byte, ps = [m] ∧ m.toNat < 8) ∧
  (∀ ps, (∃ a, parseAsk 0x0E ps = .ok a) ↔ ∃ m : Byte, ps = [m] ∧ m.toNat < 2) ∧
  (∀ ps, (∃ a, parseAsk 0x02 ps = .ok a) ↔
    (∃ m : Byte, ps = [m] ∧ m.toNat ∈ [0, 2, 3, 4]) ∨
    (∃ first count : Byte, ps = [1, first, count] ∧ first.toNat ≤ 25 ∧ first.toNat + count.toNat ≤ 26)) ∧
  (∀ ps, (∃ a, parseAsk 0x03 ps = .ok a) ↔ ∃ (id : TableId) (first count : Byte) (rows : List Byte),
    ps = BitVec.ofNat 8 id.code :: first :: count :: rows ∧ first.toNat + count.toNat ≤ id.rows ∧
      rows.length = count.toNat * id.rowSize) ∧
  (∀ ps, (∃ a, parseAsk 0x04 ps = .ok a) ↔ ∃ (id : TableId) (copy first count : Byte),
    ps = [BitVec.ofNat 8 id.code, copy, first, count] ∧ copy.toNat ≤ 1 ∧ first.toNat + count.toNat ≤ id.rows) ∧
  ∀ k ps, 1 ≤ k → k ≤ 0x0E → (∃ a, parseAsk k ps = .ok a) ∨ parseAsk k ps = .error .badArg

/-- O43. The verdicts on ENABLE and DISABLE (R20, R22, R143), on the state as the earlier accepted records of the frame make it, a
RESET FULL among them with its reload: BAD_ARG, NOT_NOW in standby, ACCEPTED when a named unit is in OFF (not in OFF), else DONE with
nothing to carry out. That a hub can be in standby with a reload going on, NOT_NOW there too, is the model's choice: log entry 14. -/
def Obligations.EnableAndDisableVerdicts : Prop :=
  ∀ (s : State) (earlier : List Action) (p : Nat) (params : List Byte),
    let now := s.judgedState earlier
    let named (u : Fin 4) : Prop := ∃ m : Byte, params = [m] ∧ m.getLsbD u = true
    (now.phase ≠ .reloading ∨ Action.resetFull ∈ earlier) →
    (∀ k, k = 0x06 ∨ k = 0x07 → (¬∃ m : Byte, params = [m] ∧ m.toNat < 16) → s.judge earlier p k false params = .refuse .badArg) ∧
    (∀ m : Byte, params = [m] → m.toNat < 16 →
      (∀ k, k = 0x06 ∨ k = 0x07 → now.phase = .standby ∨ now.phase = .standbyReload →
        s.judge earlier p k false params = .refuse .notNow) ∧
      (now.phase ≠ .standby → now.phase ≠ .standbyReload →
        ((∃ u, named u ∧ (now.units.get u).state = .off) → s.judge earlier p 0x06 false params = .accept (.enable m)) ∧
        ((∀ u, named u → (now.units.get u).state ≠ .off) → s.judge earlier p 0x06 false params = .tell []) ∧
        ((∃ u, named u ∧ (now.units.get u).state ≠ .off) → s.judge earlier p 0x07 false params = .accept (.disable m)) ∧
        ((∀ u, named u → (now.units.get u).state = .off) → s.judge earlier p 0x07 false params = .tell []))) ∧
    (s.judgedState (earlier ++ [.standby])).phase = .standby ∧
    (∀ (m : Byte) (u : Fin 4), m.getLsbD u = true →
      ((s.judgedState (earlier ++ [.enable m])).units.get u).state ≠ .off ∧
      ((s.judgedState (earlier ++ [.disable m])).units.get u).state = .off)

/-- O44. ENABLE carried out (R21, R18): each named unit in OFF takes its kind and enters RUN, or HELD by the hold action that
applies to it; a unit named but not in OFF, or not named, is left as it is. A record as a command of its own: log entry 4. -/
def Obligations.EnableTakesUnitsOutOfOff : Prop :=
  ∀ (s : State) (r : Request) (m : Byte), s.Settled → (∀ u, (s.units.get u).GatesSound) → s.phase = .run → addressedHere r →
    r.params = [m] → m.toNat < 16 → (∃ u : Fin 4, m.getLsbD u = true ∧ (s.units.get u).state = .off) →
    ∃ t, exec (.enable r) s = .next t ∧ t.answer = bareAnswer .accepted ∧ t.Settled ∧
      (∀ u : Fin 4, m.getLsbD u = false ∨ (s.units.get u).state ≠ .off → t.units.get u = s.units.get u) ∧
      (∀ u : Fin 4, m.getLsbD u = true → (s.units.get u).state = .off →
        let x := s.units.get u
        let row := s.tables.unitRow u
        let y := t.units.get u
        y.kind = unitKind row ∧ y.target = 0 ∧ y.stopFlag = false ∧ y.demand = 0 ∧ y.applied = 0 ∧ y.onTime = 0 ∧
        y.dirMemory = none ∧ y.zeroCount = none ∧ y.pending = x.pending ∧
        y.countDir = (if unitKind row = .unidir then .fwd else x.countDir) ∧
        y.state = (match s.holdOf u with
          | .none => .run
          | .coast => .heldCoast
          | .brake => .heldBrake) ∧
        y.drive = (match s.holdOf u with
          | .none => if unitDecaySlow row then .brake else .coast
          | .coast => .coast
          | .brake => .brake)) ∧
      t.scan = s.scan ∧ t.slots = s.slots ∧ t.beat = s.beat ∧ t.link = s.link ∧ t.service = s.service ∧ t.profile = s.profile ∧
      t.reflex.rows = s.reflex.rows ∧ t.status = s.status ∧ t.due = s.due ∧ t.now = s.now

/-- O45. DISABLE carried out (R23, R34, R35, R55, R120): each named unit not in OFF enters OFF at once with everything of it cleared
but the count direction; what else follows is the course of its conditions, in which each other unit receives one change of hold
action at most, a HELD one staying HELD or going to RUN. Lines after the change: log entries 15 and 53. A record as a command
of its own: log entry 4. -/
def Obligations.DisablePutsUnitsOff : Prop :=
  ∀ (s : State) (r : Request) (m : Byte), s.Settled → s.phase = .run → addressedHere r →
    r.params = [m] → m.toNat < 16 → (∃ u : Fin 4, m.getLsbD u = true ∧ (s.units.get u).state ≠ .off) →
    ∃ t us, exec (.disable r) s = .next t ∧ State.Course { s with units := us, answer := bareAnswer .accepted } t ∧ t.Settled ∧
      (∀ u : Fin 4, m.getLsbD u = false ∨ (s.units.get u).state = .off → us.get u = s.units.get u) ∧
      (∀ u : Fin 4, m.getLsbD u = false → let x := s.units.get u
        let y := t.units.get u
        (x.state.held = false → y = x) ∧
        ((∀ v, (s.units.get v).GatesSound) → x.state.held = true →
          (t.holdOf u = .none → PulseUnit.LeavesHeld x y (s.tables.unitRow u)) ∧
          (t.holdOf u ≠ .none → PulseUnit.StaysHeld x y))) ∧
      ∀ u : Fin 4, m.getLsbD u = true → (s.units.get u).state ≠ .off → t.units.get u = us.get u ∧
        let x := s.units.get u
        PulseUnit.Turns { x with
          state := .off
          target := 0
          stopFlag := false
          pending := none
          demand := 0
          dirMemory := none
          zeroCount := none
          foldLevel := 0
          releaseRun := 0
          exhaustRun := 0
          exhausted := false
          applied := 0
          onTime := 0
          brakeCount := .idle } (us.get u) .coast

/-- O46. CLEAR (R124, R125, R128, R69): the verdict by the causes that would remain, the events and drop counters it names, the
latched rows it ends or fires again, the safe causes that pass their tests; and the units it releases (R35): RUN with target and
demand 0 and the stop flag clear, the rest of them kept, in the off-time state; one still HELD follows its hold action (R34). The
order of the parts' consequences: log entry 20; lines after a change of drive state: log entries 15 and 53.
A record as a command of its own: log entry 4. -/
def Obligations.ClearCarriedOut : Prop :=
  ∀ (s : State) (r : Request) (e1 e0 r1 r0 f : Byte), s.Settled → s.phase = .run → addressedHere r →
    r.params = [e1, e0, r1, r0, f] →
    let safe := f.getLsbD 0
    let low := decide ((s.slots.get 25).value < safeUndervoltage (s.tables.row .safe 0) + safeSupplyHysteresis (s.tables.row .safe 0))
    let remains := (s.reflex.thermal && s.limits.warnLive) || (s.reflex.supply && low)
    ∃ t, exec (.clear r) s = .next t ∧ t.Settled ∧
      t.answer = bareAnswer (if safe && remains then .notNow else .done) ∧
      (∀ i : Nat, i ≠ 9 → t.status.events.getLsbD i = (s.status.events.getLsbD i && !(wordOf e1 e0).getLsbD i)) ∧
      (∀ e, t.scan.entries.get e =
        if f.getLsbD 1 then { s.scan.entries.get e with drops := 0 } else s.scan.entries.get e) ∧
      (safe = false → t.reflex.link = s.reflex.link ∧ t.reflex.thermal = s.reflex.thermal ∧ t.reflex.supply = s.reflex.supply) ∧
      (safe = true → t.reflex.link = false ∧ t.reflex.thermal = (s.reflex.thermal && s.limits.warnLive) ∧
        t.reflex.supply = (s.reflex.supply && low)) ∧
      (∀ n : Fin 16, (wordOf r1 r0).getLsbD n = true → (s.reflex.rows.get n).active = true →
        reflexEnabled (s.tables.reflexRow n) = true → reflexLatched (s.tables.reflexRow n) = true →
        (s.sourceActive (reflexSource (s.tables.reflexRow n)) = false →
          (t.reflex.rows.get n).active = false ∧ (t.reflex.rows.get n).fired = false) ∧
        (s.sourceActive (reflexSource (s.tables.reflexRow n)) = true →
          (t.reflex.rows.get n).active = true ∧ (t.reflex.rows.get n).fired = true ∧ t.status.events.getLsbD 9 = true)) ∧
      (∀ n : Fin 16, (wordOf r1 r0).getLsbD n = true → ¬((s.reflex.rows.get n).active = true ∧
          reflexEnabled (s.tables.reflexRow n) = true ∧ reflexLatched (s.tables.reflexRow n) = true) →
        (t.reflex.rows.get n).fired = false) ∧
      (∀ n : Fin 16, (wordOf r1 r0).getLsbD n = false → (t.reflex.rows.get n).fired = (s.reflex.rows.get n).fired) ∧
      (t.status.events.getLsbD 9 = true ↔ (s.status.events.getLsbD 9 = true ∧ (wordOf e1 e0).getLsbD 9 = false) ∨
        ∃ n : Fin 16, (wordOf r1 r0).getLsbD n = true ∧ (s.reflex.rows.get n).active = true ∧
          reflexEnabled (s.tables.reflexRow n) = true ∧ reflexLatched (s.tables.reflexRow n) = true ∧
          s.sourceActive (reflexSource (s.tables.reflexRow n)) = true) ∧
      t.status.mask = s.status.mask ∧ t.beat = s.beat ∧ t.slots = s.slots ∧ t.link = s.link ∧ t.service = s.service ∧
      t.profile = s.profile ∧ t.due = s.due ∧ t.contacts = s.contacts ∧ t.scan.queue = s.scan.queue ∧
      ∀ u, let x := s.units.get u
        let y := t.units.get u
        let offTime : Drive := if unitDecaySlow (s.tables.unitRow u) then .brake else .coast
        (x.state.held = false → y = x) ∧
        (x.state.held = true → t.holdOf u = .none → y = { x with
          state := .run, target := 0, stopFlag := false, demand := 0, drive := offTime, lines := y.lines, dead := y.dead }) ∧
        (x.state.held = true → t.holdOf u ≠ .none →
          y.state.held = true ∧ y = { x with state := y.state, drive := y.drive, lines := y.lines, dead := y.dead }) ∧
        (safe = false ∨ wordOf r1 r0 = 0 → (∀ v, (s.units.get v).GatesSound) → x.state.held = true →
          (t.holdOf u = .none → PulseUnit.LeavesHeld x y (s.tables.unitRow u)) ∧
          (t.holdOf u ≠ .none → PulseUnit.StaysHeld x y))

/-- O47. TABLE_WRITE (R148): a count of 0 is DONE, a marked table BUSY; else the rows, as clamped, stand in the shadow copy, and
the verdict is CLAMPED with the lowest row that clamping changed, or ACCEPTED. The active copy stays. And what clamping makes of a
row of each table (R4, R17, R57, R89, R105, R119, R139), every other byte and bit kept. With no room for the row number CLAMPED
becomes NO_ROOM, and the write is carried out all the same (R143, R144). A record as a command of its own: log entry 4. -/
def Obligations.TableWriteStoresShadow : Prop :=
  (∀ (s : State) (r : Request) (id : TableId) (first count : Byte) (bytes : List Byte), s.phase = .run → addressedHere r →
    r.params = BitVec.ofNat 8 id.code :: first :: count :: bytes → first.toNat + count.toNat ≤ id.rows →
    bytes.length = count.toNat * id.rowSize →
    let row (i : Nat) : Row := clampRow id (first.toNat + i) ((bytes.drop (i * id.rowSize)).take id.rowSize)
    let written (i : Nat) : Row := (bytes.drop (i * id.rowSize)).take id.rowSize
    (count = 0 → exec (.tableWrite r) s = .next { s with answer := bareAnswer .done }) ∧
    (count ≠ 0 → s.service.marks.getLsbD id.code = true → exec (.tableWrite r) s = .next { s with answer := bareAnswer .busy }) ∧
    (count ≠ 0 → s.service.marks.getLsbD id.code = false → ∃ shadow answer, exec (.tableWrite r) s = .next
        { s with service := { s.service with shadow := shadow }, answer := answer } ∧
      (∀ jd, jd ≠ id → shadow.get jd = s.service.shadow.get jd) ∧
      (∀ i < (s.service.shadow.get id).length, shadow.row id i =
        if first.toNat ≤ i ∧ i < first.toNat + count.toNat then row (i - first.toNat) else s.service.shadow.row id i) ∧
      ((∀ i < count.toNat, row i = written i) → answer = bareAnswer .accepted) ∧
      (∀ i < count.toNat, row i ≠ written i → (∀ j < i, row j = written j) →
        answer = if r.room = 0 then [some 0x09, some 0]
          else [some 0x02, some 1, some (BitVec.ofNat 8 (first.toNat + i))]))) ∧
  ∀ (r : Row) (i : Nat),
    let b (k : Nat) : Byte := r.getD k 0
    let word (k : Nat) : Nat := (b k).toNat * 256 + (b (k + 1)).toNat
    let code (k lo w : Nat) : Nat := (b k).toNat / 2 ^ lo % 2 ^ w
    let orNone (k from_ : Nat) : Byte := if from_ ≤ (b k).toNat ∧ (b k).toNat ≠ 255 then 0xFF else b k
    let atMost (k max : Nat) : Byte := BitVec.ofNat 8 (min (b k).toNat max)
    let atLeastOne (k : Nat) : Byte := if b k = 0 then 1 else b k
    (r.length = 4 → clampRow .beat i r = natBytes (min (max (word 0) 800) 6400) ++ [b 2, b 3]) ∧
    (r.length = 16 → clampRow .unit i r = [b 0] ++ natBytes (min (word 1) 6399) ++ natBytes (min (word 3) 1000) ++
      [b 5, b 6, b 7, b 8, orNone 9 24] ++ natBytes (min (word 10) 65520) ++
      [if b 12 = 0 then 1 else atMost 12 15, atLeastOne 13] ++ natBytes (min (word 14) 1000)) ∧
    (r.length = 8 →
      let k := if code 2 0 3 = 7 then 6 else code 2 0 3
      let phase : Byte := if 2 ^ k ≤ (b 3).toNat then BitVec.ofNat 8 (2 ^ k - 1) else b 3
      let signed : Int := (b 4 ++ b 5).toInt
      let offset : List Byte := if (b 0).getLsbD 1 then intBytes (max (-512) (min signed 511)) else natBytes (min (word 4) 6399)
      clampRow .scan i r = [if code 0 4 2 = 3 then b 0 &&& 0xEF else b 0, if code 1 4 2 = 3 then b 1 &&& 0xEF else b 1,
        if code 2 0 3 = 7 then b 2 &&& 0xFE else b 2, phase] ++ offset ++ [b 6, atMost 7 23]) ∧
    (r.length = 6 → clampRow .input i r = if i < 8 then r
      else [if code 0 2 2 = 3 then b 0 &&& 0xFB else b 0, orNone 1 4, b 2] ++ natBytes (min (word 3) 1000) ++ [b 5]) ∧
    (r.length = 16 → clampRow .limit i r = [b 0, atMost 1 25, b 2, b 3, b 4, b 5, b 6, b 7,
        (if code 8 0 4 = 0 then b 8 ||| 0x01 else b 8) ||| (if code 8 4 4 = 0 then 0x10 else 0), orNone 9 4] ++
      natBytes (min (word 10) 1000) ++ [b 12, b 13, b 14, b 15]) ∧
    (r.length = 8 → clampRow .reflex i r = [b 0, atMost 1 30, b 2] ++ natBytes (min (word 3) 1000) ++ [b 5, b 6, b 7]) ∧
    (r.length = 4 → clampRow .slot i r = [b 0, atMost 1 31,
      if code 0 1 2 = 0 then atMost 2 3 else if code 0 1 2 = 2 then atMost 2 2 else b 2,
      if code 0 1 2 = 0 then orNone 3 4 else b 3]) ∧
    clampRow .cal i r = r ∧ clampRow .safe i r = r

/-- O48. TABLE_READ (R149): BAD_ARG for an id above 8, a copy byte above 1 or a range beyond the table; else the rows as stored
in the named copy. It changes nothing. That a reply beyond the room is cut at the last byte that fits, be it inside a row, with the
reply length set to the room (R143), where R149 has the rows that fit, is the model's choice: log entry 49. A record as a command
of its own: log entry 4. -/
def Obligations.TableReadReplies : Prop :=
  ∀ (s : State) (r : Request), s.phase = .run → addressedHere r →
    ∃ a, exec (.tableRead r) s = .next { s with answer := a } ∧
      (∀ id copy first count : Byte, r.params = [id, copy, first, count] →
        (8 < id.toNat ∨ 1 < copy.toNat → a = bareAnswer .badArg) ∧
        ∀ tid : TableId, id = BitVec.ofNat 8 tid.code →
          (tid.rows < first.toNat + count.toNat → a = bareAnswer .badArg) ∧
          (copy.toNat ≤ 1 → first.toNat + count.toNat ≤ tid.rows →
            let rows := (if copy = 1 then s.service.shadow else s.service.active).get tid
            let bytes := ((rows.drop first.toNat).take count.toNat).flatten
            (bytes.length ≤ r.room → a = [some 0x00, some (BitVec.ofNat 8 bytes.length)] ++ bytes.map some) ∧
            (r.room < bytes.length →
              a = [some 0x09, some (BitVec.ofNat 8 r.room)] ++ (bytes.take r.room).map some))) ∧
      (r.params.length ≠ 4 → a = bareAnswer .badArg)

/-- O49. A record broadcast to position 15 (R145): BAD_ARG in the verdict field where the room is below 4; else the verdict in reply
byte p - 1 alone, every other byte passing as it arrived; the kinds that may not be broadcast get BAD_KIND there. That the reply
length, too, passes as it arrived where the room is below 4 is the model's choice: log entry 57. -/
def Obligations.BroadcastAnsweredInOwnByte : Prop :=
  ∀ (s : State) (earlier : List Action) (p kind : Nat) (params : List Byte) (room : Nat), 1 ≤ p → p ≤ 4 →
    (room < 4 → s.answerRecord earlier p 15 kind params room = ([some 0x06], none)) ∧
    (4 ≤ room → ∃ v, (s.answerRecord earlier p 15 kind params room).1 = List.replicate (p + 1) none ++ [some v] ∧
      (kind ∈ [0x03, 0x05, 0x06, 0x07, 0x08, 0x09, 0x0A, 0x0C, 0x0D, 0x0E] →
        v = (s.judge earlier p kind false params).verdict.code ∧
        (s.answerRecord earlier p 15 kind params room).2 = (s.judge earlier p kind false params).action) ∧
      (kind ∉ [0x03, 0x05, 0x06, 0x07, 0x08, 0x09, 0x0A, 0x0C, 0x0D, 0x0E] →
        v = 0x05 ∧ (s.answerRecord earlier p 15 kind params room).2 = none))

/-- O50. SWAP (R150, R151): an empty set is DONE; a named table that fails its structural test gives BAD_TABLE with its id and
row, as much of them as the room takes (R143), and marks nothing; else the marks are set and the set is recorded. A record as a
command of its own: log entry 4. -/
def Obligations.SwapMarksTables : Prop :=
  ∀ (s : State) (r : Request) (hi lo : Byte), s.phase = .run → addressedHere r → r.params = [hi, lo] → hi.toNat < 2 →
    let set : BitVec 9 := (wordOf hi lo).setWidth 9
    let fails (id : TableId) : Option Nat := structuralFailure id (s.service.shadow.get id)
    (set = 0 → exec (.swap r) s = .next { s with answer := bareAnswer .done }) ∧
    (∀ id n, set.getLsbD id.code = true → fails id = some n → (∀ jd : TableId, jd.code < id.code → set.getLsbD jd.code = true → fails jd = none) →
      exec (.swap r) s = .next { s with
        answer := [some 0x07, some (BitVec.ofNat 8 (min r.room 2))] ++
          ([BitVec.ofNat 8 id.code, BitVec.ofNat 8 n].take r.room).map some }) ∧
    (set ≠ 0 → (∀ id : TableId, set.getLsbD id.code = true → fails id = none) → exec (.swap r) s = .next { s with
      service := { s.service with marks := s.service.marks ||| set, swaps := s.service.swaps ++ [set] }
      answer := bareAnswer .accepted })

/-- O51. The structural tests of SCAN and SLOT (R150, R58). SCAN passes exactly when no two enabled entries name one result slot. SLOT
passes exactly when no two enabled entries name one segment, no unit is named in two places among the enabled DRIVE_PAIR entries,
and no enabled SAMPLES entry has a first slot above 21. Else the test names the lowest-numbered entry that conflicts with a
lower-numbered one, or fails by itself: the lowest of all (log entry 39). -/
def Obligations.StructuralTestsNameTheRow : Prop :=
  (∀ rows : List Row,
    let clash (i j : Nat) : Prop := i < j ∧ j < rows.length ∧ scanEnabled (rows.getD i []) = true ∧ scanEnabled (rows.getD j []) = true ∧
      rowNat (rows.getD i []) 7 = rowNat (rows.getD j []) 7
    (structuralFailure .scan rows = none ↔ ¬∃ i j, clash i j) ∧
    ∀ n, structuralFailure .scan rows = some n ↔ (∃ i, clash i n) ∧ ∀ m < n, ¬∃ i, clash i m) ∧
  ∀ rows : List Row,
    let row (i : Nat) : Row := rows.getD i []
    let on (i : Nat) (k : SlotKind) : Prop := i < rows.length ∧ slotEnabled (row i) = true ∧ slotKind (row i) = k
    let second (i u : Nat) : Prop := slotSecond (row i) = u ∧ u ≤ 3
    let names (i u : Nat) : Prop := on i .drivePair ∧ (slotFirst (row i) = u ∨ second i u)
    let clash (i j : Nat) : Prop := i < j ∧ j < rows.length ∧ slotEnabled (row i) = true ∧ slotEnabled (row j) = true ∧
      (slotSegment (row i) = slotSegment (row j) ∨ ∃ u, names i u ∧ names j u)
    let twice (j : Nat) : Prop := on j .drivePair ∧ second j (slotFirst (row j))
    let beyond (j : Nat) : Prop := on j .samples ∧ 21 < slotFirst (row j)
    let fails (j : Nat) : Prop := (∃ i, clash i j) ∨ twice j ∨ beyond j
    (structuralFailure .slot rows = none ↔ ¬∃ j, fails j) ∧
    ∀ n, structuralFailure .slot rows = some n ↔ fails n ∧ ∀ m < n, ¬fails m

/-- O52. IDENTIFY and READ_STATE with any reply room (R143, R147, R158): the layouts of R147, DONE where the room takes the whole
reply, else NO_ROOM with as many bytes as fit and the reply length the room; they change nothing. The revision byte is the free
value of log entry 9. A record as a command of its own: log entry 4. -/
def Obligations.StateReadOut : Prop :=
  ∀ (s : State) (r : Request), s.phase = .run → addressedHere r →
    (r.params = [] →
      let reply := [0x3A, 0x71, 0x04, 0x20, Config.revision] ++ wordBytes (s.profile.serial.extractLsb' 16 16) ++
        wordBytes (s.profile.serial.extractLsb' 0 16) ++
        [BitVec.ofNat 8 r.position, if s.strap then 1 else 0, BitVec.ofNat 8 s.cause.code,
         s.profile.fallback.byte, BitVec.ofNat 8 s.profile.save.code, BitVec.ofNat 8 s.profile.remaining]
      exec (.identify r) s = .next { s with answer := doneReply r.room reply }) ∧
    (r.params = [0x00] → ∃ b : List Byte, exec (.readState r) s = .next { s with answer := doneReply r.room b } ∧
      b.length = 40 ∧ ∀ u : Fin 4, let x := s.units.get u
        let kind := if x.state = .off then unitKind (s.tables.unitRow u) else x.kind
        (b.drop (10 * u)).take 10 = [BitVec.ofNat 8 (x.state.code + if kind = .unidir then 16 else 0)] ++ intBytes x.target ++
          intBytes x.demand ++ [BitVec.ofNat 8 x.foldLevel] ++ intBytes x.applied ++ natBytes x.onTime) ∧
    (∀ first count : Byte, r.params = [0x01, first, count] → first.toNat ≤ 25 → first.toNat + count.toNat ≤ 26 →
      ∃ b : List Byte, exec (.readState r) s = .next { s with answer := doneReply r.room b } ∧
        b.length = 5 * count.toNat ∧ ∀ i < count.toNat, let x := s.slots.get (Fin.ofNat 26 (first.toNat + i))
          (b.drop (5 * i)).take 5 = natBytes x.value ++ natBytes x.age ++ [if x.fresh then 1 else 0]) ∧
    (r.params = [0x02] → ∃ b : List Byte, exec (.readState r) s = .next { s with answer := doneReply r.room b } ∧
      b.length = 27 ∧
      (∀ c : Fin 8, (b.getD 0 0).getLsbD c = (s.contacts.get c).filtered ∧ (b.getD 1 0).getLsbD c = (s.contacts.get c).changed ∧
        (b.getD 2 0).getLsbD c = decide ((s.contacts.get c).filtered = contactPolarity (s.tables.contactRow c))) ∧
      ∀ q : Fin 3, (b.drop (3 + 8 * q)).take 6 = wordBytes (s.rotation.get q).count ++ natBytes (s.rotation.get q).interval ++
        natBytes (s.rotation.get q).age ∧
        ((s.rotation.get q).stallTimer = none → b[3 + 8 * q.val + 6]? = some 0xFF) ∧
        (∀ k, (s.rotation.get q).stallTimer = some k → b[3 + 8 * q.val + 6]? = some (BitVec.ofNat 8 k)) ∧
        b[3 + 8 * q.val + 7]? = some (BitVec.ofNat 8 ((if (s.rotation.get q).stalled then 1 else 0) +
          match rotationLinked (s.tables.rotationRow q) with
          | some u => if (s.units.get u).countDir = .rev then 2 else 0
          | none => 0))) ∧
    (r.params = [0x03] → ∃ b0 b1 b2 b3 b4 b5 b6 : Byte,
      exec (.readState r) s = .next { s with answer := doneReply r.room [b0, b1, b2, b3, b4, b5, b6] } ∧
      (∀ n : Fin 16, (wordOf b0 b1).getLsbD n = (s.limits.rows.get n).active) ∧
      (∀ c : Fin 8, b2.getLsbD c = decide ((s.contacts.get c).filtered = contactPolarity (s.tables.contactRow c))) ∧
      (∀ q : Fin 3, b3.getLsbD q = (s.rotation.get q).stalled) ∧ b3.getLsbD 3 = false ∧
      (∀ u : Fin 4, b3.getLsbD (4 + u) = (s.units.get u).exhausted) ∧
      (∀ n : Fin 16, (wordOf b4 b5).getLsbD n = (s.reflex.rows.get n).active) ∧
      b6.getLsbD 0 = s.reflex.link ∧ b6.getLsbD 1 = s.reflex.thermal ∧ b6.getLsbD 2 = s.reflex.supply ∧
      b6.getLsbD 3 = s.limits.warnLive ∧ b6.toNat < 16) ∧
    (r.params = [0x04] → ∃ b : List Byte, exec (.readState r) s = .next { s with answer := doneReply r.room b } ∧ b.length = 32 ∧
      b.take 4 = wordBytes s.status.events ++ wordBytes s.status.mask ∧
      (∀ n : Fin 16, (wordOf (b.getD 4 0) (b.getD 5 0)).getLsbD n = (s.reflex.rows.get n).fired) ∧
      (b.drop 6).take 2 = natBytes s.link.frameErrors ∧
      ∀ e : Fin 24, b[8 + e.val]? = some (BitVec.ofNat 8 (s.scan.entries.get e).drops))

/-- O53. REPORT_MASK, SYNC and WAKE (R130, R7, R157): the mask in force; a restart, or in standby a start boundary, scheduled at
this instant plus the sync lag, due at once with a lag of 0; a WAKE outside standby is DONE. A lag of 0 at a tick whose boundary
has been taken makes no second boundary, that one being the restart's too: log entry 24. A record as a command of its own: log
entry 4. -/
def Obligations.MaskSyncAndWakeExecute : Prop :=
  ∀ (s : State) (r : Request), addressedHere r →
    let at_ := s.now + beatSyncLag (s.tables.row .beat 0)
    (∀ hi lo : Byte, s.phase = .run → r.params = [hi, lo] → exec (.reportMask r) s = .next { s with
      status := { s.status with mask := wordOf hi lo }
      answer := bareAnswer .accepted }) ∧
    (s.phase = .run → r.params = [] → at_ ≠ s.now ∨ s.beat.position ≠ 0 →
      ∃ due, exec (.sync r) s = .next { s with
        beat := { s.beat with restart := some at_ }
        due := due
        answer := bareAnswer .accepted } ∧ (at_ = s.now → DueEvent.restart ∈ due) ∧ (at_ ≠ s.now → due = s.due) ∧
        ∀ e, e ≠ .restart → (e ∈ due ↔ e ∈ s.due)) ∧
    (s.phase = .run → r.params = [] → at_ = s.now → s.beat.position = 0 →
      ∃ scan, exec (.sync r) s = .next { s with
        beat := { s.beat with restart := none }
        scan := scan
        answer := bareAnswer .accepted } ∧
        scan.queue = (s.scan.queue.filter fun q => !q.source.isEntry || decide (q.raised = s.now)) ∧
        (∀ e, scan.entries.get e = { s.scan.entries.get e with sum := 0, samples := 0 }) ∧
        (scan.converter = none ↔ s.scan.converter = none) ∧
        ∀ c, s.scan.converter = some c → scan.converter = some { c with
          discard := c.discard || (c.request.source.isEntry && decide (c.request.raised ≠ s.now)) }) ∧
    (s.phase = .standby → r.params = [] → ∃ due, exec (.wake r) s = .next { s with
        beat := { s.beat with restart := some at_ }
        due := due
        answer := bareAnswer .accepted } ∧ (at_ = s.now → DueEvent.wakeStart ∈ due) ∧ (at_ ≠ s.now → due = s.due) ∧
        ∀ e, e ≠ .wakeStart → (e ∈ due ↔ e ∈ s.due)) ∧
    (s.phase = .run → r.params = [] → exec (.wake r) s = .next { s with answer := bareAnswer .done })

/-- O54. STANDBY (R10, R37, R76, R94, R141, R156): NOT_NOW unless every unit is in OFF, BUSY while a save runs; else the beat
stops without a boundary, the sequencer flushes and parks, the wake latches are taken and the link timer stops. A record as a
command of its own: log entry 4. -/
def Obligations.StandbyEntered : Prop :=
  ∀ (s : State) (r : Request), s.phase = .run → addressedHere r → r.params = [] →
    ((∃ u, (s.units.get u).state ≠ .off) → exec (.standby r) s = .next { s with answer := bareAnswer .notNow }) ∧
    ((∀ u, (s.units.get u).state = .off) → s.profile.save = .busy →
      exec (.standby r) s = .next { s with answer := bareAnswer .busy }) ∧
    ((∀ u, (s.units.get u).state = .off) → s.profile.save ≠ .busy → ∃ scan contacts, exec (.standby r) s = .next { s with
        due := s.due.filter fun e => !e.ofBeat
        phase := .standby
        beat := { s.beat with position := 0, restart := none }
        scan := scan
        contacts := contacts
        link := { s.link with timer := .stopped }
        answer := bareAnswer .accepted } ∧
      scan.queue = (s.scan.queue.filter fun q => !q.source.isEntry) ∧
      scan.converter = (s.scan.converter.map fun c => { c with discard := c.discard || c.request.source.isEntry }) ∧
      (∀ e, scan.entries.get e = { s.scan.entries.get e with planned := none, sum := 0, samples := 0 }) ∧
      (∀ c, contacts.get c = { s.contacts.get c with
        latch := if contactWakeSource (s.tables.contactRow c) then some (s.contacts.get c).filtered else none }))

/-- O55. PROFILE_SAVE (R154, R155): an empty set DONE, a protected strap PROTECTED, a running save BUSY; else the snapshot of
the active copies as blocks, CAL before SAFE before TABLES and each section's blocks from 0 up, with the count of them. The packing (R152): a section's image fills its blocks, ends
in its own good check, and unpacks to the very rows packed, spare bytes 0. A record as a command of its own: log entry 4. -/
def Obligations.ProfileSaveBegins : Prop :=
  (∀ (s : State) (r : Request) (m : Byte), s.phase = .run → addressedHere r → r.params = [m] → m.toNat < 8 →
    (m = 0 → exec (.profileSave r) s = .next { s with answer := bareAnswer .done }) ∧
    (m ≠ 0 → s.strap = true → exec (.profileSave r) s = .next { s with answer := bareAnswer .isProtected }) ∧
    (m ≠ 0 → s.strap = false → s.profile.save = .busy → exec (.profileSave r) s = .next { s with answer := bareAnswer .busy }) ∧
    (m ≠ 0 → s.strap = false → s.profile.save ≠ .busy → ∃ job : List SaveBlock, exec (.profileSave r) s = .next { s with
        profile := { s.profile with save := .busy, remaining := job.length, job := job, writing := none }
        answer := bareAnswer .accepted } ∧
      job.map (fun b => (b.sect, b.index)) = (if m.getLsbD 0 then [(Section.cal, 0)] else []) ++
        (if m.getLsbD 1 then [(Section.safe, 0)] else []) ++
        (if m.getLsbD 2 then (List.range 22).map fun i => (Section.tables, i) else []) ∧
      job.length = (if m.getLsbD 0 then 1 else 0) + (if m.getLsbD 1 then 1 else 0) + (if m.getLsbD 2 then 22 else 0) ∧
      (∀ sec, ((job.filter fun b => decide (b.sect = sec)).map SaveBlock.bytes).flatten =
        if m.getLsbD (match sec with | .cal => 0 | .safe => 1 | .tables => 2) then (sectionImage sec s.tables).take (32 * sec.blocks) else []) ∧
      (∀ b ∈ job, b.bytes = ((sectionImage b.sect s.tables).drop (32 * b.index)).take 32) ∧
      ∀ b ∈ job, b.bytes.length = 32 ∧ b.index < b.sect.blocks)) ∧
  ∀ (sec : Section) (t u : Tables),
    (∀ id ∈ sec.tableIds, (t.get id).length = id.rows ∧ ∀ row ∈ t.get id, row.length = id.rowSize) →
    let image := sectionImage sec t
    let body := image.take (32 * sec.blocks - 2)
    let spare (id : TableId) (i j : Nat) : Bool := match id with
      | .limit => decide (13 ≤ j)
      | .reflex => decide (5 ≤ j)
      | .input => if i < 8 then decide (1 ≤ j) else decide (j = 5)
      | .beat => decide (j = 3)
      | .safe => decide (j = 1 ∨ 14 ≤ j)
      | .slot | .scan | .unit | .cal => false
    image.length = 32 * sec.blocks ∧ image = body ++ wordBytes (crcOf body) ∧ sectionCheckGood image = true ∧
    ∀ id ∈ sec.tableIds, ∀ i < id.rows, (unpackTables sec.tableIds image u).row id i =
      clampRow id i ((t.row id i).mapIdx fun j b => if spare id i j then 0 else b)

/-- O56. PROFILE_BLOCK_BEGIN and PROFILE_BLOCK_VERIFIED (R155): a block tears its section as it begins; verified, it is in the store,
the count falls, and with a section's last block the section is whole; the last block of all ends the save with PROFILE_DONE; a
mismatch stops it FAILED with PROFILE_FAILED, count and torn section kept. -/
def Obligations.ProfileBlocksWritten : Prop :=
  ∀ (s : State) (b : SaveBlock) (rest : List SaveBlock), s.profile.save = .busy → s.profile.job = b :: rest →
    (s.profile.writing = none → ∃ p, exec .profileBlockBegin s = .next { s with due := s.due.erase .blockBegin, profile := p } ∧
      p = { s.profile with torn := p.torn, writing := some 0 } ∧ p.isTorn b.sect = true ∧
      ∀ sec, sec ≠ b.sect → p.isTorn sec = s.profile.isTorn sec) ∧
    (∀ k, s.profile.writing = some k → 4 ≤ k →
      (∃ p, exec (.profileBlockVerified true) s = .next { s with
          due := s.due.erase .blockVerified
          profile := p
          status := { s.status with events := s.status.events ||| (if rest = [] then 0x4000 else 0) } } ∧
        p.remaining = s.profile.remaining - 1 ∧ p.job = rest ∧ p.writing = none ∧
        p.save = (if rest = [] then .idle else .busy) ∧ p.fallback = s.profile.fallback ∧ p.serial = s.profile.serial ∧
        p.identity = s.profile.identity ∧ (p.isTorn b.sect = false ↔ b.index + 1 = b.sect.blocks) ∧
        (b.bytes.length = 32 → 32 * b.index + 32 ≤ (s.profile.bytesOf b.sect).length →
          ((p.bytesOf b.sect).drop (32 * b.index)).take 32 = b.bytes ∧
          (p.bytesOf b.sect).take (32 * b.index) = (s.profile.bytesOf b.sect).take (32 * b.index) ∧
          (p.bytesOf b.sect).drop (32 * b.index + 32) = (s.profile.bytesOf b.sect).drop (32 * b.index + 32)) ∧
        ∀ sec, sec ≠ b.sect → p.bytesOf sec = s.profile.bytesOf sec ∧ p.isTorn sec = s.profile.isTorn sec) ∧
      exec (.profileBlockVerified false) s = .next { s with
        due := s.due.erase .blockVerified
        profile := { s.profile with save := .failed, job := [], writing := none }
        status := { s.status with events := s.status.events ||| 0x8000 } })

/-- O57. RESET_FULL and RESET_UNITS (R12, R36, R72, R73, R87, R104, R117, R132, R138, R142, R151, R153, R155, R158): what each
clears and what it keeps. A record as a command of its own: log entry 4. -/
def Obligations.SoftResetsExecute : Prop :=
  ∀ (s : State) (p : Nat) (target : Byte) (room : Nat), s.phase = .run → 1 ≤ p → p ≤ 4 → target.toNat = p →
    let offAgain (t : State) (u : Fin 4) : Prop := t.units.get u =
      { state := .off, kind := (s.units.get u).kind, target := 0, stopFlag := false, pending := none, demand := 0, dirMemory := none
        zeroCount := none, countDir := .fwd, foldLevel := 0, releaseRun := 0, exhaustRun := 0, exhausted := false, applied := 0
        onTime := 0, driveDir := (s.units.get u).driveDir, brakeCount := .idle, drive := .coast
        lines := (t.units.get u).lines, dead := (t.units.get u).dead }
    (∃ t, exec (.resetFull p target room) s = .next t ∧
      t = { s with
        due := t.due
        phase := .reloading
        loadTicks := 0
        cause := .softFull
        beat := { s.beat with number := 0, position := 0, restart := none }
        units := t.units
        scan := ⟨Bank.all 24 ScanEntry.atReset, [], s.scan.converter.map fun c => { c with discard := true }⟩
        slots := State.reset.slots
        contacts := State.reset.contacts
        rotation := State.reset.rotation
        limits := State.reset.limits
        reflex := State.reset.reflex
        status := { s.status with events := 0 }
        link := { s.link with position := 0, frameErrors := 0, timer := .stopped }
        service := { s.service with marks := 0, swaps := [] }
        profile := { s.profile with save := .idle, remaining := 0, job := [], writing := none }
        answer := bareAnswer .accepted } ∧
      (∀ e ∈ t.due, e ∈ s.due) ∧ ∀ u, offAgain t u) ∧
    (∃ t, exec (.resetUnits p target room) s = .next t ∧ t.answer = bareAnswer .accepted ∧ t.cause = .softUnits ∧ t.phase = .run ∧
      (∀ u, offAgain t u) ∧
      (∀ e, t.scan.entries.get e = { s.scan.entries.get e with sum := 0, samples := 0 }) ∧
      t.scan.queue = (s.scan.queue.filter fun q => !q.source.isEntry) ∧
      t.scan.converter = (s.scan.converter.map fun c => { c with discard := c.discard || c.request.source.isEntry }) ∧
      (∀ i : Nat, s.status.events.getLsbD i = true → t.status.events.getLsbD i = true) ∧ t.status.events.getLsbD 0 = true ∧
      t.reflex.link = false ∧ t.reflex.thermal = (s.reflex.thermal && s.limits.warnLive) ∧
      t.reflex.supply = (s.reflex.supply && !s.supplyRecovered) ∧
      (∀ n, let x := t.limits.rows.get n
        x.active = false ∧ x.tripRun = 0 ∧ x.releaseRun = 0 ∧ x.declared = false ∧ (x.starve = none ∨ x.starve = some 0)) ∧
      t.limits.warnLive = s.limits.warnLive ∧ t.limits.supplyLow = s.limits.supplyLow ∧ (∀ q, (t.rotation.get q).stalled = false ∧ (t.rotation.get q).stallTimer = none ∧
        (t.rotation.get q).count = (s.rotation.get q).count) ∧
      (∀ n, (t.reflex.rows.get n).active = (reflexEnabled (s.tables.reflexRow n) && decide (16 ≤ (reflexSource (s.tables.reflexRow n)).val)
        && s.sourceActive (reflexSource (s.tables.reflexRow n)) && decide ((reflexSource (s.tables.reflexRow n)).val < 24)) ∧
        (t.reflex.rows.get n).fired = (t.reflex.rows.get n).active) ∧
      (t.status.events.getLsbD 9 = true ↔ s.status.events.getLsbD 9 = true ∨ ∃ n, (t.reflex.rows.get n).fired = true) ∧
      t.status.mask = s.status.mask ∧ t.beat = s.beat ∧ t.slots = s.slots ∧ t.contacts = s.contacts ∧ t.link = s.link ∧
      t.service = s.service ∧ t.profile = s.profile ∧ t.due = s.due)

/-! ## Frames -/

/-- O58. The frame end (R134, R138, R141, R24): good when the length, the format and the check all hold; then staging becomes pending
targets, the link timer restarts in running operation, the position is recorded, and the accepted records are carried out in
order. Else FRAME_ERROR, the counter, and nothing else. -/
def Obligations.FrameEndCommits : Prop :=
  ∀ (s : State) (p : Pass) (idles : Nat), s.forwarding = true → s.link.upRun = some p → p.dropped = false → 1 ≤ idles →
    let good := p.received.length = 8 + 8 * rowNat p.received 4 + rowWordNat p.received 6 + 4 ∧ p.received.length ≤ 508 ∧
      p.error = false ∧ p.checkGood = true
    (good → ∃ v : State, exec (.sweepFrame [] idles) s = .next (p.accepted.foldl State.carryOut v) ∧
      (∀ u, v.units.get u = match s.link.staging.get u with
        | some sp => { s.units.get u with pending := some sp }
        | none => s.units.get u) ∧
      v.link.staging = Bank.all 4 none ∧ v.link.upRun = none ∧ v.link.position = p.position ∧
      v.link.timer = (if s.phase = .run then .running 0 else s.link.timer) ∧ v.link.frameErrors = s.link.frameErrors ∧
      v.link.downRun = s.link.downRun ∧ v.link.downLive = s.link.downLive ∧
      (∀ i : Nat, v.status.events.getLsbD i = (s.status.events.getLsbD i ||
        (decide (i = 2) && decide (s.phase = .run) && decide (s.link.timer = .expired)) ||
        (decide (i = 4) && decide (s.link.position ≠ 0) && decide (s.link.position ≠ p.position)))) ∧
      v = { s with units := v.units, link := v.link, status := { s.status with events := v.status.events } }) ∧
    (¬good → ∃ t : State, exec (.sweepFrame [] idles) s = .next t ∧
      t = { s with link := t.link, status := { s.status with events := s.status.events ||| 8 } } ∧
      t.link.staging = Bank.all 4 none ∧ t.link.upRun = none ∧ t.link.position = s.link.position ∧
      t.link.timer = s.link.timer ∧ t.link.frameErrors = min (s.link.frameErrors + 1) 65535 ∧
      t.link.downRun = s.link.downRun ∧ t.link.downLive = s.link.downLive)

/-- O59. A whole frame without segments and records passing a hub with free ports (R133 to R136): sent on DOWN, or turned round
on UP as RETURN, with the hop count plus one, this hub's bits in the masks, and its own check; inverted where the check had
arrived bad. When a port is free again: log entry 23. -/
def Obligations.EmptyFrameForwarded : Prop :=
  ∀ (s : State) (second hop present attention : Byte) (check : List Byte), s.forwarding = true → s.link.upRun = none →
    s.link.upPort = .free → s.link.downPort = .free → s.service.marks.getLsbD 0 = false → hop.toNat ≤ 3 → check.length = 2 →
    let body := [0xD5, 0x00, second, hop, 0, 0, 0, 0, present, attention]
    let bit : Byte := 1#8 <<< hop.toNat
    let sent := [0xD5, if s.link.downLive then 0x00 else 0x01, second, hop + 1, 0, 0, 0, 0,
      if s.phase = .standby ∨ s.phase = .standbyReload then present else present ||| bit,
      if s.status.events &&& s.status.mask = 0 then attention else attention ||| bit]
    let out (good : Bool) : List Byte := sent ++ wordBytes (if good then crcOf sent else ~~~(crcOf sent))
    ∃ t, exec (.sweepFrame (body ++ check) 2) s = .next t ∧
      (if s.link.downLive then t.link.downSent = out (decide (check = wordBytes (crcOf body))) ∧ t.link.upSent = s.link.upSent
       else t.link.upSent = out (decide (check = wordBytes (crcOf body))) ∧ t.link.downSent = s.link.downSent) ∧
      t.link.upPort = .free ∧ t.link.downPort = .free ∧ t.link.upRun = none ∧
      (check = wordBytes (crcOf body) → t.link.position = hop.toNat + 1) ∧
      (check ≠ wordBytes (crcOf body) → t.status.events.getLsbD 3 = true)

/-- O60. The ports' other traffic (R133): RETURN runs from DOWN go up unchanged, unless the UP port was busy at their start byte; a
run from UP that took that port at the same tick gives way; OUT runs from DOWN and RETURN runs on UP are dropped and leave the ports
alone; a character makes DOWN LIVE and 100 µs of silence DARK, and a run the silence cuts off ends with it, its port free (log
entry 45). When a port is free again: log entry 23. -/
def Obligations.ReturnTrafficAndDownState : Prop :=
  (∀ (s : State) (direction : Byte) (bytes : List Byte), s.forwarding = true → s.link.downRun = none → s.link.upPort = .free →
    exec (.returnFrame (0xD5 :: direction :: bytes) 2) s = .next { s with
      link := { s.link with
        downLive := true
        downSilence := 0
        upSent := if direction = 1 then 0xD5 :: direction :: bytes else s.link.upSent } }) ∧
  (∀ (s : State) (bytes : List Byte) (fromUp : Bool) (since : Nat), s.forwarding = true → s.link.downRun = none →
    s.link.upPort = .sending fromUp since →
    (since ≠ s.now ∨ fromUp = false → exec (.returnFrame (0xD5 :: 1 :: bytes) 2) s = .next { s with
      link := { s.link with downLive := true, downSilence := 0 } }) ∧
    (since = s.now → fromUp = true → exec (.returnFrame (0xD5 :: 1 :: bytes) 2) s = .next { s with
      link := { s.link with
        downLive := true
        downSilence := 0
        upRun := s.link.upRun.map fun p => { p with dropped := true }
        staging := Bank.all 4 none
        upSent := 0xD5 :: 1 :: bytes
        upPort := .free } })) ∧
  (∀ (s : State) (bytes : List Byte) (idles : Nat), s.forwarding = true → s.link.upRun = none → 1 ≤ idles →
    exec (.sweepFrame (0xD5 :: 1 :: bytes) idles) s = .next s) ∧
  ∀ s : State,
    exec .downLive s = .next { s with
      due := s.due.erase .downDark
      link := if s.phase = .loading then s.link else { s.link with downLive := true, downSilence := 0 } } ∧
    exec .downDark s = .next { s with
      due := s.due.erase .downDark
      link := { s.link with
        downLive := false
        downRun := none
        upPort := match s.link.downRun with
          | none => s.link.upPort
          | some r => if r.dropped = true ∨ r.received.length = 1 then s.link.upPort else .free } } ∧
    (s.pending = [] → s.due = [] → s.phase ≠ .loading → s.link.downLive = true → ∃ t, step s = .next t ∧
      t.link.downSilence = s.link.downSilence + 1 ∧ (DueEvent.downDark ∈ t.due ↔ 3200 ≤ s.link.downSilence + 1))
end

