-- ==== Sys2Proof/Laws/Bank.lean ====
section
/-! SUPPORT. What reading a bank gives after each way of making one, and what a bit of a mask is. -/

namespace Sys2Proof

theorem Bank.get_eq {α : Type} {n : Nat} (b : Bank α n) (i : Fin n) : b.get i = b.cells[i.val]'(by rw [b.size]; exact i.isLt) := rfl

theorem Bank.cells_inj {α : Type} {n : Nat} {a b : Bank α n} (h : a.cells = b.cells) : a = b := by
  cases a; cases b; cases h; rfl

@[simp] theorem Bank.get_tabulate {α : Type} {n : Nat} (f : Fin n → α) (i : Fin n) : (Bank.tabulate f).get i = f i := by
  rw [Bank.get_eq]; simp [Bank.tabulate]

@[simp] theorem Bank.get_all {α : Type} {n : Nat} (x : α) (i : Fin n) : (Bank.all n x).get i = x := by
  rw [Bank.get_eq]; simp [Bank.all]

@[simp] theorem Bank.get_set_self {α : Type} {n : Nat} (b : Bank α n) (i : Fin n) (x : α) : (b.set i x).get i = x := by
  rw [Bank.get_eq]; simp [Bank.set]

@[simp] theorem Bank.get_set_ne {α : Type} {n : Nat} (b : Bank α n) {i j : Fin n} (x : α) (h : i ≠ j) :
    (b.set i x).get j = b.get j := by
  rw [Bank.get_eq, Bank.get_eq]
  exact List.getElem_set_of_ne (fun e => h (Fin.ext e)) _ _

theorem Bank.get_set {α : Type} {n : Nat} (b : Bank α n) (i j : Fin n) (x : α) :
    (b.set i x).get j = if j = i then x else b.get j := by
  by_cases h : j = i
  · subst h; simp
  · simp [h, Bank.get_set_ne b x (Ne.symm h)]

@[simp] theorem Bank.get_map {α β : Type} {n : Nat} (f : α → β) (b : Bank α n) (i : Fin n) :
    (b.map f).get i = f (b.get i) := by
  rw [Bank.get_eq, Bank.get_eq]; simp [Bank.map]

@[simp] theorem Bank.get_mapIdx {α β : Type} {n : Nat} (f : Fin n → α → β) (b : Bank α n) (i : Fin n) :
    (b.mapIdx f).get i = f i (b.get i) := by
  simp [Bank.mapIdx]

/-- Two banks that read alike everywhere are equal. -/
theorem Bank.ext_get {α : Type} {n : Nat} {a b : Bank α n} (h : ∀ i, a.get i = b.get i) : a = b := by
  apply Bank.cells_inj
  apply List.ext_getElem (by rw [a.size, b.size])
  intro k h1 h2
  simpa [Bank.get_eq] using h ⟨k, by rw [← a.size]; exact h1⟩

theorem testBit_natOfBits (l : List Bool) (k : Nat) : (natOfBits l).testBit k = l.getD k false := by
  induction l generalizing k with
  | nil => simp [natOfBits]
  | cons b bs ih =>
    have e : natOfBits (b :: bs) = Nat.bit b (natOfBits bs) := by
      simp only [natOfBits, Nat.bit_val]; omega
    rw [e]
    cases k with
    | zero => simp
    | succ k => rw [Nat.testBit_bit_succ, ih]; simp

/-- Bit i of a mask is the flag of i. -/
@[simp] theorem getLsbD_maskOf {n : Nat} (f : Fin n → Bool) (i : Fin n) : (maskOf f).getLsbD i = f i := by
  rw [maskOf, BitVec.getLsbD_ofNat, testBit_natOfBits]; simp [i.isLt]

end Sys2Proof
end

