-- ==== Sys2Proof/Laws/Pulse.lean ====
section
/-! SUPPORT. The fields of a unit after each operation on it. -/

namespace Sys2Proof.Machine

variable (u : PulseUnit)

@[simp] theorem PulseUnit.present_state (d : Drive) : (u.present d).state = u.state := by unfold PulseUnit.present; split <;> rfl
@[simp] theorem PulseUnit.present_kind (d : Drive) : (u.present d).kind = u.kind := by unfold PulseUnit.present; split <;> rfl
@[simp] theorem PulseUnit.present_target (d : Drive) : (u.present d).target = u.target := by unfold PulseUnit.present; split <;> rfl
@[simp] theorem PulseUnit.present_stopFlag (d : Drive) : (u.present d).stopFlag = u.stopFlag := by unfold PulseUnit.present; split <;> rfl
@[simp] theorem PulseUnit.present_pending (d : Drive) : (u.present d).pending = u.pending := by unfold PulseUnit.present; split <;> rfl
@[simp] theorem PulseUnit.present_demand (d : Drive) : (u.present d).demand = u.demand := by unfold PulseUnit.present; split <;> rfl
@[simp] theorem PulseUnit.present_dirMemory (d : Drive) : (u.present d).dirMemory = u.dirMemory := by unfold PulseUnit.present; split <;> rfl
@[simp] theorem PulseUnit.present_zeroCount (d : Drive) : (u.present d).zeroCount = u.zeroCount := by unfold PulseUnit.present; split <;> rfl
@[simp] theorem PulseUnit.present_countDir (d : Drive) : (u.present d).countDir = u.countDir := by unfold PulseUnit.present; split <;> rfl
@[simp] theorem PulseUnit.present_foldLevel (d : Drive) : (u.present d).foldLevel = u.foldLevel := by unfold PulseUnit.present; split <;> rfl
@[simp] theorem PulseUnit.present_releaseRun (d : Drive) : (u.present d).releaseRun = u.releaseRun := by unfold PulseUnit.present; split <;> rfl
@[simp] theorem PulseUnit.present_exhaustRun (d : Drive) : (u.present d).exhaustRun = u.exhaustRun := by unfold PulseUnit.present; split <;> rfl
@[simp] theorem PulseUnit.present_exhausted (d : Drive) : (u.present d).exhausted = u.exhausted := by unfold PulseUnit.present; split <;> rfl
@[simp] theorem PulseUnit.present_applied (d : Drive) : (u.present d).applied = u.applied := by unfold PulseUnit.present; split <;> rfl
@[simp] theorem PulseUnit.present_onTime (d : Drive) : (u.present d).onTime = u.onTime := by unfold PulseUnit.present; split <;> rfl
@[simp] theorem PulseUnit.present_driveDir (d : Drive) : (u.present d).driveDir = u.driveDir := by unfold PulseUnit.present; split <;> rfl
@[simp] theorem PulseUnit.present_brakeCount (d : Drive) : (u.present d).brakeCount = u.brakeCount := by unfold PulseUnit.present; split <;> rfl

/-- The logical drive state presented is the one presented. -/
@[simp] theorem PulseUnit.present_drive (d : Drive) : (u.present d).drive = d := by
  unfold PulseUnit.present; split
  · assumption
  · rfl

/-- A change of the logical drive state (R15): lines on and called for stay on, every other line is off. -/
theorem PulseUnit.present_lines (d : Drive) (h : u.drive ≠ d) : (u.present d).lines = u.lines.meet d.called := by
  unfold PulseUnit.present; rw [if_neg h]

/-- What is called for and not on waits 8 ticks from the change. -/
theorem PulseUnit.present_dead (d : Drive) (h : u.drive ≠ d) :
    (u.present d).dead = if u.lines.meet d.called = d.called then none else some 8 := by
  unfold PulseUnit.present; rw [if_neg h]; rfl

/-- No change, no dead time. -/
theorem PulseUnit.present_same (d : Drive) (h : u.drive = d) : u.present d = u := by
  unfold PulseUnit.present; rw [if_pos h]

@[simp] theorem PulseUnit.memoryAfterZero_state (row : Row) : (u.memoryAfterZero row).state = u.state := by unfold PulseUnit.memoryAfterZero; split <;> rfl
@[simp] theorem PulseUnit.memoryAfterZero_kind (row : Row) : (u.memoryAfterZero row).kind = u.kind := by unfold PulseUnit.memoryAfterZero; split <;> rfl
@[simp] theorem PulseUnit.memoryAfterZero_target (row : Row) : (u.memoryAfterZero row).target = u.target := by unfold PulseUnit.memoryAfterZero; split <;> rfl
@[simp] theorem PulseUnit.memoryAfterZero_stopFlag (row : Row) : (u.memoryAfterZero row).stopFlag = u.stopFlag := by unfold PulseUnit.memoryAfterZero; split <;> rfl
@[simp] theorem PulseUnit.memoryAfterZero_pending (row : Row) : (u.memoryAfterZero row).pending = u.pending := by unfold PulseUnit.memoryAfterZero; split <;> rfl
@[simp] theorem PulseUnit.memoryAfterZero_demand (row : Row) : (u.memoryAfterZero row).demand = u.demand := by unfold PulseUnit.memoryAfterZero; split <;> rfl
@[simp] theorem PulseUnit.memoryAfterZero_countDir (row : Row) : (u.memoryAfterZero row).countDir = u.countDir := by unfold PulseUnit.memoryAfterZero; split <;> rfl
@[simp] theorem PulseUnit.memoryAfterZero_foldLevel (row : Row) : (u.memoryAfterZero row).foldLevel = u.foldLevel := by unfold PulseUnit.memoryAfterZero; split <;> rfl
@[simp] theorem PulseUnit.memoryAfterZero_releaseRun (row : Row) : (u.memoryAfterZero row).releaseRun = u.releaseRun := by unfold PulseUnit.memoryAfterZero; split <;> rfl
@[simp] theorem PulseUnit.memoryAfterZero_exhaustRun (row : Row) : (u.memoryAfterZero row).exhaustRun = u.exhaustRun := by unfold PulseUnit.memoryAfterZero; split <;> rfl
@[simp] theorem PulseUnit.memoryAfterZero_exhausted (row : Row) : (u.memoryAfterZero row).exhausted = u.exhausted := by unfold PulseUnit.memoryAfterZero; split <;> rfl
@[simp] theorem PulseUnit.memoryAfterZero_applied (row : Row) : (u.memoryAfterZero row).applied = u.applied := by unfold PulseUnit.memoryAfterZero; split <;> rfl
@[simp] theorem PulseUnit.memoryAfterZero_onTime (row : Row) : (u.memoryAfterZero row).onTime = u.onTime := by unfold PulseUnit.memoryAfterZero; split <;> rfl
@[simp] theorem PulseUnit.memoryAfterZero_driveDir (row : Row) : (u.memoryAfterZero row).driveDir = u.driveDir := by unfold PulseUnit.memoryAfterZero; split <;> rfl
@[simp] theorem PulseUnit.memoryAfterZero_brakeCount (row : Row) : (u.memoryAfterZero row).brakeCount = u.brakeCount := by unfold PulseUnit.memoryAfterZero; split <;> rfl
@[simp] theorem PulseUnit.memoryAfterZero_drive (row : Row) : (u.memoryAfterZero row).drive = u.drive := by unfold PulseUnit.memoryAfterZero; split <;> rfl
@[simp] theorem PulseUnit.memoryAfterZero_lines (row : Row) : (u.memoryAfterZero row).lines = u.lines := by unfold PulseUnit.memoryAfterZero; split <;> rfl
@[simp] theorem PulseUnit.memoryAfterZero_dead (row : Row) : (u.memoryAfterZero row).dead = u.dead := by unfold PulseUnit.memoryAfterZero; split <;> rfl

@[simp] theorem PulseUnit.clearFold_state : (u.clearFold).state = u.state := rfl
@[simp] theorem PulseUnit.clearFold_kind : (u.clearFold).kind = u.kind := rfl
@[simp] theorem PulseUnit.clearFold_target : (u.clearFold).target = u.target := rfl
@[simp] theorem PulseUnit.clearFold_stopFlag : (u.clearFold).stopFlag = u.stopFlag := rfl
@[simp] theorem PulseUnit.clearFold_pending : (u.clearFold).pending = u.pending := rfl
@[simp] theorem PulseUnit.clearFold_demand : (u.clearFold).demand = u.demand := rfl
@[simp] theorem PulseUnit.clearFold_dirMemory : (u.clearFold).dirMemory = u.dirMemory := rfl
@[simp] theorem PulseUnit.clearFold_zeroCount : (u.clearFold).zeroCount = u.zeroCount := rfl
@[simp] theorem PulseUnit.clearFold_countDir : (u.clearFold).countDir = u.countDir := rfl
@[simp] theorem PulseUnit.clearFold_applied : (u.clearFold).applied = u.applied := rfl
@[simp] theorem PulseUnit.clearFold_onTime : (u.clearFold).onTime = u.onTime := rfl
@[simp] theorem PulseUnit.clearFold_driveDir : (u.clearFold).driveDir = u.driveDir := rfl
@[simp] theorem PulseUnit.clearFold_brakeCount : (u.clearFold).brakeCount = u.brakeCount := rfl
@[simp] theorem PulseUnit.clearFold_drive : (u.clearFold).drive = u.drive := rfl
@[simp] theorem PulseUnit.clearFold_lines : (u.clearFold).lines = u.lines := rfl
@[simp] theorem PulseUnit.clearFold_dead : (u.clearFold).dead = u.dead := rfl

@[simp] theorem PulseUnit.enterHeld_state (row : Row) (h : Hold) : (u.enterHeld row h).state = h.heldState := by simp [PulseUnit.enterHeld, PulseUnit.clearFold]
@[simp] theorem PulseUnit.enterHeld_kind (row : Row) (h : Hold) : (u.enterHeld row h).kind = u.kind := by simp [PulseUnit.enterHeld, PulseUnit.clearFold]
@[simp] theorem PulseUnit.enterHeld_target (row : Row) (h : Hold) : (u.enterHeld row h).target = 0 := by simp [PulseUnit.enterHeld, PulseUnit.clearFold]
@[simp] theorem PulseUnit.enterHeld_stopFlag (row : Row) (h : Hold) : (u.enterHeld row h).stopFlag = false := by simp [PulseUnit.enterHeld, PulseUnit.clearFold]
@[simp] theorem PulseUnit.enterHeld_pending (row : Row) (h : Hold) : (u.enterHeld row h).pending = none := by simp [PulseUnit.enterHeld, PulseUnit.clearFold]
@[simp] theorem PulseUnit.enterHeld_demand (row : Row) (h : Hold) : (u.enterHeld row h).demand = 0 := by simp [PulseUnit.enterHeld, PulseUnit.clearFold]
@[simp] theorem PulseUnit.enterHeld_dirMemory (row : Row) (h : Hold) : (u.enterHeld row h).dirMemory = (u.memoryAfterZero row).dirMemory := by simp [PulseUnit.enterHeld, PulseUnit.clearFold]
@[simp] theorem PulseUnit.enterHeld_zeroCount (row : Row) (h : Hold) : (u.enterHeld row h).zeroCount = (u.memoryAfterZero row).zeroCount := by simp [PulseUnit.enterHeld, PulseUnit.clearFold]
@[simp] theorem PulseUnit.enterHeld_countDir (row : Row) (h : Hold) : (u.enterHeld row h).countDir = u.countDir := by simp [PulseUnit.enterHeld, PulseUnit.clearFold]
@[simp] theorem PulseUnit.enterHeld_foldLevel (row : Row) (h : Hold) : (u.enterHeld row h).foldLevel = 0 := by simp [PulseUnit.enterHeld, PulseUnit.clearFold]
@[simp] theorem PulseUnit.enterHeld_releaseRun (row : Row) (h : Hold) : (u.enterHeld row h).releaseRun = 0 := by simp [PulseUnit.enterHeld, PulseUnit.clearFold]
@[simp] theorem PulseUnit.enterHeld_exhaustRun (row : Row) (h : Hold) : (u.enterHeld row h).exhaustRun = 0 := by simp [PulseUnit.enterHeld, PulseUnit.clearFold]
@[simp] theorem PulseUnit.enterHeld_exhausted (row : Row) (h : Hold) : (u.enterHeld row h).exhausted = false := by simp [PulseUnit.enterHeld, PulseUnit.clearFold]
@[simp] theorem PulseUnit.enterHeld_applied (row : Row) (h : Hold) : (u.enterHeld row h).applied = 0 := by simp [PulseUnit.enterHeld, PulseUnit.clearFold]
@[simp] theorem PulseUnit.enterHeld_onTime (row : Row) (h : Hold) : (u.enterHeld row h).onTime = 0 := by simp [PulseUnit.enterHeld, PulseUnit.clearFold]
@[simp] theorem PulseUnit.enterHeld_driveDir (row : Row) (h : Hold) : (u.enterHeld row h).driveDir = u.driveDir := by simp [PulseUnit.enterHeld, PulseUnit.clearFold]
@[simp] theorem PulseUnit.enterHeld_brakeCount (row : Row) (h : Hold) : (u.enterHeld row h).brakeCount = .idle := by simp [PulseUnit.enterHeld, PulseUnit.clearFold]
@[simp] theorem PulseUnit.enterHeld_drive (row : Row) (h : Hold) : (u.enterHeld row h).drive = h.drive := by simp [PulseUnit.enterHeld, PulseUnit.clearFold]

@[simp] theorem PulseUnit.leaveHeld_state (row : Row) : (u.leaveHeld row).state = .run := by simp [PulseUnit.leaveHeld]
@[simp] theorem PulseUnit.leaveHeld_kind (row : Row) : (u.leaveHeld row).kind = u.kind := by simp [PulseUnit.leaveHeld]
@[simp] theorem PulseUnit.leaveHeld_target (row : Row) : (u.leaveHeld row).target = 0 := by simp [PulseUnit.leaveHeld]
@[simp] theorem PulseUnit.leaveHeld_stopFlag (row : Row) : (u.leaveHeld row).stopFlag = false := by simp [PulseUnit.leaveHeld]
@[simp] theorem PulseUnit.leaveHeld_pending (row : Row) : (u.leaveHeld row).pending = u.pending := by simp [PulseUnit.leaveHeld]
@[simp] theorem PulseUnit.leaveHeld_demand (row : Row) : (u.leaveHeld row).demand = 0 := by simp [PulseUnit.leaveHeld]
@[simp] theorem PulseUnit.leaveHeld_dirMemory (row : Row) : (u.leaveHeld row).dirMemory = u.dirMemory := by simp [PulseUnit.leaveHeld]
@[simp] theorem PulseUnit.leaveHeld_zeroCount (row : Row) : (u.leaveHeld row).zeroCount = u.zeroCount := by simp [PulseUnit.leaveHeld]
@[simp] theorem PulseUnit.leaveHeld_countDir (row : Row) : (u.leaveHeld row).countDir = u.countDir := by simp [PulseUnit.leaveHeld]
@[simp] theorem PulseUnit.leaveHeld_foldLevel (row : Row) : (u.leaveHeld row).foldLevel = u.foldLevel := by simp [PulseUnit.leaveHeld]
@[simp] theorem PulseUnit.leaveHeld_releaseRun (row : Row) : (u.leaveHeld row).releaseRun = u.releaseRun := by simp [PulseUnit.leaveHeld]
@[simp] theorem PulseUnit.leaveHeld_exhaustRun (row : Row) : (u.leaveHeld row).exhaustRun = u.exhaustRun := by simp [PulseUnit.leaveHeld]
@[simp] theorem PulseUnit.leaveHeld_exhausted (row : Row) : (u.leaveHeld row).exhausted = u.exhausted := by simp [PulseUnit.leaveHeld]
@[simp] theorem PulseUnit.leaveHeld_applied (row : Row) : (u.leaveHeld row).applied = u.applied := by simp [PulseUnit.leaveHeld]
@[simp] theorem PulseUnit.leaveHeld_onTime (row : Row) : (u.leaveHeld row).onTime = u.onTime := by simp [PulseUnit.leaveHeld]
@[simp] theorem PulseUnit.leaveHeld_driveDir (row : Row) : (u.leaveHeld row).driveDir = u.driveDir := by simp [PulseUnit.leaveHeld]
@[simp] theorem PulseUnit.leaveHeld_brakeCount (row : Row) : (u.leaveHeld row).brakeCount = u.brakeCount := by simp [PulseUnit.leaveHeld]
@[simp] theorem PulseUnit.leaveHeld_drive (row : Row) : (u.leaveHeld row).drive = offTimeDrive row := by simp [PulseUnit.leaveHeld]

@[simp] theorem PulseUnit.toOff_state : u.toOff.state = .off := by simp [PulseUnit.toOff, PulseUnit.clearFold]
@[simp] theorem PulseUnit.toOff_kind : u.toOff.kind = u.kind := by simp [PulseUnit.toOff, PulseUnit.clearFold]
@[simp] theorem PulseUnit.toOff_target : u.toOff.target = 0 := by simp [PulseUnit.toOff, PulseUnit.clearFold]
@[simp] theorem PulseUnit.toOff_stopFlag : u.toOff.stopFlag = false := by simp [PulseUnit.toOff, PulseUnit.clearFold]
@[simp] theorem PulseUnit.toOff_pending : u.toOff.pending = none := by simp [PulseUnit.toOff, PulseUnit.clearFold]
@[simp] theorem PulseUnit.toOff_demand : u.toOff.demand = 0 := by simp [PulseUnit.toOff, PulseUnit.clearFold]
@[simp] theorem PulseUnit.toOff_dirMemory : u.toOff.dirMemory = none := by simp [PulseUnit.toOff, PulseUnit.clearFold]
@[simp] theorem PulseUnit.toOff_zeroCount : u.toOff.zeroCount = none := by simp [PulseUnit.toOff, PulseUnit.clearFold]
@[simp] theorem PulseUnit.toOff_countDir : u.toOff.countDir = u.countDir := by simp [PulseUnit.toOff, PulseUnit.clearFold]
@[simp] theorem PulseUnit.toOff_foldLevel : u.toOff.foldLevel = 0 := by simp [PulseUnit.toOff, PulseUnit.clearFold]
@[simp] theorem PulseUnit.toOff_releaseRun : u.toOff.releaseRun = 0 := by simp [PulseUnit.toOff, PulseUnit.clearFold]
@[simp] theorem PulseUnit.toOff_exhaustRun : u.toOff.exhaustRun = 0 := by simp [PulseUnit.toOff, PulseUnit.clearFold]
@[simp] theorem PulseUnit.toOff_exhausted : u.toOff.exhausted = false := by simp [PulseUnit.toOff, PulseUnit.clearFold]
@[simp] theorem PulseUnit.toOff_applied : u.toOff.applied = 0 := by simp [PulseUnit.toOff, PulseUnit.clearFold]
@[simp] theorem PulseUnit.toOff_onTime : u.toOff.onTime = 0 := by simp [PulseUnit.toOff, PulseUnit.clearFold]
@[simp] theorem PulseUnit.toOff_driveDir : u.toOff.driveDir = u.driveDir := by simp [PulseUnit.toOff, PulseUnit.clearFold]
@[simp] theorem PulseUnit.toOff_brakeCount : u.toOff.brakeCount = .idle := by simp [PulseUnit.toOff, PulseUnit.clearFold]
@[simp] theorem PulseUnit.toOff_drive : u.toOff.drive = .coast := by simp [PulseUnit.toOff, PulseUnit.clearFold]
@[simp] theorem PulseUnit.resetUnit_state : u.resetUnit.state = .off := by simp [PulseUnit.resetUnit]
@[simp] theorem PulseUnit.resetUnit_kind : u.resetUnit.kind = u.kind := by simp [PulseUnit.resetUnit]
@[simp] theorem PulseUnit.resetUnit_target : u.resetUnit.target = 0 := by simp [PulseUnit.resetUnit]
@[simp] theorem PulseUnit.resetUnit_stopFlag : u.resetUnit.stopFlag = false := by simp [PulseUnit.resetUnit]
@[simp] theorem PulseUnit.resetUnit_pending : u.resetUnit.pending = none := by simp [PulseUnit.resetUnit]
@[simp] theorem PulseUnit.resetUnit_demand : u.resetUnit.demand = 0 := by simp [PulseUnit.resetUnit]
@[simp] theorem PulseUnit.resetUnit_dirMemory : u.resetUnit.dirMemory = none := by simp [PulseUnit.resetUnit]
@[simp] theorem PulseUnit.resetUnit_zeroCount : u.resetUnit.zeroCount = none := by simp [PulseUnit.resetUnit]
@[simp] theorem PulseUnit.resetUnit_countDir : u.resetUnit.countDir = .fwd := by simp [PulseUnit.resetUnit]
@[simp] theorem PulseUnit.resetUnit_foldLevel : u.resetUnit.foldLevel = 0 := by simp [PulseUnit.resetUnit]
@[simp] theorem PulseUnit.resetUnit_releaseRun : u.resetUnit.releaseRun = 0 := by simp [PulseUnit.resetUnit]
@[simp] theorem PulseUnit.resetUnit_exhaustRun : u.resetUnit.exhaustRun = 0 := by simp [PulseUnit.resetUnit]
@[simp] theorem PulseUnit.resetUnit_exhausted : u.resetUnit.exhausted = false := by simp [PulseUnit.resetUnit]
@[simp] theorem PulseUnit.resetUnit_applied : u.resetUnit.applied = 0 := by simp [PulseUnit.resetUnit]
@[simp] theorem PulseUnit.resetUnit_onTime : u.resetUnit.onTime = 0 := by simp [PulseUnit.resetUnit]
@[simp] theorem PulseUnit.resetUnit_driveDir : u.resetUnit.driveDir = u.driveDir := by simp [PulseUnit.resetUnit]
@[simp] theorem PulseUnit.resetUnit_brakeCount : u.resetUnit.brakeCount = .idle := by simp [PulseUnit.resetUnit]
@[simp] theorem PulseUnit.resetUnit_drive : u.resetUnit.drive = .coast := by simp [PulseUnit.resetUnit]

/-- COAST presented puts every line off at once (R14, R15). -/
@[simp] theorem PulseUnit.toOff_lines (h : u.lines.meet u.drive.called = u.lines) :
    u.toOff.lines = ⟨false, false, false, false⟩ := by
  unfold PulseUnit.toOff
  by_cases k : u.drive = .coast
  · have : u.lines = ⟨false, false, false, false⟩ := by rw [← h, k]; simp [Lines.meet, Drive.called]
    simp [PulseUnit.present, PulseUnit.clearFold, k, this]
  · simp [PulseUnit.present, PulseUnit.clearFold, k, Lines.meet, Drive.called]

/-- A pending target applied changes target, stop flag and pending target alone (R24). -/
theorem PulseUnit.applyPending_frame : ∃ t f, u.applyPending.1 = { u with target := t, stopFlag := f, pending := none } := by
  unfold PulseUnit.applyPending
  split
  · rename_i h; exact ⟨u.target, u.stopFlag, by cases u; simp_all⟩
  · exact ⟨_, _, rfl⟩

end Sys2Proof.Machine
end

