-- ==== Sys2Proof/Laws/State.lean ====
section
/-! SUPPORT. One lemma per field and named update of the state: what the update leaves, and what it writes. -/

namespace Sys2Proof.Machine

variable (s : State)

/-! ## setUnit -/

@[simp] theorem State.setUnit_pending (u : Fin 4) (x : PulseUnit) : (s.setUnit u x).pending = s.pending := rfl
@[simp] theorem State.setUnit_due (u : Fin 4) (x : PulseUnit) : (s.setUnit u x).due = s.due := rfl
@[simp] theorem State.setUnit_now (u : Fin 4) (x : PulseUnit) : (s.setUnit u x).now = s.now := rfl
@[simp] theorem State.setUnit_phase (u : Fin 4) (x : PulseUnit) : (s.setUnit u x).phase = s.phase := rfl
@[simp] theorem State.setUnit_loadTicks (u : Fin 4) (x : PulseUnit) : (s.setUnit u x).loadTicks = s.loadTicks := rfl
@[simp] theorem State.setUnit_cause (u : Fin 4) (x : PulseUnit) : (s.setUnit u x).cause = s.cause := rfl
@[simp] theorem State.setUnit_strap (u : Fin 4) (x : PulseUnit) : (s.setUnit u x).strap = s.strap := rfl
@[simp] theorem State.setUnit_beat (u : Fin 4) (x : PulseUnit) : (s.setUnit u x).beat = s.beat := rfl
@[simp] theorem State.setUnit_scan (u : Fin 4) (x : PulseUnit) : (s.setUnit u x).scan = s.scan := rfl
@[simp] theorem State.setUnit_slots (u : Fin 4) (x : PulseUnit) : (s.setUnit u x).slots = s.slots := rfl
@[simp] theorem State.setUnit_contacts (u : Fin 4) (x : PulseUnit) : (s.setUnit u x).contacts = s.contacts := rfl
@[simp] theorem State.setUnit_rotation (u : Fin 4) (x : PulseUnit) : (s.setUnit u x).rotation = s.rotation := rfl
@[simp] theorem State.setUnit_pins (u : Fin 4) (x : PulseUnit) : (s.setUnit u x).pins = s.pins := rfl
@[simp] theorem State.setUnit_limits (u : Fin 4) (x : PulseUnit) : (s.setUnit u x).limits = s.limits := rfl
@[simp] theorem State.setUnit_reflex (u : Fin 4) (x : PulseUnit) : (s.setUnit u x).reflex = s.reflex := rfl
@[simp] theorem State.setUnit_status (u : Fin 4) (x : PulseUnit) : (s.setUnit u x).status = s.status := rfl
@[simp] theorem State.setUnit_link (u : Fin 4) (x : PulseUnit) : (s.setUnit u x).link = s.link := rfl
@[simp] theorem State.setUnit_service (u : Fin 4) (x : PulseUnit) : (s.setUnit u x).service = s.service := rfl
@[simp] theorem State.setUnit_profile (u : Fin 4) (x : PulseUnit) : (s.setUnit u x).profile = s.profile := rfl
@[simp] theorem State.setUnit_answer (u : Fin 4) (x : PulseUnit) : (s.setUnit u x).answer = s.answer := rfl
@[simp] theorem State.setUnit_freeCount (u : Fin 4) (x : PulseUnit) : (s.setUnit u x).freeCount = s.freeCount := rfl

/-! ## setEntry -/

@[simp] theorem State.setEntry_pending (e : Fin 24) (x : ScanEntry) : (s.setEntry e x).pending = s.pending := rfl
@[simp] theorem State.setEntry_due (e : Fin 24) (x : ScanEntry) : (s.setEntry e x).due = s.due := rfl
@[simp] theorem State.setEntry_now (e : Fin 24) (x : ScanEntry) : (s.setEntry e x).now = s.now := rfl
@[simp] theorem State.setEntry_phase (e : Fin 24) (x : ScanEntry) : (s.setEntry e x).phase = s.phase := rfl
@[simp] theorem State.setEntry_loadTicks (e : Fin 24) (x : ScanEntry) : (s.setEntry e x).loadTicks = s.loadTicks := rfl
@[simp] theorem State.setEntry_cause (e : Fin 24) (x : ScanEntry) : (s.setEntry e x).cause = s.cause := rfl
@[simp] theorem State.setEntry_strap (e : Fin 24) (x : ScanEntry) : (s.setEntry e x).strap = s.strap := rfl
@[simp] theorem State.setEntry_beat (e : Fin 24) (x : ScanEntry) : (s.setEntry e x).beat = s.beat := rfl
@[simp] theorem State.setEntry_units (e : Fin 24) (x : ScanEntry) : (s.setEntry e x).units = s.units := rfl
@[simp] theorem State.setEntry_slots (e : Fin 24) (x : ScanEntry) : (s.setEntry e x).slots = s.slots := rfl
@[simp] theorem State.setEntry_contacts (e : Fin 24) (x : ScanEntry) : (s.setEntry e x).contacts = s.contacts := rfl
@[simp] theorem State.setEntry_rotation (e : Fin 24) (x : ScanEntry) : (s.setEntry e x).rotation = s.rotation := rfl
@[simp] theorem State.setEntry_pins (e : Fin 24) (x : ScanEntry) : (s.setEntry e x).pins = s.pins := rfl
@[simp] theorem State.setEntry_limits (e : Fin 24) (x : ScanEntry) : (s.setEntry e x).limits = s.limits := rfl
@[simp] theorem State.setEntry_reflex (e : Fin 24) (x : ScanEntry) : (s.setEntry e x).reflex = s.reflex := rfl
@[simp] theorem State.setEntry_status (e : Fin 24) (x : ScanEntry) : (s.setEntry e x).status = s.status := rfl
@[simp] theorem State.setEntry_link (e : Fin 24) (x : ScanEntry) : (s.setEntry e x).link = s.link := rfl
@[simp] theorem State.setEntry_service (e : Fin 24) (x : ScanEntry) : (s.setEntry e x).service = s.service := rfl
@[simp] theorem State.setEntry_profile (e : Fin 24) (x : ScanEntry) : (s.setEntry e x).profile = s.profile := rfl
@[simp] theorem State.setEntry_answer (e : Fin 24) (x : ScanEntry) : (s.setEntry e x).answer = s.answer := rfl
@[simp] theorem State.setEntry_freeCount (e : Fin 24) (x : ScanEntry) : (s.setEntry e x).freeCount = s.freeCount := rfl

/-! ## setContact -/

@[simp] theorem State.setContact_pending (c : Fin 8) (x : Contact) : (s.setContact c x).pending = s.pending := rfl
@[simp] theorem State.setContact_due (c : Fin 8) (x : Contact) : (s.setContact c x).due = s.due := rfl
@[simp] theorem State.setContact_now (c : Fin 8) (x : Contact) : (s.setContact c x).now = s.now := rfl
@[simp] theorem State.setContact_phase (c : Fin 8) (x : Contact) : (s.setContact c x).phase = s.phase := rfl
@[simp] theorem State.setContact_loadTicks (c : Fin 8) (x : Contact) : (s.setContact c x).loadTicks = s.loadTicks := rfl
@[simp] theorem State.setContact_cause (c : Fin 8) (x : Contact) : (s.setContact c x).cause = s.cause := rfl
@[simp] theorem State.setContact_strap (c : Fin 8) (x : Contact) : (s.setContact c x).strap = s.strap := rfl
@[simp] theorem State.setContact_beat (c : Fin 8) (x : Contact) : (s.setContact c x).beat = s.beat := rfl
@[simp] theorem State.setContact_units (c : Fin 8) (x : Contact) : (s.setContact c x).units = s.units := rfl
@[simp] theorem State.setContact_scan (c : Fin 8) (x : Contact) : (s.setContact c x).scan = s.scan := rfl
@[simp] theorem State.setContact_slots (c : Fin 8) (x : Contact) : (s.setContact c x).slots = s.slots := rfl
@[simp] theorem State.setContact_rotation (c : Fin 8) (x : Contact) : (s.setContact c x).rotation = s.rotation := rfl
@[simp] theorem State.setContact_pins (c : Fin 8) (x : Contact) : (s.setContact c x).pins = s.pins := rfl
@[simp] theorem State.setContact_limits (c : Fin 8) (x : Contact) : (s.setContact c x).limits = s.limits := rfl
@[simp] theorem State.setContact_reflex (c : Fin 8) (x : Contact) : (s.setContact c x).reflex = s.reflex := rfl
@[simp] theorem State.setContact_status (c : Fin 8) (x : Contact) : (s.setContact c x).status = s.status := rfl
@[simp] theorem State.setContact_link (c : Fin 8) (x : Contact) : (s.setContact c x).link = s.link := rfl
@[simp] theorem State.setContact_service (c : Fin 8) (x : Contact) : (s.setContact c x).service = s.service := rfl
@[simp] theorem State.setContact_profile (c : Fin 8) (x : Contact) : (s.setContact c x).profile = s.profile := rfl
@[simp] theorem State.setContact_answer (c : Fin 8) (x : Contact) : (s.setContact c x).answer = s.answer := rfl
@[simp] theorem State.setContact_freeCount (c : Fin 8) (x : Contact) : (s.setContact c x).freeCount = s.freeCount := rfl

/-! ## setRotation -/

@[simp] theorem State.setRotation_pending (r : Fin 3) (x : Rotation) : (s.setRotation r x).pending = s.pending := rfl
@[simp] theorem State.setRotation_due (r : Fin 3) (x : Rotation) : (s.setRotation r x).due = s.due := rfl
@[simp] theorem State.setRotation_now (r : Fin 3) (x : Rotation) : (s.setRotation r x).now = s.now := rfl
@[simp] theorem State.setRotation_phase (r : Fin 3) (x : Rotation) : (s.setRotation r x).phase = s.phase := rfl
@[simp] theorem State.setRotation_loadTicks (r : Fin 3) (x : Rotation) : (s.setRotation r x).loadTicks = s.loadTicks := rfl
@[simp] theorem State.setRotation_cause (r : Fin 3) (x : Rotation) : (s.setRotation r x).cause = s.cause := rfl
@[simp] theorem State.setRotation_strap (r : Fin 3) (x : Rotation) : (s.setRotation r x).strap = s.strap := rfl
@[simp] theorem State.setRotation_beat (r : Fin 3) (x : Rotation) : (s.setRotation r x).beat = s.beat := rfl
@[simp] theorem State.setRotation_units (r : Fin 3) (x : Rotation) : (s.setRotation r x).units = s.units := rfl
@[simp] theorem State.setRotation_scan (r : Fin 3) (x : Rotation) : (s.setRotation r x).scan = s.scan := rfl
@[simp] theorem State.setRotation_slots (r : Fin 3) (x : Rotation) : (s.setRotation r x).slots = s.slots := rfl
@[simp] theorem State.setRotation_contacts (r : Fin 3) (x : Rotation) : (s.setRotation r x).contacts = s.contacts := rfl
@[simp] theorem State.setRotation_pins (r : Fin 3) (x : Rotation) : (s.setRotation r x).pins = s.pins := rfl
@[simp] theorem State.setRotation_limits (r : Fin 3) (x : Rotation) : (s.setRotation r x).limits = s.limits := rfl
@[simp] theorem State.setRotation_reflex (r : Fin 3) (x : Rotation) : (s.setRotation r x).reflex = s.reflex := rfl
@[simp] theorem State.setRotation_status (r : Fin 3) (x : Rotation) : (s.setRotation r x).status = s.status := rfl
@[simp] theorem State.setRotation_link (r : Fin 3) (x : Rotation) : (s.setRotation r x).link = s.link := rfl
@[simp] theorem State.setRotation_service (r : Fin 3) (x : Rotation) : (s.setRotation r x).service = s.service := rfl
@[simp] theorem State.setRotation_profile (r : Fin 3) (x : Rotation) : (s.setRotation r x).profile = s.profile := rfl
@[simp] theorem State.setRotation_answer (r : Fin 3) (x : Rotation) : (s.setRotation r x).answer = s.answer := rfl
@[simp] theorem State.setRotation_freeCount (r : Fin 3) (x : Rotation) : (s.setRotation r x).freeCount = s.freeCount := rfl

/-! ## setLimit -/

@[simp] theorem State.setLimit_pending (n : Fin 16) (x : LimitRow) : (s.setLimit n x).pending = s.pending := rfl
@[simp] theorem State.setLimit_due (n : Fin 16) (x : LimitRow) : (s.setLimit n x).due = s.due := rfl
@[simp] theorem State.setLimit_now (n : Fin 16) (x : LimitRow) : (s.setLimit n x).now = s.now := rfl
@[simp] theorem State.setLimit_phase (n : Fin 16) (x : LimitRow) : (s.setLimit n x).phase = s.phase := rfl
@[simp] theorem State.setLimit_loadTicks (n : Fin 16) (x : LimitRow) : (s.setLimit n x).loadTicks = s.loadTicks := rfl
@[simp] theorem State.setLimit_cause (n : Fin 16) (x : LimitRow) : (s.setLimit n x).cause = s.cause := rfl
@[simp] theorem State.setLimit_strap (n : Fin 16) (x : LimitRow) : (s.setLimit n x).strap = s.strap := rfl
@[simp] theorem State.setLimit_beat (n : Fin 16) (x : LimitRow) : (s.setLimit n x).beat = s.beat := rfl
@[simp] theorem State.setLimit_units (n : Fin 16) (x : LimitRow) : (s.setLimit n x).units = s.units := rfl
@[simp] theorem State.setLimit_scan (n : Fin 16) (x : LimitRow) : (s.setLimit n x).scan = s.scan := rfl
@[simp] theorem State.setLimit_slots (n : Fin 16) (x : LimitRow) : (s.setLimit n x).slots = s.slots := rfl
@[simp] theorem State.setLimit_contacts (n : Fin 16) (x : LimitRow) : (s.setLimit n x).contacts = s.contacts := rfl
@[simp] theorem State.setLimit_rotation (n : Fin 16) (x : LimitRow) : (s.setLimit n x).rotation = s.rotation := rfl
@[simp] theorem State.setLimit_pins (n : Fin 16) (x : LimitRow) : (s.setLimit n x).pins = s.pins := rfl
@[simp] theorem State.setLimit_reflex (n : Fin 16) (x : LimitRow) : (s.setLimit n x).reflex = s.reflex := rfl
@[simp] theorem State.setLimit_status (n : Fin 16) (x : LimitRow) : (s.setLimit n x).status = s.status := rfl
@[simp] theorem State.setLimit_link (n : Fin 16) (x : LimitRow) : (s.setLimit n x).link = s.link := rfl
@[simp] theorem State.setLimit_service (n : Fin 16) (x : LimitRow) : (s.setLimit n x).service = s.service := rfl
@[simp] theorem State.setLimit_profile (n : Fin 16) (x : LimitRow) : (s.setLimit n x).profile = s.profile := rfl
@[simp] theorem State.setLimit_answer (n : Fin 16) (x : LimitRow) : (s.setLimit n x).answer = s.answer := rfl
@[simp] theorem State.setLimit_freeCount (n : Fin 16) (x : LimitRow) : (s.setLimit n x).freeCount = s.freeCount := rfl

/-! ## setQueue -/

@[simp] theorem State.setQueue_pending (q : List ScanRequest) (c : Option Conversion) : (s.setQueue q c).pending = s.pending := rfl
@[simp] theorem State.setQueue_due (q : List ScanRequest) (c : Option Conversion) : (s.setQueue q c).due = s.due := rfl
@[simp] theorem State.setQueue_now (q : List ScanRequest) (c : Option Conversion) : (s.setQueue q c).now = s.now := rfl
@[simp] theorem State.setQueue_phase (q : List ScanRequest) (c : Option Conversion) : (s.setQueue q c).phase = s.phase := rfl
@[simp] theorem State.setQueue_loadTicks (q : List ScanRequest) (c : Option Conversion) : (s.setQueue q c).loadTicks = s.loadTicks := rfl
@[simp] theorem State.setQueue_cause (q : List ScanRequest) (c : Option Conversion) : (s.setQueue q c).cause = s.cause := rfl
@[simp] theorem State.setQueue_strap (q : List ScanRequest) (c : Option Conversion) : (s.setQueue q c).strap = s.strap := rfl
@[simp] theorem State.setQueue_beat (q : List ScanRequest) (c : Option Conversion) : (s.setQueue q c).beat = s.beat := rfl
@[simp] theorem State.setQueue_units (q : List ScanRequest) (c : Option Conversion) : (s.setQueue q c).units = s.units := rfl
@[simp] theorem State.setQueue_slots (q : List ScanRequest) (c : Option Conversion) : (s.setQueue q c).slots = s.slots := rfl
@[simp] theorem State.setQueue_contacts (q : List ScanRequest) (c : Option Conversion) : (s.setQueue q c).contacts = s.contacts := rfl
@[simp] theorem State.setQueue_rotation (q : List ScanRequest) (c : Option Conversion) : (s.setQueue q c).rotation = s.rotation := rfl
@[simp] theorem State.setQueue_pins (q : List ScanRequest) (c : Option Conversion) : (s.setQueue q c).pins = s.pins := rfl
@[simp] theorem State.setQueue_limits (q : List ScanRequest) (c : Option Conversion) : (s.setQueue q c).limits = s.limits := rfl
@[simp] theorem State.setQueue_reflex (q : List ScanRequest) (c : Option Conversion) : (s.setQueue q c).reflex = s.reflex := rfl
@[simp] theorem State.setQueue_status (q : List ScanRequest) (c : Option Conversion) : (s.setQueue q c).status = s.status := rfl
@[simp] theorem State.setQueue_link (q : List ScanRequest) (c : Option Conversion) : (s.setQueue q c).link = s.link := rfl
@[simp] theorem State.setQueue_service (q : List ScanRequest) (c : Option Conversion) : (s.setQueue q c).service = s.service := rfl
@[simp] theorem State.setQueue_profile (q : List ScanRequest) (c : Option Conversion) : (s.setQueue q c).profile = s.profile := rfl
@[simp] theorem State.setQueue_answer (q : List ScanRequest) (c : Option Conversion) : (s.setQueue q c).answer = s.answer := rfl
@[simp] theorem State.setQueue_freeCount (q : List ScanRequest) (c : Option Conversion) : (s.setQueue q c).freeCount = s.freeCount := rfl

/-! ## latch -/

@[simp] theorem State.latch_pending (e : EventId) : (s.latch e).pending = s.pending := rfl
@[simp] theorem State.latch_due (e : EventId) : (s.latch e).due = s.due := rfl
@[simp] theorem State.latch_now (e : EventId) : (s.latch e).now = s.now := rfl
@[simp] theorem State.latch_phase (e : EventId) : (s.latch e).phase = s.phase := rfl
@[simp] theorem State.latch_loadTicks (e : EventId) : (s.latch e).loadTicks = s.loadTicks := rfl
@[simp] theorem State.latch_cause (e : EventId) : (s.latch e).cause = s.cause := rfl
@[simp] theorem State.latch_strap (e : EventId) : (s.latch e).strap = s.strap := rfl
@[simp] theorem State.latch_beat (e : EventId) : (s.latch e).beat = s.beat := rfl
@[simp] theorem State.latch_units (e : EventId) : (s.latch e).units = s.units := rfl
@[simp] theorem State.latch_scan (e : EventId) : (s.latch e).scan = s.scan := rfl
@[simp] theorem State.latch_slots (e : EventId) : (s.latch e).slots = s.slots := rfl
@[simp] theorem State.latch_contacts (e : EventId) : (s.latch e).contacts = s.contacts := rfl
@[simp] theorem State.latch_rotation (e : EventId) : (s.latch e).rotation = s.rotation := rfl
@[simp] theorem State.latch_pins (e : EventId) : (s.latch e).pins = s.pins := rfl
@[simp] theorem State.latch_limits (e : EventId) : (s.latch e).limits = s.limits := rfl
@[simp] theorem State.latch_reflex (e : EventId) : (s.latch e).reflex = s.reflex := rfl
@[simp] theorem State.latch_link (e : EventId) : (s.latch e).link = s.link := rfl
@[simp] theorem State.latch_service (e : EventId) : (s.latch e).service = s.service := rfl
@[simp] theorem State.latch_profile (e : EventId) : (s.latch e).profile = s.profile := rfl
@[simp] theorem State.latch_answer (e : EventId) : (s.latch e).answer = s.answer := rfl
@[simp] theorem State.latch_freeCount (e : EventId) : (s.latch e).freeCount = s.freeCount := rfl

/-! ## latchIf -/

@[simp] theorem State.latchIf_pending (b : Bool) (e : EventId) : (s.latchIf b e).pending = s.pending := by cases b <;> rfl
@[simp] theorem State.latchIf_due (b : Bool) (e : EventId) : (s.latchIf b e).due = s.due := by cases b <;> rfl
@[simp] theorem State.latchIf_now (b : Bool) (e : EventId) : (s.latchIf b e).now = s.now := by cases b <;> rfl
@[simp] theorem State.latchIf_phase (b : Bool) (e : EventId) : (s.latchIf b e).phase = s.phase := by cases b <;> rfl
@[simp] theorem State.latchIf_loadTicks (b : Bool) (e : EventId) : (s.latchIf b e).loadTicks = s.loadTicks := by cases b <;> rfl
@[simp] theorem State.latchIf_cause (b : Bool) (e : EventId) : (s.latchIf b e).cause = s.cause := by cases b <;> rfl
@[simp] theorem State.latchIf_strap (b : Bool) (e : EventId) : (s.latchIf b e).strap = s.strap := by cases b <;> rfl
@[simp] theorem State.latchIf_beat (b : Bool) (e : EventId) : (s.latchIf b e).beat = s.beat := by cases b <;> rfl
@[simp] theorem State.latchIf_units (b : Bool) (e : EventId) : (s.latchIf b e).units = s.units := by cases b <;> rfl
@[simp] theorem State.latchIf_scan (b : Bool) (e : EventId) : (s.latchIf b e).scan = s.scan := by cases b <;> rfl
@[simp] theorem State.latchIf_slots (b : Bool) (e : EventId) : (s.latchIf b e).slots = s.slots := by cases b <;> rfl
@[simp] theorem State.latchIf_contacts (b : Bool) (e : EventId) : (s.latchIf b e).contacts = s.contacts := by cases b <;> rfl
@[simp] theorem State.latchIf_rotation (b : Bool) (e : EventId) : (s.latchIf b e).rotation = s.rotation := by cases b <;> rfl
@[simp] theorem State.latchIf_pins (b : Bool) (e : EventId) : (s.latchIf b e).pins = s.pins := by cases b <;> rfl
@[simp] theorem State.latchIf_limits (b : Bool) (e : EventId) : (s.latchIf b e).limits = s.limits := by cases b <;> rfl
@[simp] theorem State.latchIf_reflex (b : Bool) (e : EventId) : (s.latchIf b e).reflex = s.reflex := by cases b <;> rfl
@[simp] theorem State.latchIf_link (b : Bool) (e : EventId) : (s.latchIf b e).link = s.link := by cases b <;> rfl
@[simp] theorem State.latchIf_service (b : Bool) (e : EventId) : (s.latchIf b e).service = s.service := by cases b <;> rfl
@[simp] theorem State.latchIf_profile (b : Bool) (e : EventId) : (s.latchIf b e).profile = s.profile := by cases b <;> rfl
@[simp] theorem State.latchIf_answer (b : Bool) (e : EventId) : (s.latchIf b e).answer = s.answer := by cases b <;> rfl
@[simp] theorem State.latchIf_freeCount (b : Bool) (e : EventId) : (s.latchIf b e).freeCount = s.freeCount := by cases b <;> rfl

/-! ## clearDue -/

@[simp] theorem State.clearDue_pending (e : DueEvent) : (s.clearDue e).pending = s.pending := rfl
@[simp] theorem State.clearDue_now (e : DueEvent) : (s.clearDue e).now = s.now := rfl
@[simp] theorem State.clearDue_phase (e : DueEvent) : (s.clearDue e).phase = s.phase := rfl
@[simp] theorem State.clearDue_loadTicks (e : DueEvent) : (s.clearDue e).loadTicks = s.loadTicks := rfl
@[simp] theorem State.clearDue_cause (e : DueEvent) : (s.clearDue e).cause = s.cause := rfl
@[simp] theorem State.clearDue_strap (e : DueEvent) : (s.clearDue e).strap = s.strap := rfl
@[simp] theorem State.clearDue_beat (e : DueEvent) : (s.clearDue e).beat = s.beat := rfl
@[simp] theorem State.clearDue_units (e : DueEvent) : (s.clearDue e).units = s.units := rfl
@[simp] theorem State.clearDue_scan (e : DueEvent) : (s.clearDue e).scan = s.scan := rfl
@[simp] theorem State.clearDue_slots (e : DueEvent) : (s.clearDue e).slots = s.slots := rfl
@[simp] theorem State.clearDue_contacts (e : DueEvent) : (s.clearDue e).contacts = s.contacts := rfl
@[simp] theorem State.clearDue_rotation (e : DueEvent) : (s.clearDue e).rotation = s.rotation := rfl
@[simp] theorem State.clearDue_pins (e : DueEvent) : (s.clearDue e).pins = s.pins := rfl
@[simp] theorem State.clearDue_limits (e : DueEvent) : (s.clearDue e).limits = s.limits := rfl
@[simp] theorem State.clearDue_reflex (e : DueEvent) : (s.clearDue e).reflex = s.reflex := rfl
@[simp] theorem State.clearDue_status (e : DueEvent) : (s.clearDue e).status = s.status := rfl
@[simp] theorem State.clearDue_link (e : DueEvent) : (s.clearDue e).link = s.link := rfl
@[simp] theorem State.clearDue_service (e : DueEvent) : (s.clearDue e).service = s.service := rfl
@[simp] theorem State.clearDue_profile (e : DueEvent) : (s.clearDue e).profile = s.profile := rfl
@[simp] theorem State.clearDue_answer (e : DueEvent) : (s.clearDue e).answer = s.answer := rfl
@[simp] theorem State.clearDue_freeCount (e : DueEvent) : (s.clearDue e).freeCount = s.freeCount := rfl

/-! ## dropBeatDue -/

@[simp] theorem State.dropBeatDue_pending : (s.dropBeatDue).pending = s.pending := rfl
@[simp] theorem State.dropBeatDue_now : (s.dropBeatDue).now = s.now := rfl
@[simp] theorem State.dropBeatDue_phase : (s.dropBeatDue).phase = s.phase := rfl
@[simp] theorem State.dropBeatDue_loadTicks : (s.dropBeatDue).loadTicks = s.loadTicks := rfl
@[simp] theorem State.dropBeatDue_cause : (s.dropBeatDue).cause = s.cause := rfl
@[simp] theorem State.dropBeatDue_strap : (s.dropBeatDue).strap = s.strap := rfl
@[simp] theorem State.dropBeatDue_beat : (s.dropBeatDue).beat = s.beat := rfl
@[simp] theorem State.dropBeatDue_units : (s.dropBeatDue).units = s.units := rfl
@[simp] theorem State.dropBeatDue_scan : (s.dropBeatDue).scan = s.scan := rfl
@[simp] theorem State.dropBeatDue_slots : (s.dropBeatDue).slots = s.slots := rfl
@[simp] theorem State.dropBeatDue_contacts : (s.dropBeatDue).contacts = s.contacts := rfl
@[simp] theorem State.dropBeatDue_rotation : (s.dropBeatDue).rotation = s.rotation := rfl
@[simp] theorem State.dropBeatDue_pins : (s.dropBeatDue).pins = s.pins := rfl
@[simp] theorem State.dropBeatDue_limits : (s.dropBeatDue).limits = s.limits := rfl
@[simp] theorem State.dropBeatDue_reflex : (s.dropBeatDue).reflex = s.reflex := rfl
@[simp] theorem State.dropBeatDue_status : (s.dropBeatDue).status = s.status := rfl
@[simp] theorem State.dropBeatDue_link : (s.dropBeatDue).link = s.link := rfl
@[simp] theorem State.dropBeatDue_service : (s.dropBeatDue).service = s.service := rfl
@[simp] theorem State.dropBeatDue_profile : (s.dropBeatDue).profile = s.profile := rfl
@[simp] theorem State.dropBeatDue_answer : (s.dropBeatDue).answer = s.answer := rfl
@[simp] theorem State.dropBeatDue_freeCount : (s.dropBeatDue).freeCount = s.freeCount := rfl

/-! ## markDue -/

@[simp] theorem State.markDue_pending (e : DueEvent) : (s.markDue e).pending = s.pending := by unfold State.markDue; split <;> rfl
@[simp] theorem State.markDue_now (e : DueEvent) : (s.markDue e).now = s.now := by unfold State.markDue; split <;> rfl
@[simp] theorem State.markDue_phase (e : DueEvent) : (s.markDue e).phase = s.phase := by unfold State.markDue; split <;> rfl
@[simp] theorem State.markDue_loadTicks (e : DueEvent) : (s.markDue e).loadTicks = s.loadTicks := by unfold State.markDue; split <;> rfl
@[simp] theorem State.markDue_cause (e : DueEvent) : (s.markDue e).cause = s.cause := by unfold State.markDue; split <;> rfl
@[simp] theorem State.markDue_strap (e : DueEvent) : (s.markDue e).strap = s.strap := by unfold State.markDue; split <;> rfl
@[simp] theorem State.markDue_beat (e : DueEvent) : (s.markDue e).beat = s.beat := by unfold State.markDue; split <;> rfl
@[simp] theorem State.markDue_units (e : DueEvent) : (s.markDue e).units = s.units := by unfold State.markDue; split <;> rfl
@[simp] theorem State.markDue_scan (e : DueEvent) : (s.markDue e).scan = s.scan := by unfold State.markDue; split <;> rfl
@[simp] theorem State.markDue_slots (e : DueEvent) : (s.markDue e).slots = s.slots := by unfold State.markDue; split <;> rfl
@[simp] theorem State.markDue_contacts (e : DueEvent) : (s.markDue e).contacts = s.contacts := by unfold State.markDue; split <;> rfl
@[simp] theorem State.markDue_rotation (e : DueEvent) : (s.markDue e).rotation = s.rotation := by unfold State.markDue; split <;> rfl
@[simp] theorem State.markDue_pins (e : DueEvent) : (s.markDue e).pins = s.pins := by unfold State.markDue; split <;> rfl
@[simp] theorem State.markDue_limits (e : DueEvent) : (s.markDue e).limits = s.limits := by unfold State.markDue; split <;> rfl
@[simp] theorem State.markDue_reflex (e : DueEvent) : (s.markDue e).reflex = s.reflex := by unfold State.markDue; split <;> rfl
@[simp] theorem State.markDue_status (e : DueEvent) : (s.markDue e).status = s.status := by unfold State.markDue; split <;> rfl
@[simp] theorem State.markDue_link (e : DueEvent) : (s.markDue e).link = s.link := by unfold State.markDue; split <;> rfl
@[simp] theorem State.markDue_service (e : DueEvent) : (s.markDue e).service = s.service := by unfold State.markDue; split <;> rfl
@[simp] theorem State.markDue_profile (e : DueEvent) : (s.markDue e).profile = s.profile := by unfold State.markDue; split <;> rfl
@[simp] theorem State.markDue_answer (e : DueEvent) : (s.markDue e).answer = s.answer := by unfold State.markDue; split <;> rfl
@[simp] theorem State.markDue_freeCount (e : DueEvent) : (s.markDue e).freeCount = s.freeCount := by unfold State.markDue; split <;> rfl

/-! ## markFirst -/

@[simp] theorem State.markFirst_pending (l : List DueEvent) : (s.markFirst l).pending = s.pending := rfl
@[simp] theorem State.markFirst_now (l : List DueEvent) : (s.markFirst l).now = s.now := rfl
@[simp] theorem State.markFirst_phase (l : List DueEvent) : (s.markFirst l).phase = s.phase := rfl
@[simp] theorem State.markFirst_loadTicks (l : List DueEvent) : (s.markFirst l).loadTicks = s.loadTicks := rfl
@[simp] theorem State.markFirst_cause (l : List DueEvent) : (s.markFirst l).cause = s.cause := rfl
@[simp] theorem State.markFirst_strap (l : List DueEvent) : (s.markFirst l).strap = s.strap := rfl
@[simp] theorem State.markFirst_beat (l : List DueEvent) : (s.markFirst l).beat = s.beat := rfl
@[simp] theorem State.markFirst_units (l : List DueEvent) : (s.markFirst l).units = s.units := rfl
@[simp] theorem State.markFirst_scan (l : List DueEvent) : (s.markFirst l).scan = s.scan := rfl
@[simp] theorem State.markFirst_slots (l : List DueEvent) : (s.markFirst l).slots = s.slots := rfl
@[simp] theorem State.markFirst_contacts (l : List DueEvent) : (s.markFirst l).contacts = s.contacts := rfl
@[simp] theorem State.markFirst_rotation (l : List DueEvent) : (s.markFirst l).rotation = s.rotation := rfl
@[simp] theorem State.markFirst_pins (l : List DueEvent) : (s.markFirst l).pins = s.pins := rfl
@[simp] theorem State.markFirst_limits (l : List DueEvent) : (s.markFirst l).limits = s.limits := rfl
@[simp] theorem State.markFirst_reflex (l : List DueEvent) : (s.markFirst l).reflex = s.reflex := rfl
@[simp] theorem State.markFirst_status (l : List DueEvent) : (s.markFirst l).status = s.status := rfl
@[simp] theorem State.markFirst_link (l : List DueEvent) : (s.markFirst l).link = s.link := rfl
@[simp] theorem State.markFirst_service (l : List DueEvent) : (s.markFirst l).service = s.service := rfl
@[simp] theorem State.markFirst_profile (l : List DueEvent) : (s.markFirst l).profile = s.profile := rfl
@[simp] theorem State.markFirst_answer (l : List DueEvent) : (s.markFirst l).answer = s.answer := rfl
@[simp] theorem State.markFirst_freeCount (l : List DueEvent) : (s.markFirst l).freeCount = s.freeCount := rfl

/-! ## setCause -/

@[simp] theorem State.setCause_pending (c : SafeCause) : (s.setCause c).pending = s.pending := by cases c <;> rfl
@[simp] theorem State.setCause_due (c : SafeCause) : (s.setCause c).due = s.due := by cases c <;> rfl
@[simp] theorem State.setCause_now (c : SafeCause) : (s.setCause c).now = s.now := by cases c <;> rfl
@[simp] theorem State.setCause_phase (c : SafeCause) : (s.setCause c).phase = s.phase := by cases c <;> rfl
@[simp] theorem State.setCause_loadTicks (c : SafeCause) : (s.setCause c).loadTicks = s.loadTicks := by cases c <;> rfl
@[simp] theorem State.setCause_cause (c : SafeCause) : (s.setCause c).cause = s.cause := by cases c <;> rfl
@[simp] theorem State.setCause_strap (c : SafeCause) : (s.setCause c).strap = s.strap := by cases c <;> rfl
@[simp] theorem State.setCause_beat (c : SafeCause) : (s.setCause c).beat = s.beat := by cases c <;> rfl
@[simp] theorem State.setCause_units (c : SafeCause) : (s.setCause c).units = s.units := by cases c <;> rfl
@[simp] theorem State.setCause_scan (c : SafeCause) : (s.setCause c).scan = s.scan := by cases c <;> rfl
@[simp] theorem State.setCause_slots (c : SafeCause) : (s.setCause c).slots = s.slots := by cases c <;> rfl
@[simp] theorem State.setCause_contacts (c : SafeCause) : (s.setCause c).contacts = s.contacts := by cases c <;> rfl
@[simp] theorem State.setCause_rotation (c : SafeCause) : (s.setCause c).rotation = s.rotation := by cases c <;> rfl
@[simp] theorem State.setCause_pins (c : SafeCause) : (s.setCause c).pins = s.pins := by cases c <;> rfl
@[simp] theorem State.setCause_limits (c : SafeCause) : (s.setCause c).limits = s.limits := by cases c <;> rfl
@[simp] theorem State.setCause_status (c : SafeCause) : (s.setCause c).status = s.status := by cases c <;> rfl
@[simp] theorem State.setCause_link (c : SafeCause) : (s.setCause c).link = s.link := by cases c <;> rfl
@[simp] theorem State.setCause_service (c : SafeCause) : (s.setCause c).service = s.service := by cases c <;> rfl
@[simp] theorem State.setCause_profile (c : SafeCause) : (s.setCause c).profile = s.profile := by cases c <;> rfl
@[simp] theorem State.setCause_answer (c : SafeCause) : (s.setCause c).answer = s.answer := by cases c <;> rfl
@[simp] theorem State.setCause_freeCount (c : SafeCause) : (s.setCause c).freeCount = s.freeCount := by cases c <;> rfl

/-! ## What they write -/

@[simp] theorem State.setUnit_units (u : Fin 4) (x : PulseUnit) : (s.setUnit u x).units = s.units.set u x := rfl
@[simp] theorem State.setEntry_entries (e : Fin 24) (x : ScanEntry) :
    (s.setEntry e x).scan.entries = s.scan.entries.set e x := rfl
@[simp] theorem State.setEntry_queue (e : Fin 24) (x : ScanEntry) : (s.setEntry e x).scan.queue = s.scan.queue := rfl
@[simp] theorem State.setEntry_converter (e : Fin 24) (x : ScanEntry) :
    (s.setEntry e x).scan.converter = s.scan.converter := rfl
@[simp] theorem State.setContact_contacts (c : Fin 8) (x : Contact) : (s.setContact c x).contacts = s.contacts.set c x := rfl
@[simp] theorem State.setRotation_rotation (r : Fin 3) (x : Rotation) :
    (s.setRotation r x).rotation = s.rotation.set r x := rfl
@[simp] theorem State.setLimit_rows (n : Fin 16) (x : LimitRow) : (s.setLimit n x).limits.rows = s.limits.rows.set n x := rfl
@[simp] theorem State.setLimit_warnLive (n : Fin 16) (x : LimitRow) : (s.setLimit n x).limits.warnLive = s.limits.warnLive := rfl
@[simp] theorem State.setLimit_supplyLow (n : Fin 16) (x : LimitRow) :
    (s.setLimit n x).limits.supplyLow = s.limits.supplyLow := rfl
@[simp] theorem State.setQueue_entries (q : List ScanRequest) (c : Option Conversion) :
    (s.setQueue q c).scan.entries = s.scan.entries := rfl
@[simp] theorem State.setQueue_queue (q : List ScanRequest) (c : Option Conversion) : (s.setQueue q c).scan.queue = q := rfl
@[simp] theorem State.setQueue_converter (q : List ScanRequest) (c : Option Conversion) :
    (s.setQueue q c).scan.converter = c := rfl
@[simp] theorem State.latch_mask (e : EventId) : (s.latch e).status.mask = s.status.mask := rfl
@[simp] theorem State.latchIf_mask (b : Bool) (e : EventId) : (s.latchIf b e).status.mask = s.status.mask := by
  cases b <;> rfl
theorem State.latch_events (e : EventId) : (s.latch e).status.events = s.status.events ||| (1#16 <<< e.bit) := rfl
@[simp] theorem State.setCause_rows (c : SafeCause) : (s.setCause c).reflex.rows = s.reflex.rows := by cases c <;> rfl
@[simp] theorem State.setCause_hold (c : SafeCause) : (s.setCause c).reflex.hold = s.reflex.hold := by cases c <;> rfl
@[simp] theorem State.setCause_cap (c : SafeCause) : (s.setCause c).reflex.cap = s.reflex.cap := by cases c <;> rfl

/-- An event latched is set. -/
theorem State.latch_self (e : EventId) : (s.latch e).status.events.getLsbD e.bit = true := by
  rw [State.latch_events]; cases e <;> simp [EventId.bit]

/-- An event once set stays set when another is latched. -/
theorem State.latch_keeps (e : EventId) (i : Nat) (h : s.status.events.getLsbD i = true) :
    (s.latch e).status.events.getLsbD i = true := by
  rw [State.latch_events]; simp [h]

/-- Latching one event leaves every other as it was. -/
theorem State.latch_other (e : EventId) (i : Nat) (h : i ≠ e.bit) :
    (s.latch e).status.events.getLsbD i = s.status.events.getLsbD i := by
  have k : ((1#16) <<< e.bit).getLsbD i = false := by
    rw [BitVec.getLsbD_shiftLeft]
    by_cases g : i < e.bit
    · simp [g]
    · have : i - e.bit ≠ 0 := by omega
      simp [this]
  rw [State.latch_events, BitVec.getLsbD_or, k, Bool.or_false]

end Sys2Proof.Machine
end

