-- ==== Sys2Proof/Laws/Frames.lean ====
section
/-! SUPPORT. The fields each shared operation of the sequencer, the reflex block, the result path and the boundary leaves alone. -/

namespace Sys2Proof.Machine

set_option Elab.async false

variable (s : State)

/-- Triggers raised one after the other. -/
abbrev State.raiseAll (l : List (Fin 24)) : State := l.foldl State.raiseEntry s

/-! ## drop -/

@[simp] theorem State.drop_pending (e : Fin 24) : (s.drop e).pending = s.pending := by simp [State.drop]
@[simp] theorem State.drop_due (e : Fin 24) : (s.drop e).due = s.due := by simp [State.drop]
@[simp] theorem State.drop_now (e : Fin 24) : (s.drop e).now = s.now := by simp [State.drop]
@[simp] theorem State.drop_phase (e : Fin 24) : (s.drop e).phase = s.phase := by simp [State.drop]
@[simp] theorem State.drop_loadTicks (e : Fin 24) : (s.drop e).loadTicks = s.loadTicks := by simp [State.drop]
@[simp] theorem State.drop_cause (e : Fin 24) : (s.drop e).cause = s.cause := by simp [State.drop]
@[simp] theorem State.drop_strap (e : Fin 24) : (s.drop e).strap = s.strap := by simp [State.drop]
@[simp] theorem State.drop_beat (e : Fin 24) : (s.drop e).beat = s.beat := by simp [State.drop]
@[simp] theorem State.drop_units (e : Fin 24) : (s.drop e).units = s.units := by simp [State.drop]
@[simp] theorem State.drop_slots (e : Fin 24) : (s.drop e).slots = s.slots := by simp [State.drop]
@[simp] theorem State.drop_contacts (e : Fin 24) : (s.drop e).contacts = s.contacts := by simp [State.drop]
@[simp] theorem State.drop_rotation (e : Fin 24) : (s.drop e).rotation = s.rotation := by simp [State.drop]
@[simp] theorem State.drop_pins (e : Fin 24) : (s.drop e).pins = s.pins := by simp [State.drop]
@[simp] theorem State.drop_limits (e : Fin 24) : (s.drop e).limits = s.limits := by simp [State.drop]
@[simp] theorem State.drop_reflex (e : Fin 24) : (s.drop e).reflex = s.reflex := by simp [State.drop]
@[simp] theorem State.drop_link (e : Fin 24) : (s.drop e).link = s.link := by simp [State.drop]
@[simp] theorem State.drop_service (e : Fin 24) : (s.drop e).service = s.service := by simp [State.drop]
@[simp] theorem State.drop_profile (e : Fin 24) : (s.drop e).profile = s.profile := by simp [State.drop]
@[simp] theorem State.drop_answer (e : Fin 24) : (s.drop e).answer = s.answer := by simp [State.drop]
@[simp] theorem State.drop_freeCount (e : Fin 24) : (s.drop e).freeCount = s.freeCount := by simp [State.drop]

/-! ## dropRequest -/

@[simp] theorem State.dropRequest_pending (r : ScanRequest) : (s.dropRequest r).pending = s.pending := by unfold State.dropRequest; split <;> simp
@[simp] theorem State.dropRequest_due (r : ScanRequest) : (s.dropRequest r).due = s.due := by unfold State.dropRequest; split <;> simp
@[simp] theorem State.dropRequest_now (r : ScanRequest) : (s.dropRequest r).now = s.now := by unfold State.dropRequest; split <;> simp
@[simp] theorem State.dropRequest_phase (r : ScanRequest) : (s.dropRequest r).phase = s.phase := by unfold State.dropRequest; split <;> simp
@[simp] theorem State.dropRequest_loadTicks (r : ScanRequest) : (s.dropRequest r).loadTicks = s.loadTicks := by unfold State.dropRequest; split <;> simp
@[simp] theorem State.dropRequest_cause (r : ScanRequest) : (s.dropRequest r).cause = s.cause := by unfold State.dropRequest; split <;> simp
@[simp] theorem State.dropRequest_strap (r : ScanRequest) : (s.dropRequest r).strap = s.strap := by unfold State.dropRequest; split <;> simp
@[simp] theorem State.dropRequest_beat (r : ScanRequest) : (s.dropRequest r).beat = s.beat := by unfold State.dropRequest; split <;> simp
@[simp] theorem State.dropRequest_units (r : ScanRequest) : (s.dropRequest r).units = s.units := by unfold State.dropRequest; split <;> simp
@[simp] theorem State.dropRequest_slots (r : ScanRequest) : (s.dropRequest r).slots = s.slots := by unfold State.dropRequest; split <;> simp
@[simp] theorem State.dropRequest_contacts (r : ScanRequest) : (s.dropRequest r).contacts = s.contacts := by unfold State.dropRequest; split <;> simp
@[simp] theorem State.dropRequest_rotation (r : ScanRequest) : (s.dropRequest r).rotation = s.rotation := by unfold State.dropRequest; split <;> simp
@[simp] theorem State.dropRequest_pins (r : ScanRequest) : (s.dropRequest r).pins = s.pins := by unfold State.dropRequest; split <;> simp
@[simp] theorem State.dropRequest_limits (r : ScanRequest) : (s.dropRequest r).limits = s.limits := by unfold State.dropRequest; split <;> simp
@[simp] theorem State.dropRequest_reflex (r : ScanRequest) : (s.dropRequest r).reflex = s.reflex := by unfold State.dropRequest; split <;> simp
@[simp] theorem State.dropRequest_link (r : ScanRequest) : (s.dropRequest r).link = s.link := by unfold State.dropRequest; split <;> simp
@[simp] theorem State.dropRequest_service (r : ScanRequest) : (s.dropRequest r).service = s.service := by unfold State.dropRequest; split <;> simp
@[simp] theorem State.dropRequest_profile (r : ScanRequest) : (s.dropRequest r).profile = s.profile := by unfold State.dropRequest; split <;> simp
@[simp] theorem State.dropRequest_answer (r : ScanRequest) : (s.dropRequest r).answer = s.answer := by unfold State.dropRequest; split <;> simp
@[simp] theorem State.dropRequest_freeCount (r : ScanRequest) : (s.dropRequest r).freeCount = s.freeCount := by unfold State.dropRequest; split <;> simp

/-! ## takeFrom -/

@[simp] theorem State.takeFrom_pending (q : List ScanRequest) : (s.takeFrom q).pending = s.pending := by
  induction q generalizing s with
  | nil => rfl
  | cons r q ih => unfold State.takeFrom; split <;> simp [ih]
@[simp] theorem State.takeFrom_due (q : List ScanRequest) : (s.takeFrom q).due = s.due := by
  induction q generalizing s with
  | nil => rfl
  | cons r q ih => unfold State.takeFrom; split <;> simp [ih]
@[simp] theorem State.takeFrom_now (q : List ScanRequest) : (s.takeFrom q).now = s.now := by
  induction q generalizing s with
  | nil => rfl
  | cons r q ih => unfold State.takeFrom; split <;> simp [ih]
@[simp] theorem State.takeFrom_phase (q : List ScanRequest) : (s.takeFrom q).phase = s.phase := by
  induction q generalizing s with
  | nil => rfl
  | cons r q ih => unfold State.takeFrom; split <;> simp [ih]
@[simp] theorem State.takeFrom_loadTicks (q : List ScanRequest) : (s.takeFrom q).loadTicks = s.loadTicks := by
  induction q generalizing s with
  | nil => rfl
  | cons r q ih => unfold State.takeFrom; split <;> simp [ih]
@[simp] theorem State.takeFrom_cause (q : List ScanRequest) : (s.takeFrom q).cause = s.cause := by
  induction q generalizing s with
  | nil => rfl
  | cons r q ih => unfold State.takeFrom; split <;> simp [ih]
@[simp] theorem State.takeFrom_strap (q : List ScanRequest) : (s.takeFrom q).strap = s.strap := by
  induction q generalizing s with
  | nil => rfl
  | cons r q ih => unfold State.takeFrom; split <;> simp [ih]
@[simp] theorem State.takeFrom_beat (q : List ScanRequest) : (s.takeFrom q).beat = s.beat := by
  induction q generalizing s with
  | nil => rfl
  | cons r q ih => unfold State.takeFrom; split <;> simp [ih]
@[simp] theorem State.takeFrom_units (q : List ScanRequest) : (s.takeFrom q).units = s.units := by
  induction q generalizing s with
  | nil => rfl
  | cons r q ih => unfold State.takeFrom; split <;> simp [ih]
@[simp] theorem State.takeFrom_slots (q : List ScanRequest) : (s.takeFrom q).slots = s.slots := by
  induction q generalizing s with
  | nil => rfl
  | cons r q ih => unfold State.takeFrom; split <;> simp [ih]
@[simp] theorem State.takeFrom_contacts (q : List ScanRequest) : (s.takeFrom q).contacts = s.contacts := by
  induction q generalizing s with
  | nil => rfl
  | cons r q ih => unfold State.takeFrom; split <;> simp [ih]
@[simp] theorem State.takeFrom_rotation (q : List ScanRequest) : (s.takeFrom q).rotation = s.rotation := by
  induction q generalizing s with
  | nil => rfl
  | cons r q ih => unfold State.takeFrom; split <;> simp [ih]
@[simp] theorem State.takeFrom_pins (q : List ScanRequest) : (s.takeFrom q).pins = s.pins := by
  induction q generalizing s with
  | nil => rfl
  | cons r q ih => unfold State.takeFrom; split <;> simp [ih]
@[simp] theorem State.takeFrom_limits (q : List ScanRequest) : (s.takeFrom q).limits = s.limits := by
  induction q generalizing s with
  | nil => rfl
  | cons r q ih => unfold State.takeFrom; split <;> simp [ih]
@[simp] theorem State.takeFrom_reflex (q : List ScanRequest) : (s.takeFrom q).reflex = s.reflex := by
  induction q generalizing s with
  | nil => rfl
  | cons r q ih => unfold State.takeFrom; split <;> simp [ih]
@[simp] theorem State.takeFrom_link (q : List ScanRequest) : (s.takeFrom q).link = s.link := by
  induction q generalizing s with
  | nil => rfl
  | cons r q ih => unfold State.takeFrom; split <;> simp [ih]
@[simp] theorem State.takeFrom_service (q : List ScanRequest) : (s.takeFrom q).service = s.service := by
  induction q generalizing s with
  | nil => rfl
  | cons r q ih => unfold State.takeFrom; split <;> simp [ih]
@[simp] theorem State.takeFrom_profile (q : List ScanRequest) : (s.takeFrom q).profile = s.profile := by
  induction q generalizing s with
  | nil => rfl
  | cons r q ih => unfold State.takeFrom; split <;> simp [ih]
@[simp] theorem State.takeFrom_answer (q : List ScanRequest) : (s.takeFrom q).answer = s.answer := by
  induction q generalizing s with
  | nil => rfl
  | cons r q ih => unfold State.takeFrom; split <;> simp [ih]
@[simp] theorem State.takeFrom_freeCount (q : List ScanRequest) : (s.takeFrom q).freeCount = s.freeCount := by
  induction q generalizing s with
  | nil => rfl
  | cons r q ih => unfold State.takeFrom; split <;> simp [ih]

/-! ## takeNext -/

@[simp] theorem State.takeNext_pending : (s.takeNext).pending = s.pending := by unfold State.takeNext; split <;> simp
@[simp] theorem State.takeNext_due : (s.takeNext).due = s.due := by unfold State.takeNext; split <;> simp
@[simp] theorem State.takeNext_now : (s.takeNext).now = s.now := by unfold State.takeNext; split <;> simp
@[simp] theorem State.takeNext_phase : (s.takeNext).phase = s.phase := by unfold State.takeNext; split <;> simp
@[simp] theorem State.takeNext_loadTicks : (s.takeNext).loadTicks = s.loadTicks := by unfold State.takeNext; split <;> simp
@[simp] theorem State.takeNext_cause : (s.takeNext).cause = s.cause := by unfold State.takeNext; split <;> simp
@[simp] theorem State.takeNext_strap : (s.takeNext).strap = s.strap := by unfold State.takeNext; split <;> simp
@[simp] theorem State.takeNext_beat : (s.takeNext).beat = s.beat := by unfold State.takeNext; split <;> simp
@[simp] theorem State.takeNext_units : (s.takeNext).units = s.units := by unfold State.takeNext; split <;> simp
@[simp] theorem State.takeNext_slots : (s.takeNext).slots = s.slots := by unfold State.takeNext; split <;> simp
@[simp] theorem State.takeNext_contacts : (s.takeNext).contacts = s.contacts := by unfold State.takeNext; split <;> simp
@[simp] theorem State.takeNext_rotation : (s.takeNext).rotation = s.rotation := by unfold State.takeNext; split <;> simp
@[simp] theorem State.takeNext_pins : (s.takeNext).pins = s.pins := by unfold State.takeNext; split <;> simp
@[simp] theorem State.takeNext_limits : (s.takeNext).limits = s.limits := by unfold State.takeNext; split <;> simp
@[simp] theorem State.takeNext_reflex : (s.takeNext).reflex = s.reflex := by unfold State.takeNext; split <;> simp
@[simp] theorem State.takeNext_link : (s.takeNext).link = s.link := by unfold State.takeNext; split <;> simp
@[simp] theorem State.takeNext_service : (s.takeNext).service = s.service := by unfold State.takeNext; split <;> simp
@[simp] theorem State.takeNext_profile : (s.takeNext).profile = s.profile := by unfold State.takeNext; split <;> simp
@[simp] theorem State.takeNext_answer : (s.takeNext).answer = s.answer := by unfold State.takeNext; split <;> simp
@[simp] theorem State.takeNext_freeCount : (s.takeNext).freeCount = s.freeCount := by unfold State.takeNext; split <;> simp

/-! ## join -/

@[simp] theorem State.join_pending (r : ScanRequest) : (s.join r).pending = s.pending := by simp [State.join]
@[simp] theorem State.join_due (r : ScanRequest) : (s.join r).due = s.due := by simp [State.join]
@[simp] theorem State.join_now (r : ScanRequest) : (s.join r).now = s.now := by simp [State.join]
@[simp] theorem State.join_phase (r : ScanRequest) : (s.join r).phase = s.phase := by simp [State.join]
@[simp] theorem State.join_loadTicks (r : ScanRequest) : (s.join r).loadTicks = s.loadTicks := by simp [State.join]
@[simp] theorem State.join_cause (r : ScanRequest) : (s.join r).cause = s.cause := by simp [State.join]
@[simp] theorem State.join_strap (r : ScanRequest) : (s.join r).strap = s.strap := by simp [State.join]
@[simp] theorem State.join_beat (r : ScanRequest) : (s.join r).beat = s.beat := by simp [State.join]
@[simp] theorem State.join_units (r : ScanRequest) : (s.join r).units = s.units := by simp [State.join]
@[simp] theorem State.join_slots (r : ScanRequest) : (s.join r).slots = s.slots := by simp [State.join]
@[simp] theorem State.join_contacts (r : ScanRequest) : (s.join r).contacts = s.contacts := by simp [State.join]
@[simp] theorem State.join_rotation (r : ScanRequest) : (s.join r).rotation = s.rotation := by simp [State.join]
@[simp] theorem State.join_pins (r : ScanRequest) : (s.join r).pins = s.pins := by simp [State.join]
@[simp] theorem State.join_limits (r : ScanRequest) : (s.join r).limits = s.limits := by simp [State.join]
@[simp] theorem State.join_reflex (r : ScanRequest) : (s.join r).reflex = s.reflex := by simp [State.join]
@[simp] theorem State.join_link (r : ScanRequest) : (s.join r).link = s.link := by simp [State.join]
@[simp] theorem State.join_service (r : ScanRequest) : (s.join r).service = s.service := by simp [State.join]
@[simp] theorem State.join_profile (r : ScanRequest) : (s.join r).profile = s.profile := by simp [State.join]
@[simp] theorem State.join_answer (r : ScanRequest) : (s.join r).answer = s.answer := by simp [State.join]
@[simp] theorem State.join_freeCount (r : ScanRequest) : (s.join r).freeCount = s.freeCount := by simp [State.join]

/-! ## raiseEntry -/

@[simp] theorem State.raiseEntry_pending (e : Fin 24) : (s.raiseEntry e).pending = s.pending := by unfold State.raiseEntry; dsimp only; split <;> (try split) <;> simp
@[simp] theorem State.raiseEntry_due (e : Fin 24) : (s.raiseEntry e).due = s.due := by unfold State.raiseEntry; dsimp only; split <;> (try split) <;> simp
@[simp] theorem State.raiseEntry_now (e : Fin 24) : (s.raiseEntry e).now = s.now := by unfold State.raiseEntry; dsimp only; split <;> (try split) <;> simp
@[simp] theorem State.raiseEntry_phase (e : Fin 24) : (s.raiseEntry e).phase = s.phase := by unfold State.raiseEntry; dsimp only; split <;> (try split) <;> simp
@[simp] theorem State.raiseEntry_loadTicks (e : Fin 24) : (s.raiseEntry e).loadTicks = s.loadTicks := by unfold State.raiseEntry; dsimp only; split <;> (try split) <;> simp
@[simp] theorem State.raiseEntry_cause (e : Fin 24) : (s.raiseEntry e).cause = s.cause := by unfold State.raiseEntry; dsimp only; split <;> (try split) <;> simp
@[simp] theorem State.raiseEntry_strap (e : Fin 24) : (s.raiseEntry e).strap = s.strap := by unfold State.raiseEntry; dsimp only; split <;> (try split) <;> simp
@[simp] theorem State.raiseEntry_beat (e : Fin 24) : (s.raiseEntry e).beat = s.beat := by unfold State.raiseEntry; dsimp only; split <;> (try split) <;> simp
@[simp] theorem State.raiseEntry_units (e : Fin 24) : (s.raiseEntry e).units = s.units := by unfold State.raiseEntry; dsimp only; split <;> (try split) <;> simp
@[simp] theorem State.raiseEntry_slots (e : Fin 24) : (s.raiseEntry e).slots = s.slots := by unfold State.raiseEntry; dsimp only; split <;> (try split) <;> simp
@[simp] theorem State.raiseEntry_contacts (e : Fin 24) : (s.raiseEntry e).contacts = s.contacts := by unfold State.raiseEntry; dsimp only; split <;> (try split) <;> simp
@[simp] theorem State.raiseEntry_rotation (e : Fin 24) : (s.raiseEntry e).rotation = s.rotation := by unfold State.raiseEntry; dsimp only; split <;> (try split) <;> simp
@[simp] theorem State.raiseEntry_pins (e : Fin 24) : (s.raiseEntry e).pins = s.pins := by unfold State.raiseEntry; dsimp only; split <;> (try split) <;> simp
@[simp] theorem State.raiseEntry_limits (e : Fin 24) : (s.raiseEntry e).limits = s.limits := by unfold State.raiseEntry; dsimp only; split <;> (try split) <;> simp
@[simp] theorem State.raiseEntry_reflex (e : Fin 24) : (s.raiseEntry e).reflex = s.reflex := by unfold State.raiseEntry; dsimp only; split <;> (try split) <;> simp
@[simp] theorem State.raiseEntry_link (e : Fin 24) : (s.raiseEntry e).link = s.link := by unfold State.raiseEntry; dsimp only; split <;> (try split) <;> simp
@[simp] theorem State.raiseEntry_service (e : Fin 24) : (s.raiseEntry e).service = s.service := by unfold State.raiseEntry; dsimp only; split <;> (try split) <;> simp
@[simp] theorem State.raiseEntry_profile (e : Fin 24) : (s.raiseEntry e).profile = s.profile := by unfold State.raiseEntry; dsimp only; split <;> (try split) <;> simp
@[simp] theorem State.raiseEntry_answer (e : Fin 24) : (s.raiseEntry e).answer = s.answer := by unfold State.raiseEntry; dsimp only; split <;> (try split) <;> simp
@[simp] theorem State.raiseEntry_freeCount (e : Fin 24) : (s.raiseEntry e).freeCount = s.freeCount := by unfold State.raiseEntry; dsimp only; split <;> (try split) <;> simp

/-! ## raiseHousekeeping -/

@[simp] theorem State.raiseHousekeeping_pending (x : RequestSource) (i : Fin 16) : (s.raiseHousekeeping x i).pending = s.pending := by unfold State.raiseHousekeeping; split <;> simp
@[simp] theorem State.raiseHousekeeping_due (x : RequestSource) (i : Fin 16) : (s.raiseHousekeeping x i).due = s.due := by unfold State.raiseHousekeeping; split <;> simp
@[simp] theorem State.raiseHousekeeping_now (x : RequestSource) (i : Fin 16) : (s.raiseHousekeeping x i).now = s.now := by unfold State.raiseHousekeeping; split <;> simp
@[simp] theorem State.raiseHousekeeping_phase (x : RequestSource) (i : Fin 16) : (s.raiseHousekeeping x i).phase = s.phase := by unfold State.raiseHousekeeping; split <;> simp
@[simp] theorem State.raiseHousekeeping_loadTicks (x : RequestSource) (i : Fin 16) : (s.raiseHousekeeping x i).loadTicks = s.loadTicks := by unfold State.raiseHousekeeping; split <;> simp
@[simp] theorem State.raiseHousekeeping_cause (x : RequestSource) (i : Fin 16) : (s.raiseHousekeeping x i).cause = s.cause := by unfold State.raiseHousekeeping; split <;> simp
@[simp] theorem State.raiseHousekeeping_strap (x : RequestSource) (i : Fin 16) : (s.raiseHousekeeping x i).strap = s.strap := by unfold State.raiseHousekeeping; split <;> simp
@[simp] theorem State.raiseHousekeeping_beat (x : RequestSource) (i : Fin 16) : (s.raiseHousekeeping x i).beat = s.beat := by unfold State.raiseHousekeeping; split <;> simp
@[simp] theorem State.raiseHousekeeping_units (x : RequestSource) (i : Fin 16) : (s.raiseHousekeeping x i).units = s.units := by unfold State.raiseHousekeeping; split <;> simp
@[simp] theorem State.raiseHousekeeping_slots (x : RequestSource) (i : Fin 16) : (s.raiseHousekeeping x i).slots = s.slots := by unfold State.raiseHousekeeping; split <;> simp
@[simp] theorem State.raiseHousekeeping_contacts (x : RequestSource) (i : Fin 16) : (s.raiseHousekeeping x i).contacts = s.contacts := by unfold State.raiseHousekeeping; split <;> simp
@[simp] theorem State.raiseHousekeeping_rotation (x : RequestSource) (i : Fin 16) : (s.raiseHousekeeping x i).rotation = s.rotation := by unfold State.raiseHousekeeping; split <;> simp
@[simp] theorem State.raiseHousekeeping_pins (x : RequestSource) (i : Fin 16) : (s.raiseHousekeeping x i).pins = s.pins := by unfold State.raiseHousekeeping; split <;> simp
@[simp] theorem State.raiseHousekeeping_limits (x : RequestSource) (i : Fin 16) : (s.raiseHousekeeping x i).limits = s.limits := by unfold State.raiseHousekeeping; split <;> simp
@[simp] theorem State.raiseHousekeeping_reflex (x : RequestSource) (i : Fin 16) : (s.raiseHousekeeping x i).reflex = s.reflex := by unfold State.raiseHousekeeping; split <;> simp
@[simp] theorem State.raiseHousekeeping_link (x : RequestSource) (i : Fin 16) : (s.raiseHousekeeping x i).link = s.link := by unfold State.raiseHousekeeping; split <;> simp
@[simp] theorem State.raiseHousekeeping_service (x : RequestSource) (i : Fin 16) : (s.raiseHousekeeping x i).service = s.service := by unfold State.raiseHousekeeping; split <;> simp
@[simp] theorem State.raiseHousekeeping_profile (x : RequestSource) (i : Fin 16) : (s.raiseHousekeeping x i).profile = s.profile := by unfold State.raiseHousekeeping; split <;> simp
@[simp] theorem State.raiseHousekeeping_answer (x : RequestSource) (i : Fin 16) : (s.raiseHousekeeping x i).answer = s.answer := by unfold State.raiseHousekeeping; split <;> simp
@[simp] theorem State.raiseHousekeeping_freeCount (x : RequestSource) (i : Fin 16) : (s.raiseHousekeeping x i).freeCount = s.freeCount := by unfold State.raiseHousekeeping; split <;> simp

/-! ## raiseHousekeepingOfBeat -/

@[simp] theorem State.raiseHousekeepingOfBeat_pending : (s.raiseHousekeepingOfBeat).pending = s.pending := by unfold State.raiseHousekeepingOfBeat; split <;> (try split) <;> simp
@[simp] theorem State.raiseHousekeepingOfBeat_due : (s.raiseHousekeepingOfBeat).due = s.due := by unfold State.raiseHousekeepingOfBeat; split <;> (try split) <;> simp
@[simp] theorem State.raiseHousekeepingOfBeat_now : (s.raiseHousekeepingOfBeat).now = s.now := by unfold State.raiseHousekeepingOfBeat; split <;> (try split) <;> simp
@[simp] theorem State.raiseHousekeepingOfBeat_phase : (s.raiseHousekeepingOfBeat).phase = s.phase := by unfold State.raiseHousekeepingOfBeat; split <;> (try split) <;> simp
@[simp] theorem State.raiseHousekeepingOfBeat_loadTicks : (s.raiseHousekeepingOfBeat).loadTicks = s.loadTicks := by unfold State.raiseHousekeepingOfBeat; split <;> (try split) <;> simp
@[simp] theorem State.raiseHousekeepingOfBeat_cause : (s.raiseHousekeepingOfBeat).cause = s.cause := by unfold State.raiseHousekeepingOfBeat; split <;> (try split) <;> simp
@[simp] theorem State.raiseHousekeepingOfBeat_strap : (s.raiseHousekeepingOfBeat).strap = s.strap := by unfold State.raiseHousekeepingOfBeat; split <;> (try split) <;> simp
@[simp] theorem State.raiseHousekeepingOfBeat_beat : (s.raiseHousekeepingOfBeat).beat = s.beat := by unfold State.raiseHousekeepingOfBeat; split <;> (try split) <;> simp
@[simp] theorem State.raiseHousekeepingOfBeat_units : (s.raiseHousekeepingOfBeat).units = s.units := by unfold State.raiseHousekeepingOfBeat; split <;> (try split) <;> simp
@[simp] theorem State.raiseHousekeepingOfBeat_slots : (s.raiseHousekeepingOfBeat).slots = s.slots := by unfold State.raiseHousekeepingOfBeat; split <;> (try split) <;> simp
@[simp] theorem State.raiseHousekeepingOfBeat_contacts : (s.raiseHousekeepingOfBeat).contacts = s.contacts := by unfold State.raiseHousekeepingOfBeat; split <;> (try split) <;> simp
@[simp] theorem State.raiseHousekeepingOfBeat_rotation : (s.raiseHousekeepingOfBeat).rotation = s.rotation := by unfold State.raiseHousekeepingOfBeat; split <;> (try split) <;> simp
@[simp] theorem State.raiseHousekeepingOfBeat_pins : (s.raiseHousekeepingOfBeat).pins = s.pins := by unfold State.raiseHousekeepingOfBeat; split <;> (try split) <;> simp
@[simp] theorem State.raiseHousekeepingOfBeat_limits : (s.raiseHousekeepingOfBeat).limits = s.limits := by unfold State.raiseHousekeepingOfBeat; split <;> (try split) <;> simp
@[simp] theorem State.raiseHousekeepingOfBeat_reflex : (s.raiseHousekeepingOfBeat).reflex = s.reflex := by unfold State.raiseHousekeepingOfBeat; split <;> (try split) <;> simp
@[simp] theorem State.raiseHousekeepingOfBeat_link : (s.raiseHousekeepingOfBeat).link = s.link := by unfold State.raiseHousekeepingOfBeat; split <;> (try split) <;> simp
@[simp] theorem State.raiseHousekeepingOfBeat_service : (s.raiseHousekeepingOfBeat).service = s.service := by unfold State.raiseHousekeepingOfBeat; split <;> (try split) <;> simp
@[simp] theorem State.raiseHousekeepingOfBeat_profile : (s.raiseHousekeepingOfBeat).profile = s.profile := by unfold State.raiseHousekeepingOfBeat; split <;> (try split) <;> simp
@[simp] theorem State.raiseHousekeepingOfBeat_answer : (s.raiseHousekeepingOfBeat).answer = s.answer := by unfold State.raiseHousekeepingOfBeat; split <;> (try split) <;> simp
@[simp] theorem State.raiseHousekeepingOfBeat_freeCount : (s.raiseHousekeepingOfBeat).freeCount = s.freeCount := by unfold State.raiseHousekeepingOfBeat; split <;> (try split) <;> simp

/-! ## flush -/

@[simp] theorem State.flush_pending : (s.flush).pending = s.pending := rfl
@[simp] theorem State.flush_due : (s.flush).due = s.due := rfl
@[simp] theorem State.flush_now : (s.flush).now = s.now := rfl
@[simp] theorem State.flush_phase : (s.flush).phase = s.phase := rfl
@[simp] theorem State.flush_loadTicks : (s.flush).loadTicks = s.loadTicks := rfl
@[simp] theorem State.flush_cause : (s.flush).cause = s.cause := rfl
@[simp] theorem State.flush_strap : (s.flush).strap = s.strap := rfl
@[simp] theorem State.flush_beat : (s.flush).beat = s.beat := rfl
@[simp] theorem State.flush_units : (s.flush).units = s.units := rfl
@[simp] theorem State.flush_slots : (s.flush).slots = s.slots := rfl
@[simp] theorem State.flush_contacts : (s.flush).contacts = s.contacts := rfl
@[simp] theorem State.flush_rotation : (s.flush).rotation = s.rotation := rfl
@[simp] theorem State.flush_pins : (s.flush).pins = s.pins := rfl
@[simp] theorem State.flush_limits : (s.flush).limits = s.limits := rfl
@[simp] theorem State.flush_reflex : (s.flush).reflex = s.reflex := rfl
@[simp] theorem State.flush_status : (s.flush).status = s.status := rfl
@[simp] theorem State.flush_link : (s.flush).link = s.link := rfl
@[simp] theorem State.flush_service : (s.flush).service = s.service := rfl
@[simp] theorem State.flush_profile : (s.flush).profile = s.profile := rfl
@[simp] theorem State.flush_answer : (s.flush).answer = s.answer := rfl
@[simp] theorem State.flush_freeCount : (s.flush).freeCount = s.freeCount := rfl

/-! ## plan -/

@[simp] theorem State.plan_pending : (s.plan).pending = s.pending := rfl
@[simp] theorem State.plan_due : (s.plan).due = s.due := rfl
@[simp] theorem State.plan_now : (s.plan).now = s.now := rfl
@[simp] theorem State.plan_phase : (s.plan).phase = s.phase := rfl
@[simp] theorem State.plan_loadTicks : (s.plan).loadTicks = s.loadTicks := rfl
@[simp] theorem State.plan_cause : (s.plan).cause = s.cause := rfl
@[simp] theorem State.plan_strap : (s.plan).strap = s.strap := rfl
@[simp] theorem State.plan_beat : (s.plan).beat = s.beat := rfl
@[simp] theorem State.plan_units : (s.plan).units = s.units := rfl
@[simp] theorem State.plan_slots : (s.plan).slots = s.slots := rfl
@[simp] theorem State.plan_contacts : (s.plan).contacts = s.contacts := rfl
@[simp] theorem State.plan_rotation : (s.plan).rotation = s.rotation := rfl
@[simp] theorem State.plan_pins : (s.plan).pins = s.pins := rfl
@[simp] theorem State.plan_limits : (s.plan).limits = s.limits := rfl
@[simp] theorem State.plan_reflex : (s.plan).reflex = s.reflex := rfl
@[simp] theorem State.plan_status : (s.plan).status = s.status := rfl
@[simp] theorem State.plan_link : (s.plan).link = s.link := rfl
@[simp] theorem State.plan_service : (s.plan).service = s.service := rfl
@[simp] theorem State.plan_profile : (s.plan).profile = s.profile := rfl
@[simp] theorem State.plan_answer : (s.plan).answer = s.answer := rfl
@[simp] theorem State.plan_freeCount : (s.plan).freeCount = s.freeCount := rfl

/-! ## raiseAll -/

theorem State.raiseAll_pending (l : List (Fin 24)) : (s.raiseAll l).pending = s.pending := by
  induction l generalizing s with
  | nil => rfl
  | cons e l ih => simp only [State.raiseAll, List.foldl_cons] at ih ⊢; rw [ih]; simp
theorem State.raiseAll_due (l : List (Fin 24)) : (s.raiseAll l).due = s.due := by
  induction l generalizing s with
  | nil => rfl
  | cons e l ih => simp only [State.raiseAll, List.foldl_cons] at ih ⊢; rw [ih]; simp
theorem State.raiseAll_now (l : List (Fin 24)) : (s.raiseAll l).now = s.now := by
  induction l generalizing s with
  | nil => rfl
  | cons e l ih => simp only [State.raiseAll, List.foldl_cons] at ih ⊢; rw [ih]; simp
theorem State.raiseAll_phase (l : List (Fin 24)) : (s.raiseAll l).phase = s.phase := by
  induction l generalizing s with
  | nil => rfl
  | cons e l ih => simp only [State.raiseAll, List.foldl_cons] at ih ⊢; rw [ih]; simp
theorem State.raiseAll_loadTicks (l : List (Fin 24)) : (s.raiseAll l).loadTicks = s.loadTicks := by
  induction l generalizing s with
  | nil => rfl
  | cons e l ih => simp only [State.raiseAll, List.foldl_cons] at ih ⊢; rw [ih]; simp
theorem State.raiseAll_cause (l : List (Fin 24)) : (s.raiseAll l).cause = s.cause := by
  induction l generalizing s with
  | nil => rfl
  | cons e l ih => simp only [State.raiseAll, List.foldl_cons] at ih ⊢; rw [ih]; simp
theorem State.raiseAll_strap (l : List (Fin 24)) : (s.raiseAll l).strap = s.strap := by
  induction l generalizing s with
  | nil => rfl
  | cons e l ih => simp only [State.raiseAll, List.foldl_cons] at ih ⊢; rw [ih]; simp
theorem State.raiseAll_beat (l : List (Fin 24)) : (s.raiseAll l).beat = s.beat := by
  induction l generalizing s with
  | nil => rfl
  | cons e l ih => simp only [State.raiseAll, List.foldl_cons] at ih ⊢; rw [ih]; simp
theorem State.raiseAll_units (l : List (Fin 24)) : (s.raiseAll l).units = s.units := by
  induction l generalizing s with
  | nil => rfl
  | cons e l ih => simp only [State.raiseAll, List.foldl_cons] at ih ⊢; rw [ih]; simp
theorem State.raiseAll_slots (l : List (Fin 24)) : (s.raiseAll l).slots = s.slots := by
  induction l generalizing s with
  | nil => rfl
  | cons e l ih => simp only [State.raiseAll, List.foldl_cons] at ih ⊢; rw [ih]; simp
theorem State.raiseAll_contacts (l : List (Fin 24)) : (s.raiseAll l).contacts = s.contacts := by
  induction l generalizing s with
  | nil => rfl
  | cons e l ih => simp only [State.raiseAll, List.foldl_cons] at ih ⊢; rw [ih]; simp
theorem State.raiseAll_rotation (l : List (Fin 24)) : (s.raiseAll l).rotation = s.rotation := by
  induction l generalizing s with
  | nil => rfl
  | cons e l ih => simp only [State.raiseAll, List.foldl_cons] at ih ⊢; rw [ih]; simp
theorem State.raiseAll_pins (l : List (Fin 24)) : (s.raiseAll l).pins = s.pins := by
  induction l generalizing s with
  | nil => rfl
  | cons e l ih => simp only [State.raiseAll, List.foldl_cons] at ih ⊢; rw [ih]; simp
theorem State.raiseAll_limits (l : List (Fin 24)) : (s.raiseAll l).limits = s.limits := by
  induction l generalizing s with
  | nil => rfl
  | cons e l ih => simp only [State.raiseAll, List.foldl_cons] at ih ⊢; rw [ih]; simp
theorem State.raiseAll_reflex (l : List (Fin 24)) : (s.raiseAll l).reflex = s.reflex := by
  induction l generalizing s with
  | nil => rfl
  | cons e l ih => simp only [State.raiseAll, List.foldl_cons] at ih ⊢; rw [ih]; simp
theorem State.raiseAll_link (l : List (Fin 24)) : (s.raiseAll l).link = s.link := by
  induction l generalizing s with
  | nil => rfl
  | cons e l ih => simp only [State.raiseAll, List.foldl_cons] at ih ⊢; rw [ih]; simp
theorem State.raiseAll_service (l : List (Fin 24)) : (s.raiseAll l).service = s.service := by
  induction l generalizing s with
  | nil => rfl
  | cons e l ih => simp only [State.raiseAll, List.foldl_cons] at ih ⊢; rw [ih]; simp
theorem State.raiseAll_profile (l : List (Fin 24)) : (s.raiseAll l).profile = s.profile := by
  induction l generalizing s with
  | nil => rfl
  | cons e l ih => simp only [State.raiseAll, List.foldl_cons] at ih ⊢; rw [ih]; simp
theorem State.raiseAll_answer (l : List (Fin 24)) : (s.raiseAll l).answer = s.answer := by
  induction l generalizing s with
  | nil => rfl
  | cons e l ih => simp only [State.raiseAll, List.foldl_cons] at ih ⊢; rw [ih]; simp
theorem State.raiseAll_freeCount (l : List (Fin 24)) : (s.raiseAll l).freeCount = s.freeCount := by
  induction l generalizing s with
  | nil => rfl
  | cons e l ih => simp only [State.raiseAll, List.foldl_cons] at ih ⊢; rw [ih]; simp

/-! ## openScan -/

@[simp] theorem State.openScan_pending : (s.openScan).pending = s.pending := by simp [State.openScan, State.raiseAll_pending]
@[simp] theorem State.openScan_due : (s.openScan).due = s.due := by simp [State.openScan, State.raiseAll_due]
@[simp] theorem State.openScan_now : (s.openScan).now = s.now := by simp [State.openScan, State.raiseAll_now]
@[simp] theorem State.openScan_phase : (s.openScan).phase = s.phase := by simp [State.openScan, State.raiseAll_phase]
@[simp] theorem State.openScan_loadTicks : (s.openScan).loadTicks = s.loadTicks := by simp [State.openScan, State.raiseAll_loadTicks]
@[simp] theorem State.openScan_cause : (s.openScan).cause = s.cause := by simp [State.openScan, State.raiseAll_cause]
@[simp] theorem State.openScan_strap : (s.openScan).strap = s.strap := by simp [State.openScan, State.raiseAll_strap]
@[simp] theorem State.openScan_beat : (s.openScan).beat = s.beat := by simp [State.openScan, State.raiseAll_beat]
@[simp] theorem State.openScan_units : (s.openScan).units = s.units := by simp [State.openScan, State.raiseAll_units]
@[simp] theorem State.openScan_slots : (s.openScan).slots = s.slots := by simp [State.openScan, State.raiseAll_slots]
@[simp] theorem State.openScan_contacts : (s.openScan).contacts = s.contacts := by simp [State.openScan, State.raiseAll_contacts]
@[simp] theorem State.openScan_rotation : (s.openScan).rotation = s.rotation := by simp [State.openScan, State.raiseAll_rotation]
@[simp] theorem State.openScan_pins : (s.openScan).pins = s.pins := by simp [State.openScan, State.raiseAll_pins]
@[simp] theorem State.openScan_limits : (s.openScan).limits = s.limits := by simp [State.openScan, State.raiseAll_limits]
@[simp] theorem State.openScan_reflex : (s.openScan).reflex = s.reflex := by simp [State.openScan, State.raiseAll_reflex]
@[simp] theorem State.openScan_link : (s.openScan).link = s.link := by simp [State.openScan, State.raiseAll_link]
@[simp] theorem State.openScan_service : (s.openScan).service = s.service := by simp [State.openScan, State.raiseAll_service]
@[simp] theorem State.openScan_profile : (s.openScan).profile = s.profile := by simp [State.openScan, State.raiseAll_profile]
@[simp] theorem State.openScan_answer : (s.openScan).answer = s.answer := by simp [State.openScan, State.raiseAll_answer]
@[simp] theorem State.openScan_freeCount : (s.openScan).freeCount = s.freeCount := by simp [State.openScan, State.raiseAll_freeCount]

/-! ## requalify -/

@[simp] theorem State.requalify_pending : (s.requalify).pending = s.pending := rfl
@[simp] theorem State.requalify_due : (s.requalify).due = s.due := rfl
@[simp] theorem State.requalify_now : (s.requalify).now = s.now := rfl
@[simp] theorem State.requalify_phase : (s.requalify).phase = s.phase := rfl
@[simp] theorem State.requalify_loadTicks : (s.requalify).loadTicks = s.loadTicks := rfl
@[simp] theorem State.requalify_cause : (s.requalify).cause = s.cause := rfl
@[simp] theorem State.requalify_strap : (s.requalify).strap = s.strap := rfl
@[simp] theorem State.requalify_beat : (s.requalify).beat = s.beat := rfl
@[simp] theorem State.requalify_units : (s.requalify).units = s.units := rfl
@[simp] theorem State.requalify_scan : (s.requalify).scan = s.scan := rfl
@[simp] theorem State.requalify_slots : (s.requalify).slots = s.slots := rfl
@[simp] theorem State.requalify_contacts : (s.requalify).contacts = s.contacts := rfl
@[simp] theorem State.requalify_pins : (s.requalify).pins = s.pins := rfl
@[simp] theorem State.requalify_reflex : (s.requalify).reflex = s.reflex := rfl
@[simp] theorem State.requalify_status : (s.requalify).status = s.status := rfl
@[simp] theorem State.requalify_link : (s.requalify).link = s.link := rfl
@[simp] theorem State.requalify_service : (s.requalify).service = s.service := rfl
@[simp] theorem State.requalify_profile : (s.requalify).profile = s.profile := rfl
@[simp] theorem State.requalify_answer : (s.requalify).answer = s.answer := rfl
@[simp] theorem State.requalify_freeCount : (s.requalify).freeCount = s.freeCount := rfl

/-! ## followSources -/

@[simp] theorem State.followSources_pending (b : Bank Bool 31) : (s.followSources b).pending = s.pending := by simp [State.followSources]
@[simp] theorem State.followSources_due (b : Bank Bool 31) : (s.followSources b).due = s.due := by simp [State.followSources]
@[simp] theorem State.followSources_now (b : Bank Bool 31) : (s.followSources b).now = s.now := by simp [State.followSources]
@[simp] theorem State.followSources_phase (b : Bank Bool 31) : (s.followSources b).phase = s.phase := by simp [State.followSources]
@[simp] theorem State.followSources_loadTicks (b : Bank Bool 31) : (s.followSources b).loadTicks = s.loadTicks := by simp [State.followSources]
@[simp] theorem State.followSources_cause (b : Bank Bool 31) : (s.followSources b).cause = s.cause := by simp [State.followSources]
@[simp] theorem State.followSources_strap (b : Bank Bool 31) : (s.followSources b).strap = s.strap := by simp [State.followSources]
@[simp] theorem State.followSources_beat (b : Bank Bool 31) : (s.followSources b).beat = s.beat := by simp [State.followSources]
@[simp] theorem State.followSources_units (b : Bank Bool 31) : (s.followSources b).units = s.units := by simp [State.followSources]
@[simp] theorem State.followSources_scan (b : Bank Bool 31) : (s.followSources b).scan = s.scan := by simp [State.followSources]
@[simp] theorem State.followSources_slots (b : Bank Bool 31) : (s.followSources b).slots = s.slots := by simp [State.followSources]
@[simp] theorem State.followSources_contacts (b : Bank Bool 31) : (s.followSources b).contacts = s.contacts := by simp [State.followSources]
@[simp] theorem State.followSources_rotation (b : Bank Bool 31) : (s.followSources b).rotation = s.rotation := by simp [State.followSources]
@[simp] theorem State.followSources_pins (b : Bank Bool 31) : (s.followSources b).pins = s.pins := by simp [State.followSources]
@[simp] theorem State.followSources_limits (b : Bank Bool 31) : (s.followSources b).limits = s.limits := by simp [State.followSources]
@[simp] theorem State.followSources_link (b : Bank Bool 31) : (s.followSources b).link = s.link := by simp [State.followSources]
@[simp] theorem State.followSources_service (b : Bank Bool 31) : (s.followSources b).service = s.service := by simp [State.followSources]
@[simp] theorem State.followSources_profile (b : Bank Bool 31) : (s.followSources b).profile = s.profile := by simp [State.followSources]
@[simp] theorem State.followSources_answer (b : Bank Bool 31) : (s.followSources b).answer = s.answer := by simp [State.followSources]
@[simp] theorem State.followSources_freeCount (b : Bank Bool 31) : (s.followSources b).freeCount = s.freeCount := by simp [State.followSources]

/-! ## formHolds -/

@[simp] theorem State.formHolds_pending : (s.formHolds).pending = s.pending := rfl
@[simp] theorem State.formHolds_due : (s.formHolds).due = s.due := rfl
@[simp] theorem State.formHolds_now : (s.formHolds).now = s.now := rfl
@[simp] theorem State.formHolds_phase : (s.formHolds).phase = s.phase := rfl
@[simp] theorem State.formHolds_loadTicks : (s.formHolds).loadTicks = s.loadTicks := rfl
@[simp] theorem State.formHolds_cause : (s.formHolds).cause = s.cause := rfl
@[simp] theorem State.formHolds_strap : (s.formHolds).strap = s.strap := rfl
@[simp] theorem State.formHolds_beat : (s.formHolds).beat = s.beat := rfl
@[simp] theorem State.formHolds_scan : (s.formHolds).scan = s.scan := rfl
@[simp] theorem State.formHolds_slots : (s.formHolds).slots = s.slots := rfl
@[simp] theorem State.formHolds_contacts : (s.formHolds).contacts = s.contacts := rfl
@[simp] theorem State.formHolds_rotation : (s.formHolds).rotation = s.rotation := rfl
@[simp] theorem State.formHolds_pins : (s.formHolds).pins = s.pins := rfl
@[simp] theorem State.formHolds_limits : (s.formHolds).limits = s.limits := rfl
@[simp] theorem State.formHolds_status : (s.formHolds).status = s.status := rfl
@[simp] theorem State.formHolds_link : (s.formHolds).link = s.link := rfl
@[simp] theorem State.formHolds_service : (s.formHolds).service = s.service := rfl
@[simp] theorem State.formHolds_profile : (s.formHolds).profile = s.profile := rfl
@[simp] theorem State.formHolds_answer : (s.formHolds).answer = s.answer := rfl
@[simp] theorem State.formHolds_freeCount : (s.formHolds).freeCount = s.freeCount := rfl

/-! ## settleRound -/

@[simp] theorem State.settleRound_pending (b : Bank Bool 31) : (s.settleRound b).pending = s.pending := by simp [State.settleRound]
@[simp] theorem State.settleRound_due (b : Bank Bool 31) : (s.settleRound b).due = s.due := by simp [State.settleRound]
@[simp] theorem State.settleRound_now (b : Bank Bool 31) : (s.settleRound b).now = s.now := by simp [State.settleRound]
@[simp] theorem State.settleRound_phase (b : Bank Bool 31) : (s.settleRound b).phase = s.phase := by simp [State.settleRound]
@[simp] theorem State.settleRound_loadTicks (b : Bank Bool 31) : (s.settleRound b).loadTicks = s.loadTicks := by simp [State.settleRound]
@[simp] theorem State.settleRound_cause (b : Bank Bool 31) : (s.settleRound b).cause = s.cause := by simp [State.settleRound]
@[simp] theorem State.settleRound_strap (b : Bank Bool 31) : (s.settleRound b).strap = s.strap := by simp [State.settleRound]
@[simp] theorem State.settleRound_beat (b : Bank Bool 31) : (s.settleRound b).beat = s.beat := by simp [State.settleRound]
@[simp] theorem State.settleRound_scan (b : Bank Bool 31) : (s.settleRound b).scan = s.scan := by simp [State.settleRound]
@[simp] theorem State.settleRound_slots (b : Bank Bool 31) : (s.settleRound b).slots = s.slots := by simp [State.settleRound]
@[simp] theorem State.settleRound_contacts (b : Bank Bool 31) : (s.settleRound b).contacts = s.contacts := by simp [State.settleRound]
@[simp] theorem State.settleRound_pins (b : Bank Bool 31) : (s.settleRound b).pins = s.pins := by simp [State.settleRound]
@[simp] theorem State.settleRound_link (b : Bank Bool 31) : (s.settleRound b).link = s.link := by simp [State.settleRound]
@[simp] theorem State.settleRound_service (b : Bank Bool 31) : (s.settleRound b).service = s.service := by simp [State.settleRound]
@[simp] theorem State.settleRound_profile (b : Bank Bool 31) : (s.settleRound b).profile = s.profile := by simp [State.settleRound]
@[simp] theorem State.settleRound_answer (b : Bank Bool 31) : (s.settleRound b).answer = s.answer := by simp [State.settleRound]
@[simp] theorem State.settleRound_freeCount (b : Bank Bool 31) : (s.settleRound b).freeCount = s.freeCount := by simp [State.settleRound]

/-! ## settleFuel -/

@[simp] theorem State.settleFuel_pending (k : Nat) (b : Bank Bool 31) : (s.settleFuel k b).pending = s.pending := by
  induction k generalizing s b with
  | zero => rfl
  | succ k ih => unfold State.settleFuel; dsimp only; split <;> simp [ih]
@[simp] theorem State.settleFuel_due (k : Nat) (b : Bank Bool 31) : (s.settleFuel k b).due = s.due := by
  induction k generalizing s b with
  | zero => rfl
  | succ k ih => unfold State.settleFuel; dsimp only; split <;> simp [ih]
@[simp] theorem State.settleFuel_now (k : Nat) (b : Bank Bool 31) : (s.settleFuel k b).now = s.now := by
  induction k generalizing s b with
  | zero => rfl
  | succ k ih => unfold State.settleFuel; dsimp only; split <;> simp [ih]
@[simp] theorem State.settleFuel_phase (k : Nat) (b : Bank Bool 31) : (s.settleFuel k b).phase = s.phase := by
  induction k generalizing s b with
  | zero => rfl
  | succ k ih => unfold State.settleFuel; dsimp only; split <;> simp [ih]
@[simp] theorem State.settleFuel_loadTicks (k : Nat) (b : Bank Bool 31) : (s.settleFuel k b).loadTicks = s.loadTicks := by
  induction k generalizing s b with
  | zero => rfl
  | succ k ih => unfold State.settleFuel; dsimp only; split <;> simp [ih]
@[simp] theorem State.settleFuel_cause (k : Nat) (b : Bank Bool 31) : (s.settleFuel k b).cause = s.cause := by
  induction k generalizing s b with
  | zero => rfl
  | succ k ih => unfold State.settleFuel; dsimp only; split <;> simp [ih]
@[simp] theorem State.settleFuel_strap (k : Nat) (b : Bank Bool 31) : (s.settleFuel k b).strap = s.strap := by
  induction k generalizing s b with
  | zero => rfl
  | succ k ih => unfold State.settleFuel; dsimp only; split <;> simp [ih]
@[simp] theorem State.settleFuel_beat (k : Nat) (b : Bank Bool 31) : (s.settleFuel k b).beat = s.beat := by
  induction k generalizing s b with
  | zero => rfl
  | succ k ih => unfold State.settleFuel; dsimp only; split <;> simp [ih]
@[simp] theorem State.settleFuel_scan (k : Nat) (b : Bank Bool 31) : (s.settleFuel k b).scan = s.scan := by
  induction k generalizing s b with
  | zero => rfl
  | succ k ih => unfold State.settleFuel; dsimp only; split <;> simp [ih]
@[simp] theorem State.settleFuel_slots (k : Nat) (b : Bank Bool 31) : (s.settleFuel k b).slots = s.slots := by
  induction k generalizing s b with
  | zero => rfl
  | succ k ih => unfold State.settleFuel; dsimp only; split <;> simp [ih]
@[simp] theorem State.settleFuel_contacts (k : Nat) (b : Bank Bool 31) : (s.settleFuel k b).contacts = s.contacts := by
  induction k generalizing s b with
  | zero => rfl
  | succ k ih => unfold State.settleFuel; dsimp only; split <;> simp [ih]
@[simp] theorem State.settleFuel_pins (k : Nat) (b : Bank Bool 31) : (s.settleFuel k b).pins = s.pins := by
  induction k generalizing s b with
  | zero => rfl
  | succ k ih => unfold State.settleFuel; dsimp only; split <;> simp [ih]
@[simp] theorem State.settleFuel_link (k : Nat) (b : Bank Bool 31) : (s.settleFuel k b).link = s.link := by
  induction k generalizing s b with
  | zero => rfl
  | succ k ih => unfold State.settleFuel; dsimp only; split <;> simp [ih]
@[simp] theorem State.settleFuel_service (k : Nat) (b : Bank Bool 31) : (s.settleFuel k b).service = s.service := by
  induction k generalizing s b with
  | zero => rfl
  | succ k ih => unfold State.settleFuel; dsimp only; split <;> simp [ih]
@[simp] theorem State.settleFuel_profile (k : Nat) (b : Bank Bool 31) : (s.settleFuel k b).profile = s.profile := by
  induction k generalizing s b with
  | zero => rfl
  | succ k ih => unfold State.settleFuel; dsimp only; split <;> simp [ih]
@[simp] theorem State.settleFuel_answer (k : Nat) (b : Bank Bool 31) : (s.settleFuel k b).answer = s.answer := by
  induction k generalizing s b with
  | zero => rfl
  | succ k ih => unfold State.settleFuel; dsimp only; split <;> simp [ih]
@[simp] theorem State.settleFuel_freeCount (k : Nat) (b : Bank Bool 31) : (s.settleFuel k b).freeCount = s.freeCount := by
  induction k generalizing s b with
  | zero => rfl
  | succ k ih => unfold State.settleFuel; dsimp only; split <;> simp [ih]

/-! ## settle -/

@[simp] theorem State.settle_pending (b : Bank Bool 31) : (s.settle b).pending = s.pending := by simp [State.settle]
@[simp] theorem State.settle_due (b : Bank Bool 31) : (s.settle b).due = s.due := by simp [State.settle]
@[simp] theorem State.settle_now (b : Bank Bool 31) : (s.settle b).now = s.now := by simp [State.settle]
@[simp] theorem State.settle_phase (b : Bank Bool 31) : (s.settle b).phase = s.phase := by simp [State.settle]
@[simp] theorem State.settle_loadTicks (b : Bank Bool 31) : (s.settle b).loadTicks = s.loadTicks := by simp [State.settle]
@[simp] theorem State.settle_cause (b : Bank Bool 31) : (s.settle b).cause = s.cause := by simp [State.settle]
@[simp] theorem State.settle_strap (b : Bank Bool 31) : (s.settle b).strap = s.strap := by simp [State.settle]
@[simp] theorem State.settle_beat (b : Bank Bool 31) : (s.settle b).beat = s.beat := by simp [State.settle]
@[simp] theorem State.settle_scan (b : Bank Bool 31) : (s.settle b).scan = s.scan := by simp [State.settle]
@[simp] theorem State.settle_slots (b : Bank Bool 31) : (s.settle b).slots = s.slots := by simp [State.settle]
@[simp] theorem State.settle_contacts (b : Bank Bool 31) : (s.settle b).contacts = s.contacts := by simp [State.settle]
@[simp] theorem State.settle_pins (b : Bank Bool 31) : (s.settle b).pins = s.pins := by simp [State.settle]
@[simp] theorem State.settle_link (b : Bank Bool 31) : (s.settle b).link = s.link := by simp [State.settle]
@[simp] theorem State.settle_service (b : Bank Bool 31) : (s.settle b).service = s.service := by simp [State.settle]
@[simp] theorem State.settle_profile (b : Bank Bool 31) : (s.settle b).profile = s.profile := by simp [State.settle]
@[simp] theorem State.settle_answer (b : Bank Bool 31) : (s.settle b).answer = s.answer := by simp [State.settle]
@[simp] theorem State.settle_freeCount (b : Bank Bool 31) : (s.settle b).freeCount = s.freeCount := by simp [State.settle]

/-! ## storeToLimits -/

@[simp] theorem State.storeToLimits_pending (n : Fin 26) (v : Nat) : (s.storeToLimits n v).pending = s.pending := by simp [State.storeToLimits]
@[simp] theorem State.storeToLimits_due (n : Fin 26) (v : Nat) : (s.storeToLimits n v).due = s.due := by simp [State.storeToLimits]
@[simp] theorem State.storeToLimits_now (n : Fin 26) (v : Nat) : (s.storeToLimits n v).now = s.now := by simp [State.storeToLimits]
@[simp] theorem State.storeToLimits_phase (n : Fin 26) (v : Nat) : (s.storeToLimits n v).phase = s.phase := by simp [State.storeToLimits]
@[simp] theorem State.storeToLimits_loadTicks (n : Fin 26) (v : Nat) : (s.storeToLimits n v).loadTicks = s.loadTicks := by simp [State.storeToLimits]
@[simp] theorem State.storeToLimits_cause (n : Fin 26) (v : Nat) : (s.storeToLimits n v).cause = s.cause := by simp [State.storeToLimits]
@[simp] theorem State.storeToLimits_strap (n : Fin 26) (v : Nat) : (s.storeToLimits n v).strap = s.strap := by simp [State.storeToLimits]
@[simp] theorem State.storeToLimits_beat (n : Fin 26) (v : Nat) : (s.storeToLimits n v).beat = s.beat := by simp [State.storeToLimits]
@[simp] theorem State.storeToLimits_units (n : Fin 26) (v : Nat) : (s.storeToLimits n v).units = s.units := by simp [State.storeToLimits]
@[simp] theorem State.storeToLimits_scan (n : Fin 26) (v : Nat) : (s.storeToLimits n v).scan = s.scan := by simp [State.storeToLimits]
@[simp] theorem State.storeToLimits_slots (n : Fin 26) (v : Nat) : (s.storeToLimits n v).slots = s.slots := by simp [State.storeToLimits]
@[simp] theorem State.storeToLimits_contacts (n : Fin 26) (v : Nat) : (s.storeToLimits n v).contacts = s.contacts := by simp [State.storeToLimits]
@[simp] theorem State.storeToLimits_rotation (n : Fin 26) (v : Nat) : (s.storeToLimits n v).rotation = s.rotation := by simp [State.storeToLimits]
@[simp] theorem State.storeToLimits_pins (n : Fin 26) (v : Nat) : (s.storeToLimits n v).pins = s.pins := by simp [State.storeToLimits]
@[simp] theorem State.storeToLimits_reflex (n : Fin 26) (v : Nat) : (s.storeToLimits n v).reflex = s.reflex := by simp [State.storeToLimits]
@[simp] theorem State.storeToLimits_link (n : Fin 26) (v : Nat) : (s.storeToLimits n v).link = s.link := by simp [State.storeToLimits]
@[simp] theorem State.storeToLimits_service (n : Fin 26) (v : Nat) : (s.storeToLimits n v).service = s.service := by simp [State.storeToLimits]
@[simp] theorem State.storeToLimits_profile (n : Fin 26) (v : Nat) : (s.storeToLimits n v).profile = s.profile := by simp [State.storeToLimits]
@[simp] theorem State.storeToLimits_answer (n : Fin 26) (v : Nat) : (s.storeToLimits n v).answer = s.answer := by simp [State.storeToLimits]
@[simp] theorem State.storeToLimits_freeCount (n : Fin 26) (v : Nat) : (s.storeToLimits n v).freeCount = s.freeCount := by simp [State.storeToLimits]

/-! ## checkTemp -/

@[simp] theorem State.checkTemp_pending (v : Nat) : (s.checkTemp v).pending = s.pending := by unfold State.checkTemp; dsimp only; split <;> simp
@[simp] theorem State.checkTemp_due (v : Nat) : (s.checkTemp v).due = s.due := by unfold State.checkTemp; dsimp only; split <;> simp
@[simp] theorem State.checkTemp_now (v : Nat) : (s.checkTemp v).now = s.now := by unfold State.checkTemp; dsimp only; split <;> simp
@[simp] theorem State.checkTemp_phase (v : Nat) : (s.checkTemp v).phase = s.phase := by unfold State.checkTemp; dsimp only; split <;> simp
@[simp] theorem State.checkTemp_loadTicks (v : Nat) : (s.checkTemp v).loadTicks = s.loadTicks := by unfold State.checkTemp; dsimp only; split <;> simp
@[simp] theorem State.checkTemp_cause (v : Nat) : (s.checkTemp v).cause = s.cause := by unfold State.checkTemp; dsimp only; split <;> simp
@[simp] theorem State.checkTemp_strap (v : Nat) : (s.checkTemp v).strap = s.strap := by unfold State.checkTemp; dsimp only; split <;> simp
@[simp] theorem State.checkTemp_beat (v : Nat) : (s.checkTemp v).beat = s.beat := by unfold State.checkTemp; dsimp only; split <;> simp
@[simp] theorem State.checkTemp_units (v : Nat) : (s.checkTemp v).units = s.units := by unfold State.checkTemp; dsimp only; split <;> simp
@[simp] theorem State.checkTemp_scan (v : Nat) : (s.checkTemp v).scan = s.scan := by unfold State.checkTemp; dsimp only; split <;> simp
@[simp] theorem State.checkTemp_slots (v : Nat) : (s.checkTemp v).slots = s.slots := by unfold State.checkTemp; dsimp only; split <;> simp
@[simp] theorem State.checkTemp_contacts (v : Nat) : (s.checkTemp v).contacts = s.contacts := by unfold State.checkTemp; dsimp only; split <;> simp
@[simp] theorem State.checkTemp_rotation (v : Nat) : (s.checkTemp v).rotation = s.rotation := by unfold State.checkTemp; dsimp only; split <;> simp
@[simp] theorem State.checkTemp_pins (v : Nat) : (s.checkTemp v).pins = s.pins := by unfold State.checkTemp; dsimp only; split <;> simp
@[simp] theorem State.checkTemp_link (v : Nat) : (s.checkTemp v).link = s.link := by unfold State.checkTemp; dsimp only; split <;> simp
@[simp] theorem State.checkTemp_service (v : Nat) : (s.checkTemp v).service = s.service := by unfold State.checkTemp; dsimp only; split <;> simp
@[simp] theorem State.checkTemp_profile (v : Nat) : (s.checkTemp v).profile = s.profile := by unfold State.checkTemp; dsimp only; split <;> simp
@[simp] theorem State.checkTemp_answer (v : Nat) : (s.checkTemp v).answer = s.answer := by unfold State.checkTemp; dsimp only; split <;> simp
@[simp] theorem State.checkTemp_freeCount (v : Nat) : (s.checkTemp v).freeCount = s.freeCount := by unfold State.checkTemp; dsimp only; split <;> simp

/-! ## checkSupply -/

@[simp] theorem State.checkSupply_pending (v : Nat) : (s.checkSupply v).pending = s.pending := by unfold State.checkSupply; dsimp only; split <;> (try split) <;> simp
@[simp] theorem State.checkSupply_due (v : Nat) : (s.checkSupply v).due = s.due := by unfold State.checkSupply; dsimp only; split <;> (try split) <;> simp
@[simp] theorem State.checkSupply_now (v : Nat) : (s.checkSupply v).now = s.now := by unfold State.checkSupply; dsimp only; split <;> (try split) <;> simp
@[simp] theorem State.checkSupply_phase (v : Nat) : (s.checkSupply v).phase = s.phase := by unfold State.checkSupply; dsimp only; split <;> (try split) <;> simp
@[simp] theorem State.checkSupply_loadTicks (v : Nat) : (s.checkSupply v).loadTicks = s.loadTicks := by unfold State.checkSupply; dsimp only; split <;> (try split) <;> simp
@[simp] theorem State.checkSupply_cause (v : Nat) : (s.checkSupply v).cause = s.cause := by unfold State.checkSupply; dsimp only; split <;> (try split) <;> simp
@[simp] theorem State.checkSupply_strap (v : Nat) : (s.checkSupply v).strap = s.strap := by unfold State.checkSupply; dsimp only; split <;> (try split) <;> simp
@[simp] theorem State.checkSupply_beat (v : Nat) : (s.checkSupply v).beat = s.beat := by unfold State.checkSupply; dsimp only; split <;> (try split) <;> simp
@[simp] theorem State.checkSupply_units (v : Nat) : (s.checkSupply v).units = s.units := by unfold State.checkSupply; dsimp only; split <;> (try split) <;> simp
@[simp] theorem State.checkSupply_scan (v : Nat) : (s.checkSupply v).scan = s.scan := by unfold State.checkSupply; dsimp only; split <;> (try split) <;> simp
@[simp] theorem State.checkSupply_slots (v : Nat) : (s.checkSupply v).slots = s.slots := by unfold State.checkSupply; dsimp only; split <;> (try split) <;> simp
@[simp] theorem State.checkSupply_contacts (v : Nat) : (s.checkSupply v).contacts = s.contacts := by unfold State.checkSupply; dsimp only; split <;> (try split) <;> simp
@[simp] theorem State.checkSupply_rotation (v : Nat) : (s.checkSupply v).rotation = s.rotation := by unfold State.checkSupply; dsimp only; split <;> (try split) <;> simp
@[simp] theorem State.checkSupply_pins (v : Nat) : (s.checkSupply v).pins = s.pins := by unfold State.checkSupply; dsimp only; split <;> (try split) <;> simp
@[simp] theorem State.checkSupply_link (v : Nat) : (s.checkSupply v).link = s.link := by unfold State.checkSupply; dsimp only; split <;> (try split) <;> simp
@[simp] theorem State.checkSupply_service (v : Nat) : (s.checkSupply v).service = s.service := by unfold State.checkSupply; dsimp only; split <;> (try split) <;> simp
@[simp] theorem State.checkSupply_profile (v : Nat) : (s.checkSupply v).profile = s.profile := by unfold State.checkSupply; dsimp only; split <;> (try split) <;> simp
@[simp] theorem State.checkSupply_answer (v : Nat) : (s.checkSupply v).answer = s.answer := by unfold State.checkSupply; dsimp only; split <;> (try split) <;> simp
@[simp] theorem State.checkSupply_freeCount (v : Nat) : (s.checkSupply v).freeCount = s.freeCount := by unfold State.checkSupply; dsimp only; split <;> (try split) <;> simp

/-! ## storeToChecks -/

@[simp] theorem State.storeToChecks_pending (n : Fin 26) (v : Nat) : (s.storeToChecks n v).pending = s.pending := by unfold State.storeToChecks; split <;> (try split) <;> simp
@[simp] theorem State.storeToChecks_due (n : Fin 26) (v : Nat) : (s.storeToChecks n v).due = s.due := by unfold State.storeToChecks; split <;> (try split) <;> simp
@[simp] theorem State.storeToChecks_now (n : Fin 26) (v : Nat) : (s.storeToChecks n v).now = s.now := by unfold State.storeToChecks; split <;> (try split) <;> simp
@[simp] theorem State.storeToChecks_phase (n : Fin 26) (v : Nat) : (s.storeToChecks n v).phase = s.phase := by unfold State.storeToChecks; split <;> (try split) <;> simp
@[simp] theorem State.storeToChecks_loadTicks (n : Fin 26) (v : Nat) : (s.storeToChecks n v).loadTicks = s.loadTicks := by unfold State.storeToChecks; split <;> (try split) <;> simp
@[simp] theorem State.storeToChecks_cause (n : Fin 26) (v : Nat) : (s.storeToChecks n v).cause = s.cause := by unfold State.storeToChecks; split <;> (try split) <;> simp
@[simp] theorem State.storeToChecks_strap (n : Fin 26) (v : Nat) : (s.storeToChecks n v).strap = s.strap := by unfold State.storeToChecks; split <;> (try split) <;> simp
@[simp] theorem State.storeToChecks_beat (n : Fin 26) (v : Nat) : (s.storeToChecks n v).beat = s.beat := by unfold State.storeToChecks; split <;> (try split) <;> simp
@[simp] theorem State.storeToChecks_units (n : Fin 26) (v : Nat) : (s.storeToChecks n v).units = s.units := by unfold State.storeToChecks; split <;> (try split) <;> simp
@[simp] theorem State.storeToChecks_scan (n : Fin 26) (v : Nat) : (s.storeToChecks n v).scan = s.scan := by unfold State.storeToChecks; split <;> (try split) <;> simp
@[simp] theorem State.storeToChecks_slots (n : Fin 26) (v : Nat) : (s.storeToChecks n v).slots = s.slots := by unfold State.storeToChecks; split <;> (try split) <;> simp
@[simp] theorem State.storeToChecks_contacts (n : Fin 26) (v : Nat) : (s.storeToChecks n v).contacts = s.contacts := by unfold State.storeToChecks; split <;> (try split) <;> simp
@[simp] theorem State.storeToChecks_rotation (n : Fin 26) (v : Nat) : (s.storeToChecks n v).rotation = s.rotation := by unfold State.storeToChecks; split <;> (try split) <;> simp
@[simp] theorem State.storeToChecks_pins (n : Fin 26) (v : Nat) : (s.storeToChecks n v).pins = s.pins := by unfold State.storeToChecks; split <;> (try split) <;> simp
@[simp] theorem State.storeToChecks_link (n : Fin 26) (v : Nat) : (s.storeToChecks n v).link = s.link := by unfold State.storeToChecks; split <;> (try split) <;> simp
@[simp] theorem State.storeToChecks_service (n : Fin 26) (v : Nat) : (s.storeToChecks n v).service = s.service := by unfold State.storeToChecks; split <;> (try split) <;> simp
@[simp] theorem State.storeToChecks_profile (n : Fin 26) (v : Nat) : (s.storeToChecks n v).profile = s.profile := by unfold State.storeToChecks; split <;> (try split) <;> simp
@[simp] theorem State.storeToChecks_answer (n : Fin 26) (v : Nat) : (s.storeToChecks n v).answer = s.answer := by unfold State.storeToChecks; split <;> (try split) <;> simp
@[simp] theorem State.storeToChecks_freeCount (n : Fin 26) (v : Nat) : (s.storeToChecks n v).freeCount = s.freeCount := by unfold State.storeToChecks; split <;> (try split) <;> simp

/-! ## storeToUnits -/

@[simp] theorem State.storeToUnits_pending (n : Fin 26) (v : Nat) : (s.storeToUnits n v).pending = s.pending := rfl
@[simp] theorem State.storeToUnits_due (n : Fin 26) (v : Nat) : (s.storeToUnits n v).due = s.due := rfl
@[simp] theorem State.storeToUnits_now (n : Fin 26) (v : Nat) : (s.storeToUnits n v).now = s.now := rfl
@[simp] theorem State.storeToUnits_phase (n : Fin 26) (v : Nat) : (s.storeToUnits n v).phase = s.phase := rfl
@[simp] theorem State.storeToUnits_loadTicks (n : Fin 26) (v : Nat) : (s.storeToUnits n v).loadTicks = s.loadTicks := rfl
@[simp] theorem State.storeToUnits_cause (n : Fin 26) (v : Nat) : (s.storeToUnits n v).cause = s.cause := rfl
@[simp] theorem State.storeToUnits_strap (n : Fin 26) (v : Nat) : (s.storeToUnits n v).strap = s.strap := rfl
@[simp] theorem State.storeToUnits_beat (n : Fin 26) (v : Nat) : (s.storeToUnits n v).beat = s.beat := rfl
@[simp] theorem State.storeToUnits_scan (n : Fin 26) (v : Nat) : (s.storeToUnits n v).scan = s.scan := rfl
@[simp] theorem State.storeToUnits_slots (n : Fin 26) (v : Nat) : (s.storeToUnits n v).slots = s.slots := rfl
@[simp] theorem State.storeToUnits_contacts (n : Fin 26) (v : Nat) : (s.storeToUnits n v).contacts = s.contacts := rfl
@[simp] theorem State.storeToUnits_rotation (n : Fin 26) (v : Nat) : (s.storeToUnits n v).rotation = s.rotation := rfl
@[simp] theorem State.storeToUnits_pins (n : Fin 26) (v : Nat) : (s.storeToUnits n v).pins = s.pins := rfl
@[simp] theorem State.storeToUnits_limits (n : Fin 26) (v : Nat) : (s.storeToUnits n v).limits = s.limits := rfl
@[simp] theorem State.storeToUnits_reflex (n : Fin 26) (v : Nat) : (s.storeToUnits n v).reflex = s.reflex := rfl
@[simp] theorem State.storeToUnits_status (n : Fin 26) (v : Nat) : (s.storeToUnits n v).status = s.status := rfl
@[simp] theorem State.storeToUnits_link (n : Fin 26) (v : Nat) : (s.storeToUnits n v).link = s.link := rfl
@[simp] theorem State.storeToUnits_service (n : Fin 26) (v : Nat) : (s.storeToUnits n v).service = s.service := rfl
@[simp] theorem State.storeToUnits_profile (n : Fin 26) (v : Nat) : (s.storeToUnits n v).profile = s.profile := rfl
@[simp] theorem State.storeToUnits_answer (n : Fin 26) (v : Nat) : (s.storeToUnits n v).answer = s.answer := rfl
@[simp] theorem State.storeToUnits_freeCount (n : Fin 26) (v : Nat) : (s.storeToUnits n v).freeCount = s.freeCount := rfl

/-! ## storeResult -/

@[simp] theorem State.storeResult_pending (n : Fin 26) (v : Nat) : (s.storeResult n v).pending = s.pending := by simp [State.storeResult]
@[simp] theorem State.storeResult_due (n : Fin 26) (v : Nat) : (s.storeResult n v).due = s.due := by simp [State.storeResult]
@[simp] theorem State.storeResult_now (n : Fin 26) (v : Nat) : (s.storeResult n v).now = s.now := by simp [State.storeResult]
@[simp] theorem State.storeResult_phase (n : Fin 26) (v : Nat) : (s.storeResult n v).phase = s.phase := by simp [State.storeResult]
@[simp] theorem State.storeResult_loadTicks (n : Fin 26) (v : Nat) : (s.storeResult n v).loadTicks = s.loadTicks := by simp [State.storeResult]
@[simp] theorem State.storeResult_cause (n : Fin 26) (v : Nat) : (s.storeResult n v).cause = s.cause := by simp [State.storeResult]
@[simp] theorem State.storeResult_strap (n : Fin 26) (v : Nat) : (s.storeResult n v).strap = s.strap := by simp [State.storeResult]
@[simp] theorem State.storeResult_beat (n : Fin 26) (v : Nat) : (s.storeResult n v).beat = s.beat := by simp [State.storeResult]
@[simp] theorem State.storeResult_scan (n : Fin 26) (v : Nat) : (s.storeResult n v).scan = s.scan := by simp [State.storeResult]
@[simp] theorem State.storeResult_contacts (n : Fin 26) (v : Nat) : (s.storeResult n v).contacts = s.contacts := by simp [State.storeResult]
@[simp] theorem State.storeResult_pins (n : Fin 26) (v : Nat) : (s.storeResult n v).pins = s.pins := by simp [State.storeResult]
@[simp] theorem State.storeResult_link (n : Fin 26) (v : Nat) : (s.storeResult n v).link = s.link := by simp [State.storeResult]
@[simp] theorem State.storeResult_service (n : Fin 26) (v : Nat) : (s.storeResult n v).service = s.service := by simp [State.storeResult]
@[simp] theorem State.storeResult_profile (n : Fin 26) (v : Nat) : (s.storeResult n v).profile = s.profile := by simp [State.storeResult]
@[simp] theorem State.storeResult_answer (n : Fin 26) (v : Nat) : (s.storeResult n v).answer = s.answer := by simp [State.storeResult]
@[simp] theorem State.storeResult_freeCount (n : Fin 26) (v : Nat) : (s.storeResult n v).freeCount = s.freeCount := by simp [State.storeResult]

/-! ## addSample -/

@[simp] theorem State.addSample_pending (e : Fin 24) (c : Nat) : (s.addSample e c).pending = s.pending := by unfold State.addSample; dsimp only; split <;> simp
@[simp] theorem State.addSample_due (e : Fin 24) (c : Nat) : (s.addSample e c).due = s.due := by unfold State.addSample; dsimp only; split <;> simp
@[simp] theorem State.addSample_now (e : Fin 24) (c : Nat) : (s.addSample e c).now = s.now := by unfold State.addSample; dsimp only; split <;> simp
@[simp] theorem State.addSample_phase (e : Fin 24) (c : Nat) : (s.addSample e c).phase = s.phase := by unfold State.addSample; dsimp only; split <;> simp
@[simp] theorem State.addSample_loadTicks (e : Fin 24) (c : Nat) : (s.addSample e c).loadTicks = s.loadTicks := by unfold State.addSample; dsimp only; split <;> simp
@[simp] theorem State.addSample_cause (e : Fin 24) (c : Nat) : (s.addSample e c).cause = s.cause := by unfold State.addSample; dsimp only; split <;> simp
@[simp] theorem State.addSample_strap (e : Fin 24) (c : Nat) : (s.addSample e c).strap = s.strap := by unfold State.addSample; dsimp only; split <;> simp
@[simp] theorem State.addSample_beat (e : Fin 24) (c : Nat) : (s.addSample e c).beat = s.beat := by unfold State.addSample; dsimp only; split <;> simp
@[simp] theorem State.addSample_contacts (e : Fin 24) (c : Nat) : (s.addSample e c).contacts = s.contacts := by unfold State.addSample; dsimp only; split <;> simp
@[simp] theorem State.addSample_pins (e : Fin 24) (c : Nat) : (s.addSample e c).pins = s.pins := by unfold State.addSample; dsimp only; split <;> simp
@[simp] theorem State.addSample_link (e : Fin 24) (c : Nat) : (s.addSample e c).link = s.link := by unfold State.addSample; dsimp only; split <;> simp
@[simp] theorem State.addSample_service (e : Fin 24) (c : Nat) : (s.addSample e c).service = s.service := by unfold State.addSample; dsimp only; split <;> simp
@[simp] theorem State.addSample_profile (e : Fin 24) (c : Nat) : (s.addSample e c).profile = s.profile := by unfold State.addSample; dsimp only; split <;> simp
@[simp] theorem State.addSample_answer (e : Fin 24) (c : Nat) : (s.addSample e c).answer = s.answer := by unfold State.addSample; dsimp only; split <;> simp
@[simp] theorem State.addSample_freeCount (e : Fin 24) (c : Nat) : (s.addSample e c).freeCount = s.freeCount := by unfold State.addSample; dsimp only; split <;> simp

/-! ## deliverSample -/

@[simp] theorem State.deliverSample_pending (r : ScanRequest) (raw : BitVec 12) : (s.deliverSample r raw).pending = s.pending := by unfold State.deliverSample; dsimp only; split <;> simp
@[simp] theorem State.deliverSample_due (r : ScanRequest) (raw : BitVec 12) : (s.deliverSample r raw).due = s.due := by unfold State.deliverSample; dsimp only; split <;> simp
@[simp] theorem State.deliverSample_now (r : ScanRequest) (raw : BitVec 12) : (s.deliverSample r raw).now = s.now := by unfold State.deliverSample; dsimp only; split <;> simp
@[simp] theorem State.deliverSample_phase (r : ScanRequest) (raw : BitVec 12) : (s.deliverSample r raw).phase = s.phase := by unfold State.deliverSample; dsimp only; split <;> simp
@[simp] theorem State.deliverSample_loadTicks (r : ScanRequest) (raw : BitVec 12) : (s.deliverSample r raw).loadTicks = s.loadTicks := by unfold State.deliverSample; dsimp only; split <;> simp
@[simp] theorem State.deliverSample_cause (r : ScanRequest) (raw : BitVec 12) : (s.deliverSample r raw).cause = s.cause := by unfold State.deliverSample; dsimp only; split <;> simp
@[simp] theorem State.deliverSample_strap (r : ScanRequest) (raw : BitVec 12) : (s.deliverSample r raw).strap = s.strap := by unfold State.deliverSample; dsimp only; split <;> simp
@[simp] theorem State.deliverSample_beat (r : ScanRequest) (raw : BitVec 12) : (s.deliverSample r raw).beat = s.beat := by unfold State.deliverSample; dsimp only; split <;> simp
@[simp] theorem State.deliverSample_contacts (r : ScanRequest) (raw : BitVec 12) : (s.deliverSample r raw).contacts = s.contacts := by unfold State.deliverSample; dsimp only; split <;> simp
@[simp] theorem State.deliverSample_pins (r : ScanRequest) (raw : BitVec 12) : (s.deliverSample r raw).pins = s.pins := by unfold State.deliverSample; dsimp only; split <;> simp
@[simp] theorem State.deliverSample_link (r : ScanRequest) (raw : BitVec 12) : (s.deliverSample r raw).link = s.link := by unfold State.deliverSample; dsimp only; split <;> simp
@[simp] theorem State.deliverSample_service (r : ScanRequest) (raw : BitVec 12) : (s.deliverSample r raw).service = s.service := by unfold State.deliverSample; dsimp only; split <;> simp
@[simp] theorem State.deliverSample_profile (r : ScanRequest) (raw : BitVec 12) : (s.deliverSample r raw).profile = s.profile := by unfold State.deliverSample; dsimp only; split <;> simp
@[simp] theorem State.deliverSample_answer (r : ScanRequest) (raw : BitVec 12) : (s.deliverSample r raw).answer = s.answer := by unfold State.deliverSample; dsimp only; split <;> simp
@[simp] theorem State.deliverSample_freeCount (r : ScanRequest) (raw : BitVec 12) : (s.deliverSample r raw).freeCount = s.freeCount := by unfold State.deliverSample; dsimp only; split <;> simp

/-! ## takeMarks -/

@[simp] theorem State.takeMarks_pending (w : BitVec 9) : (s.takeMarks w).pending = s.pending := by simp [State.takeMarks]
@[simp] theorem State.takeMarks_due (w : BitVec 9) : (s.takeMarks w).due = s.due := by simp [State.takeMarks]
@[simp] theorem State.takeMarks_now (w : BitVec 9) : (s.takeMarks w).now = s.now := by simp [State.takeMarks]
@[simp] theorem State.takeMarks_phase (w : BitVec 9) : (s.takeMarks w).phase = s.phase := by simp [State.takeMarks]
@[simp] theorem State.takeMarks_loadTicks (w : BitVec 9) : (s.takeMarks w).loadTicks = s.loadTicks := by simp [State.takeMarks]
@[simp] theorem State.takeMarks_cause (w : BitVec 9) : (s.takeMarks w).cause = s.cause := by simp [State.takeMarks]
@[simp] theorem State.takeMarks_strap (w : BitVec 9) : (s.takeMarks w).strap = s.strap := by simp [State.takeMarks]
@[simp] theorem State.takeMarks_beat (w : BitVec 9) : (s.takeMarks w).beat = s.beat := by simp [State.takeMarks]
@[simp] theorem State.takeMarks_units (w : BitVec 9) : (s.takeMarks w).units = s.units := by simp [State.takeMarks]
@[simp] theorem State.takeMarks_scan (w : BitVec 9) : (s.takeMarks w).scan = s.scan := by simp [State.takeMarks]
@[simp] theorem State.takeMarks_slots (w : BitVec 9) : (s.takeMarks w).slots = s.slots := by simp [State.takeMarks]
@[simp] theorem State.takeMarks_contacts (w : BitVec 9) : (s.takeMarks w).contacts = s.contacts := by simp [State.takeMarks]
@[simp] theorem State.takeMarks_rotation (w : BitVec 9) : (s.takeMarks w).rotation = s.rotation := by simp [State.takeMarks]
@[simp] theorem State.takeMarks_pins (w : BitVec 9) : (s.takeMarks w).pins = s.pins := by simp [State.takeMarks]
@[simp] theorem State.takeMarks_limits (w : BitVec 9) : (s.takeMarks w).limits = s.limits := by simp [State.takeMarks]
@[simp] theorem State.takeMarks_reflex (w : BitVec 9) : (s.takeMarks w).reflex = s.reflex := by simp [State.takeMarks]
@[simp] theorem State.takeMarks_link (w : BitVec 9) : (s.takeMarks w).link = s.link := by simp [State.takeMarks]
@[simp] theorem State.takeMarks_profile (w : BitVec 9) : (s.takeMarks w).profile = s.profile := by simp [State.takeMarks]
@[simp] theorem State.takeMarks_answer (w : BitVec 9) : (s.takeMarks w).answer = s.answer := by simp [State.takeMarks]
@[simp] theorem State.takeMarks_freeCount (w : BitVec 9) : (s.takeMarks w).freeCount = s.freeCount := by simp [State.takeMarks]

/-! ## decideRows -/

@[simp] theorem State.decideRows_pending (o : Tables) : (s.decideRows o).pending = s.pending := by simp [State.decideRows]
@[simp] theorem State.decideRows_due (o : Tables) : (s.decideRows o).due = s.due := by simp [State.decideRows]
@[simp] theorem State.decideRows_now (o : Tables) : (s.decideRows o).now = s.now := by simp [State.decideRows]
@[simp] theorem State.decideRows_phase (o : Tables) : (s.decideRows o).phase = s.phase := by simp [State.decideRows]
@[simp] theorem State.decideRows_loadTicks (o : Tables) : (s.decideRows o).loadTicks = s.loadTicks := by simp [State.decideRows]
@[simp] theorem State.decideRows_cause (o : Tables) : (s.decideRows o).cause = s.cause := by simp [State.decideRows]
@[simp] theorem State.decideRows_strap (o : Tables) : (s.decideRows o).strap = s.strap := by simp [State.decideRows]
@[simp] theorem State.decideRows_beat (o : Tables) : (s.decideRows o).beat = s.beat := by simp [State.decideRows]
@[simp] theorem State.decideRows_units (o : Tables) : (s.decideRows o).units = s.units := by simp [State.decideRows]
@[simp] theorem State.decideRows_scan (o : Tables) : (s.decideRows o).scan = s.scan := by simp [State.decideRows]
@[simp] theorem State.decideRows_slots (o : Tables) : (s.decideRows o).slots = s.slots := by simp [State.decideRows]
@[simp] theorem State.decideRows_contacts (o : Tables) : (s.decideRows o).contacts = s.contacts := by simp [State.decideRows]
@[simp] theorem State.decideRows_rotation (o : Tables) : (s.decideRows o).rotation = s.rotation := by simp [State.decideRows]
@[simp] theorem State.decideRows_pins (o : Tables) : (s.decideRows o).pins = s.pins := by simp [State.decideRows]
@[simp] theorem State.decideRows_limits (o : Tables) : (s.decideRows o).limits = s.limits := by simp [State.decideRows]
@[simp] theorem State.decideRows_link (o : Tables) : (s.decideRows o).link = s.link := by simp [State.decideRows]
@[simp] theorem State.decideRows_service (o : Tables) : (s.decideRows o).service = s.service := by simp [State.decideRows]
@[simp] theorem State.decideRows_profile (o : Tables) : (s.decideRows o).profile = s.profile := by simp [State.decideRows]
@[simp] theorem State.decideRows_answer (o : Tables) : (s.decideRows o).answer = s.answer := by simp [State.decideRows]
@[simp] theorem State.decideRows_freeCount (o : Tables) : (s.decideRows o).freeCount = s.freeCount := by simp [State.decideRows]

/-! ## swapLimits -/

@[simp] theorem State.swapLimits_pending : (s.swapLimits).pending = s.pending := rfl
@[simp] theorem State.swapLimits_due : (s.swapLimits).due = s.due := rfl
@[simp] theorem State.swapLimits_now : (s.swapLimits).now = s.now := rfl
@[simp] theorem State.swapLimits_phase : (s.swapLimits).phase = s.phase := rfl
@[simp] theorem State.swapLimits_loadTicks : (s.swapLimits).loadTicks = s.loadTicks := rfl
@[simp] theorem State.swapLimits_cause : (s.swapLimits).cause = s.cause := rfl
@[simp] theorem State.swapLimits_strap : (s.swapLimits).strap = s.strap := rfl
@[simp] theorem State.swapLimits_beat : (s.swapLimits).beat = s.beat := rfl
@[simp] theorem State.swapLimits_units : (s.swapLimits).units = s.units := rfl
@[simp] theorem State.swapLimits_scan : (s.swapLimits).scan = s.scan := rfl
@[simp] theorem State.swapLimits_slots : (s.swapLimits).slots = s.slots := rfl
@[simp] theorem State.swapLimits_contacts : (s.swapLimits).contacts = s.contacts := rfl
@[simp] theorem State.swapLimits_rotation : (s.swapLimits).rotation = s.rotation := rfl
@[simp] theorem State.swapLimits_pins : (s.swapLimits).pins = s.pins := rfl
@[simp] theorem State.swapLimits_reflex : (s.swapLimits).reflex = s.reflex := rfl
@[simp] theorem State.swapLimits_status : (s.swapLimits).status = s.status := rfl
@[simp] theorem State.swapLimits_link : (s.swapLimits).link = s.link := rfl
@[simp] theorem State.swapLimits_service : (s.swapLimits).service = s.service := rfl
@[simp] theorem State.swapLimits_profile : (s.swapLimits).profile = s.profile := rfl
@[simp] theorem State.swapLimits_answer : (s.swapLimits).answer = s.answer := rfl
@[simp] theorem State.swapLimits_freeCount : (s.swapLimits).freeCount = s.freeCount := rfl

/-! ## swapInputs -/

@[simp] theorem State.swapInputs_pending : (s.swapInputs).pending = s.pending := rfl
@[simp] theorem State.swapInputs_due : (s.swapInputs).due = s.due := rfl
@[simp] theorem State.swapInputs_now : (s.swapInputs).now = s.now := rfl
@[simp] theorem State.swapInputs_phase : (s.swapInputs).phase = s.phase := rfl
@[simp] theorem State.swapInputs_loadTicks : (s.swapInputs).loadTicks = s.loadTicks := rfl
@[simp] theorem State.swapInputs_cause : (s.swapInputs).cause = s.cause := rfl
@[simp] theorem State.swapInputs_strap : (s.swapInputs).strap = s.strap := rfl
@[simp] theorem State.swapInputs_beat : (s.swapInputs).beat = s.beat := rfl
@[simp] theorem State.swapInputs_units : (s.swapInputs).units = s.units := rfl
@[simp] theorem State.swapInputs_scan : (s.swapInputs).scan = s.scan := rfl
@[simp] theorem State.swapInputs_slots : (s.swapInputs).slots = s.slots := rfl
@[simp] theorem State.swapInputs_contacts : (s.swapInputs).contacts = s.contacts := rfl
@[simp] theorem State.swapInputs_pins : (s.swapInputs).pins = s.pins := rfl
@[simp] theorem State.swapInputs_limits : (s.swapInputs).limits = s.limits := rfl
@[simp] theorem State.swapInputs_reflex : (s.swapInputs).reflex = s.reflex := rfl
@[simp] theorem State.swapInputs_status : (s.swapInputs).status = s.status := rfl
@[simp] theorem State.swapInputs_link : (s.swapInputs).link = s.link := rfl
@[simp] theorem State.swapInputs_service : (s.swapInputs).service = s.service := rfl
@[simp] theorem State.swapInputs_profile : (s.swapInputs).profile = s.profile := rfl
@[simp] theorem State.swapInputs_answer : (s.swapInputs).answer = s.answer := rfl
@[simp] theorem State.swapInputs_freeCount : (s.swapInputs).freeCount = s.freeCount := rfl

/-! ## swapUnits -/

@[simp] theorem State.swapUnits_pending : (s.swapUnits).pending = s.pending := rfl
@[simp] theorem State.swapUnits_due : (s.swapUnits).due = s.due := rfl
@[simp] theorem State.swapUnits_now : (s.swapUnits).now = s.now := rfl
@[simp] theorem State.swapUnits_phase : (s.swapUnits).phase = s.phase := rfl
@[simp] theorem State.swapUnits_loadTicks : (s.swapUnits).loadTicks = s.loadTicks := rfl
@[simp] theorem State.swapUnits_cause : (s.swapUnits).cause = s.cause := rfl
@[simp] theorem State.swapUnits_strap : (s.swapUnits).strap = s.strap := rfl
@[simp] theorem State.swapUnits_beat : (s.swapUnits).beat = s.beat := rfl
@[simp] theorem State.swapUnits_scan : (s.swapUnits).scan = s.scan := rfl
@[simp] theorem State.swapUnits_slots : (s.swapUnits).slots = s.slots := rfl
@[simp] theorem State.swapUnits_contacts : (s.swapUnits).contacts = s.contacts := rfl
@[simp] theorem State.swapUnits_rotation : (s.swapUnits).rotation = s.rotation := rfl
@[simp] theorem State.swapUnits_pins : (s.swapUnits).pins = s.pins := rfl
@[simp] theorem State.swapUnits_limits : (s.swapUnits).limits = s.limits := rfl
@[simp] theorem State.swapUnits_reflex : (s.swapUnits).reflex = s.reflex := rfl
@[simp] theorem State.swapUnits_status : (s.swapUnits).status = s.status := rfl
@[simp] theorem State.swapUnits_link : (s.swapUnits).link = s.link := rfl
@[simp] theorem State.swapUnits_service : (s.swapUnits).service = s.service := rfl
@[simp] theorem State.swapUnits_profile : (s.swapUnits).profile = s.profile := rfl
@[simp] theorem State.swapUnits_answer : (s.swapUnits).answer = s.answer := rfl
@[simp] theorem State.swapUnits_freeCount : (s.swapUnits).freeCount = s.freeCount := rfl

/-! ## swapSafe -/

@[simp] theorem State.swapSafe_pending : (s.swapSafe).pending = s.pending := rfl
@[simp] theorem State.swapSafe_due : (s.swapSafe).due = s.due := rfl
@[simp] theorem State.swapSafe_now : (s.swapSafe).now = s.now := rfl
@[simp] theorem State.swapSafe_phase : (s.swapSafe).phase = s.phase := rfl
@[simp] theorem State.swapSafe_loadTicks : (s.swapSafe).loadTicks = s.loadTicks := rfl
@[simp] theorem State.swapSafe_cause : (s.swapSafe).cause = s.cause := rfl
@[simp] theorem State.swapSafe_strap : (s.swapSafe).strap = s.strap := rfl
@[simp] theorem State.swapSafe_beat : (s.swapSafe).beat = s.beat := rfl
@[simp] theorem State.swapSafe_units : (s.swapSafe).units = s.units := rfl
@[simp] theorem State.swapSafe_scan : (s.swapSafe).scan = s.scan := rfl
@[simp] theorem State.swapSafe_slots : (s.swapSafe).slots = s.slots := rfl
@[simp] theorem State.swapSafe_contacts : (s.swapSafe).contacts = s.contacts := rfl
@[simp] theorem State.swapSafe_rotation : (s.swapSafe).rotation = s.rotation := rfl
@[simp] theorem State.swapSafe_pins : (s.swapSafe).pins = s.pins := rfl
@[simp] theorem State.swapSafe_reflex : (s.swapSafe).reflex = s.reflex := rfl
@[simp] theorem State.swapSafe_link : (s.swapSafe).link = s.link := rfl
@[simp] theorem State.swapSafe_service : (s.swapSafe).service = s.service := rfl
@[simp] theorem State.swapSafe_profile : (s.swapSafe).profile = s.profile := rfl
@[simp] theorem State.swapSafe_answer : (s.swapSafe).answer = s.answer := rfl
@[simp] theorem State.swapSafe_freeCount : (s.swapSafe).freeCount = s.freeCount := rfl

/-! ## takeSwaps -/

@[simp] theorem State.takeSwaps_pending : (s.takeSwaps).pending = s.pending := by unfold State.takeSwaps State.applyIf; dsimp only; simp only [apply_ite State.pending, State.decideRows_pending, State.swapSafe_pending, State.swapInputs_pending, State.swapUnits_pending, State.swapLimits_pending, State.flush_pending, State.takeMarks_pending, ite_self]
@[simp] theorem State.takeSwaps_due : (s.takeSwaps).due = s.due := by unfold State.takeSwaps State.applyIf; dsimp only; simp only [apply_ite State.due, State.decideRows_due, State.swapSafe_due, State.swapInputs_due, State.swapUnits_due, State.swapLimits_due, State.flush_due, State.takeMarks_due, ite_self]
@[simp] theorem State.takeSwaps_now : (s.takeSwaps).now = s.now := by unfold State.takeSwaps State.applyIf; dsimp only; simp only [apply_ite State.now, State.decideRows_now, State.swapSafe_now, State.swapInputs_now, State.swapUnits_now, State.swapLimits_now, State.flush_now, State.takeMarks_now, ite_self]
@[simp] theorem State.takeSwaps_phase : (s.takeSwaps).phase = s.phase := by unfold State.takeSwaps State.applyIf; dsimp only; simp only [apply_ite State.phase, State.decideRows_phase, State.swapSafe_phase, State.swapInputs_phase, State.swapUnits_phase, State.swapLimits_phase, State.flush_phase, State.takeMarks_phase, ite_self]
@[simp] theorem State.takeSwaps_loadTicks : (s.takeSwaps).loadTicks = s.loadTicks := by unfold State.takeSwaps State.applyIf; dsimp only; simp only [apply_ite State.loadTicks, State.decideRows_loadTicks, State.swapSafe_loadTicks, State.swapInputs_loadTicks, State.swapUnits_loadTicks, State.swapLimits_loadTicks, State.flush_loadTicks, State.takeMarks_loadTicks, ite_self]
@[simp] theorem State.takeSwaps_cause : (s.takeSwaps).cause = s.cause := by unfold State.takeSwaps State.applyIf; dsimp only; simp only [apply_ite State.cause, State.decideRows_cause, State.swapSafe_cause, State.swapInputs_cause, State.swapUnits_cause, State.swapLimits_cause, State.flush_cause, State.takeMarks_cause, ite_self]
@[simp] theorem State.takeSwaps_strap : (s.takeSwaps).strap = s.strap := by unfold State.takeSwaps State.applyIf; dsimp only; simp only [apply_ite State.strap, State.decideRows_strap, State.swapSafe_strap, State.swapInputs_strap, State.swapUnits_strap, State.swapLimits_strap, State.flush_strap, State.takeMarks_strap, ite_self]
@[simp] theorem State.takeSwaps_beat : (s.takeSwaps).beat = s.beat := by unfold State.takeSwaps State.applyIf; dsimp only; simp only [apply_ite State.beat, State.decideRows_beat, State.swapSafe_beat, State.swapInputs_beat, State.swapUnits_beat, State.swapLimits_beat, State.flush_beat, State.takeMarks_beat, ite_self]
@[simp] theorem State.takeSwaps_slots : (s.takeSwaps).slots = s.slots := by unfold State.takeSwaps State.applyIf; dsimp only; simp only [apply_ite State.slots, State.decideRows_slots, State.swapSafe_slots, State.swapInputs_slots, State.swapUnits_slots, State.swapLimits_slots, State.flush_slots, State.takeMarks_slots, ite_self]
@[simp] theorem State.takeSwaps_contacts : (s.takeSwaps).contacts = s.contacts := by unfold State.takeSwaps State.applyIf; dsimp only; simp only [apply_ite State.contacts, State.decideRows_contacts, State.swapSafe_contacts, State.swapInputs_contacts, State.swapUnits_contacts, State.swapLimits_contacts, State.flush_contacts, State.takeMarks_contacts, ite_self]
@[simp] theorem State.takeSwaps_pins : (s.takeSwaps).pins = s.pins := by unfold State.takeSwaps State.applyIf; dsimp only; simp only [apply_ite State.pins, State.decideRows_pins, State.swapSafe_pins, State.swapInputs_pins, State.swapUnits_pins, State.swapLimits_pins, State.flush_pins, State.takeMarks_pins, ite_self]
@[simp] theorem State.takeSwaps_link : (s.takeSwaps).link = s.link := by unfold State.takeSwaps State.applyIf; dsimp only; simp only [apply_ite State.link, State.decideRows_link, State.swapSafe_link, State.swapInputs_link, State.swapUnits_link, State.swapLimits_link, State.flush_link, State.takeMarks_link, ite_self]
@[simp] theorem State.takeSwaps_profile : (s.takeSwaps).profile = s.profile := by unfold State.takeSwaps State.applyIf; dsimp only; simp only [apply_ite State.profile, State.decideRows_profile, State.swapSafe_profile, State.swapInputs_profile, State.swapUnits_profile, State.swapLimits_profile, State.flush_profile, State.takeMarks_profile, ite_self]
@[simp] theorem State.takeSwaps_answer : (s.takeSwaps).answer = s.answer := by unfold State.takeSwaps State.applyIf; dsimp only; simp only [apply_ite State.answer, State.decideRows_answer, State.swapSafe_answer, State.swapInputs_answer, State.swapUnits_answer, State.swapLimits_answer, State.flush_answer, State.takeMarks_answer, ite_self]
@[simp] theorem State.takeSwaps_freeCount : (s.takeSwaps).freeCount = s.freeCount := by unfold State.takeSwaps State.applyIf; dsimp only; simp only [apply_ite State.freeCount, State.decideRows_freeCount, State.swapSafe_freeCount, State.swapInputs_freeCount, State.swapUnits_freeCount, State.swapLimits_freeCount, State.flush_freeCount, State.takeMarks_freeCount, ite_self]

/-! ## computeUnits -/

@[simp] theorem State.computeUnits_pending : (s.computeUnits).pending = s.pending := by simp [State.computeUnits]
@[simp] theorem State.computeUnits_due : (s.computeUnits).due = s.due := by simp [State.computeUnits]
@[simp] theorem State.computeUnits_now : (s.computeUnits).now = s.now := by simp [State.computeUnits]
@[simp] theorem State.computeUnits_phase : (s.computeUnits).phase = s.phase := by simp [State.computeUnits]
@[simp] theorem State.computeUnits_loadTicks : (s.computeUnits).loadTicks = s.loadTicks := by simp [State.computeUnits]
@[simp] theorem State.computeUnits_cause : (s.computeUnits).cause = s.cause := by simp [State.computeUnits]
@[simp] theorem State.computeUnits_strap : (s.computeUnits).strap = s.strap := by simp [State.computeUnits]
@[simp] theorem State.computeUnits_beat : (s.computeUnits).beat = s.beat := by simp [State.computeUnits]
@[simp] theorem State.computeUnits_scan : (s.computeUnits).scan = s.scan := by simp [State.computeUnits]
@[simp] theorem State.computeUnits_slots : (s.computeUnits).slots = s.slots := by simp [State.computeUnits]
@[simp] theorem State.computeUnits_contacts : (s.computeUnits).contacts = s.contacts := by simp [State.computeUnits]
@[simp] theorem State.computeUnits_rotation : (s.computeUnits).rotation = s.rotation := by simp [State.computeUnits]
@[simp] theorem State.computeUnits_pins : (s.computeUnits).pins = s.pins := by simp [State.computeUnits]
@[simp] theorem State.computeUnits_limits : (s.computeUnits).limits = s.limits := by simp [State.computeUnits]
@[simp] theorem State.computeUnits_reflex : (s.computeUnits).reflex = s.reflex := by simp [State.computeUnits]
@[simp] theorem State.computeUnits_link : (s.computeUnits).link = s.link := by simp [State.computeUnits]
@[simp] theorem State.computeUnits_service : (s.computeUnits).service = s.service := by simp [State.computeUnits]
@[simp] theorem State.computeUnits_profile : (s.computeUnits).profile = s.profile := by simp [State.computeUnits]
@[simp] theorem State.computeUnits_answer : (s.computeUnits).answer = s.answer := by simp [State.computeUnits]
@[simp] theorem State.computeUnits_freeCount : (s.computeUnits).freeCount = s.freeCount := by simp [State.computeUnits]

/-! ## openBeat -/

@[simp] theorem State.openBeat_pending (b : Bank Bool 31) : (s.openBeat b).pending = s.pending := by simp [State.openBeat]
@[simp] theorem State.openBeat_due (b : Bank Bool 31) : (s.openBeat b).due = s.due := by simp [State.openBeat]
@[simp] theorem State.openBeat_now (b : Bank Bool 31) : (s.openBeat b).now = s.now := by simp [State.openBeat]
@[simp] theorem State.openBeat_phase (b : Bank Bool 31) : (s.openBeat b).phase = s.phase := by simp [State.openBeat]
@[simp] theorem State.openBeat_loadTicks (b : Bank Bool 31) : (s.openBeat b).loadTicks = s.loadTicks := by simp [State.openBeat]
@[simp] theorem State.openBeat_cause (b : Bank Bool 31) : (s.openBeat b).cause = s.cause := by simp [State.openBeat]
@[simp] theorem State.openBeat_strap (b : Bank Bool 31) : (s.openBeat b).strap = s.strap := by simp [State.openBeat]
@[simp] theorem State.openBeat_slots (b : Bank Bool 31) : (s.openBeat b).slots = s.slots := by simp [State.openBeat]
@[simp] theorem State.openBeat_contacts (b : Bank Bool 31) : (s.openBeat b).contacts = s.contacts := by simp [State.openBeat]
@[simp] theorem State.openBeat_pins (b : Bank Bool 31) : (s.openBeat b).pins = s.pins := by simp [State.openBeat]
@[simp] theorem State.openBeat_link (b : Bank Bool 31) : (s.openBeat b).link = s.link := by simp [State.openBeat]
@[simp] theorem State.openBeat_profile (b : Bank Bool 31) : (s.openBeat b).profile = s.profile := by simp [State.openBeat]
@[simp] theorem State.openBeat_answer (b : Bank Bool 31) : (s.openBeat b).answer = s.answer := by simp [State.openBeat]
@[simp] theorem State.openBeat_freeCount (b : Bank Bool 31) : (s.openBeat b).freeCount = s.freeCount := by simp [State.openBeat]

/-! ## ageSlots -/

@[simp] theorem State.ageSlots_pending : (s.ageSlots).pending = s.pending := rfl
@[simp] theorem State.ageSlots_due : (s.ageSlots).due = s.due := rfl
@[simp] theorem State.ageSlots_now : (s.ageSlots).now = s.now := rfl
@[simp] theorem State.ageSlots_phase : (s.ageSlots).phase = s.phase := rfl
@[simp] theorem State.ageSlots_loadTicks : (s.ageSlots).loadTicks = s.loadTicks := rfl
@[simp] theorem State.ageSlots_cause : (s.ageSlots).cause = s.cause := rfl
@[simp] theorem State.ageSlots_strap : (s.ageSlots).strap = s.strap := rfl
@[simp] theorem State.ageSlots_beat : (s.ageSlots).beat = s.beat := rfl
@[simp] theorem State.ageSlots_units : (s.ageSlots).units = s.units := rfl
@[simp] theorem State.ageSlots_scan : (s.ageSlots).scan = s.scan := rfl
@[simp] theorem State.ageSlots_contacts : (s.ageSlots).contacts = s.contacts := rfl
@[simp] theorem State.ageSlots_rotation : (s.ageSlots).rotation = s.rotation := rfl
@[simp] theorem State.ageSlots_pins : (s.ageSlots).pins = s.pins := rfl
@[simp] theorem State.ageSlots_limits : (s.ageSlots).limits = s.limits := rfl
@[simp] theorem State.ageSlots_reflex : (s.ageSlots).reflex = s.reflex := rfl
@[simp] theorem State.ageSlots_status : (s.ageSlots).status = s.status := rfl
@[simp] theorem State.ageSlots_link : (s.ageSlots).link = s.link := rfl
@[simp] theorem State.ageSlots_service : (s.ageSlots).service = s.service := rfl
@[simp] theorem State.ageSlots_profile : (s.ageSlots).profile = s.profile := rfl
@[simp] theorem State.ageSlots_answer : (s.ageSlots).answer = s.answer := rfl
@[simp] theorem State.ageSlots_freeCount : (s.ageSlots).freeCount = s.freeCount := rfl

/-! ## countStarvation -/

@[simp] theorem State.countStarvation_pending : (s.countStarvation).pending = s.pending := rfl
@[simp] theorem State.countStarvation_due : (s.countStarvation).due = s.due := rfl
@[simp] theorem State.countStarvation_now : (s.countStarvation).now = s.now := rfl
@[simp] theorem State.countStarvation_phase : (s.countStarvation).phase = s.phase := rfl
@[simp] theorem State.countStarvation_loadTicks : (s.countStarvation).loadTicks = s.loadTicks := rfl
@[simp] theorem State.countStarvation_cause : (s.countStarvation).cause = s.cause := rfl
@[simp] theorem State.countStarvation_strap : (s.countStarvation).strap = s.strap := rfl
@[simp] theorem State.countStarvation_beat : (s.countStarvation).beat = s.beat := rfl
@[simp] theorem State.countStarvation_units : (s.countStarvation).units = s.units := rfl
@[simp] theorem State.countStarvation_scan : (s.countStarvation).scan = s.scan := rfl
@[simp] theorem State.countStarvation_slots : (s.countStarvation).slots = s.slots := rfl
@[simp] theorem State.countStarvation_contacts : (s.countStarvation).contacts = s.contacts := rfl
@[simp] theorem State.countStarvation_rotation : (s.countStarvation).rotation = s.rotation := rfl
@[simp] theorem State.countStarvation_pins : (s.countStarvation).pins = s.pins := rfl
@[simp] theorem State.countStarvation_reflex : (s.countStarvation).reflex = s.reflex := rfl
@[simp] theorem State.countStarvation_status : (s.countStarvation).status = s.status := rfl
@[simp] theorem State.countStarvation_link : (s.countStarvation).link = s.link := rfl
@[simp] theorem State.countStarvation_service : (s.countStarvation).service = s.service := rfl
@[simp] theorem State.countStarvation_profile : (s.countStarvation).profile = s.profile := rfl
@[simp] theorem State.countStarvation_answer : (s.countStarvation).answer = s.answer := rfl
@[simp] theorem State.countStarvation_freeCount : (s.countStarvation).freeCount = s.freeCount := rfl

/-! ## The natural boundary -/

/-- Everything a natural boundary can be: nothing while the beat stands, the restart's boundary at the instant of one (R8), else the
next beat. -/
theorem State.naturalBoundary_cases (s : State) :
    (s.beatRunning = false ∧ s.naturalBoundary = s) ∨
    (s.beatRunning = true ∧ s.restartNow = true ∧ s.naturalBoundary = (s.clearDue .restart).restartBoundary) ∨
    (s.beatRunning = true ∧ s.restartNow = false ∧ s.naturalBoundary = s.nextBeat) := by
  unfold State.naturalBoundary
  cases s.beatRunning <;> cases s.restartNow <;> simp

end Sys2Proof.Machine
end

