-- ==== Sys2Proof/Laws/Settle.lean ====
section
/-! SUPPORT. What the course of an event (`settle`) can do, said once. -/

namespace Sys2Proof.Machine

/-- What one round keeps, the whole course keeps. -/
theorem State.settleFuel_induct (P : State → Prop) (round : ∀ s b, P s → P (s.settleRound b)) :
    ∀ k s b, P s → P (State.settleFuel k b s) := by
  intro k
  induction k with
  | zero => intro s b h; exact h
  | succ k ih =>
    intro s b h
    unfold State.settleFuel
    dsimp only
    split
    · exact round s b h
    · exact ih _ _ (round s b h)

theorem State.settle_induct (P : State → Prop) (round : ∀ s b, P s → P (s.settleRound b)) (s : State) (b : Bank Bool 31)
    (h : P s) : P (s.settle b) := State.settleFuel_induct P round 4 s b h

/-- What holds after every round holds after the whole course. -/
theorem State.settleFuel_after (P : State → Prop) (round : ∀ (s : State) b, P (s.settleRound b)) :
    ∀ k s b, P (State.settleFuel (k + 1) b s) := by
  intro k
  induction k with
  | zero => intro s b; unfold State.settleFuel; dsimp only; split <;> exact round s b
  | succ k ih =>
    intro s b
    unfold State.settleFuel
    dsimp only
    split
    · exact round s b
    · exact ih _ _

theorem State.settle_after (P : State → Prop) (round : ∀ (s : State) b, P (s.settleRound b)) (s : State) (b : Bank Bool 31) :
    P (s.settle b) := State.settleFuel_after P round 3 s b

/-! ## Fields within the blocks it touches -/

@[simp] theorem State.settle_warnLive (s : State) (b : Bank Bool 31) : (s.settle b).limits.warnLive = s.limits.warnLive :=
  State.settle_induct (fun t => t.limits.warnLive = s.limits.warnLive)
    (fun t b h => by rw [← h]; simp [State.settleRound, State.requalify]) s b rfl

@[simp] theorem State.settle_supplyLow (s : State) (b : Bank Bool 31) : (s.settle b).limits.supplyLow = s.limits.supplyLow :=
  State.settle_induct (fun t => t.limits.supplyLow = s.limits.supplyLow)
    (fun t b h => by rw [← h]; simp [State.settleRound, State.requalify]) s b rfl

@[simp] theorem State.settle_mask (s : State) (b : Bank Bool 31) : (s.settle b).status.mask = s.status.mask :=
  State.settle_induct (fun t => t.status.mask = s.status.mask)
    (fun t b h => by rw [← h]; simp [State.settleRound, State.followSources]) s b rfl

theorem State.settle_causes (s : State) (b : Bank Bool 31) :
    (s.settle b).reflex.link = s.reflex.link ∧ (s.settle b).reflex.thermal = s.reflex.thermal ∧
      (s.settle b).reflex.supply = s.reflex.supply :=
  State.settle_induct
    (fun t => t.reflex.link = s.reflex.link ∧ t.reflex.thermal = s.reflex.thermal ∧ t.reflex.supply = s.reflex.supply)
    (fun t b h => by
      have e : (t.settleRound b).reflex.link = t.reflex.link ∧ (t.settleRound b).reflex.thermal = t.reflex.thermal ∧
          (t.settleRound b).reflex.supply = t.reflex.supply := by
        simp [State.settleRound, State.formHolds, State.followSources]
      exact ⟨e.1.trans h.1, e.2.1.trans h.2.1, e.2.2.trans h.2.2⟩) s b ⟨rfl, rfl, rfl⟩

@[simp] theorem State.settle_link_cause (s : State) (b : Bank Bool 31) : (s.settle b).reflex.link = s.reflex.link :=
  (s.settle_causes b).1
@[simp] theorem State.settle_thermal (s : State) (b : Bank Bool 31) : (s.settle b).reflex.thermal = s.reflex.thermal :=
  (s.settle_causes b).2.1
@[simp] theorem State.settle_supply (s : State) (b : Bank Bool 31) : (s.settle b).reflex.supply = s.reflex.supply :=
  (s.settle_causes b).2.2

theorem State.settle_safeActive (s : State) (b : Bank Bool 31) : (s.settle b).safeActive = s.safeActive := by
  simp [State.safeActive]

/-- Every event but REFLEX_FIRED stands as before. -/
theorem State.settle_events (s : State) (b : Bank Bool 31) (i : Nat) (h : i ≠ 9) :
    (s.settle b).status.events.getLsbD i = s.status.events.getLsbD i :=
  State.settle_induct (fun t => t.status.events.getLsbD i = s.status.events.getLsbD i)
    (fun t b k => by
      rw [← k]
      simp only [State.settleRound, State.requalify_status, State.formHolds_status, State.followSources, State.latchIf]
      split
      · exact State.latch_other _ _ _ h
      · rfl) s b rfl

/-- A set event stays set. -/
theorem State.settle_keeps (s : State) (b : Bank Bool 31) (i : Nat) (h : s.status.events.getLsbD i = true) :
    (s.settle b).status.events.getLsbD i = true :=
  State.settle_induct (fun t => t.status.events.getLsbD i = true)
    (fun t b k => by
      simp only [State.settleRound, State.requalify_status, State.formHolds_status, State.followSources, State.latchIf]
      split
      · exact State.latch_keeps _ _ _ k
      · exact k) s b h

/-- A unit property that every delivered hold keeps holds after the course. -/
theorem State.settle_units (P : Fin 4 → PulseUnit → Prop) (keep : ∀ u x row h, P u x → P u (x.deliverHold row h)) (s : State)
    (b : Bank Bool 31) (h : ∀ u, P u (s.units.get u)) (u : Fin 4) : P u ((s.settle b).units.get u) :=
  State.settle_induct (fun t => ∀ u, P u (t.units.get u))
    (fun t b k u => by simpa [State.settleRound, State.formHolds] using keep u _ _ _ (k u)) s b h u

/-- A rotation property that requalifying keeps holds after the course. -/
theorem State.settle_rotation (P : Fin 3 → Rotation → Prop) (keep : ∀ r x q, P r x → P r (x.requalify q)) (s : State)
    (b : Bank Bool 31) (h : ∀ r, P r (s.rotation.get r)) (r : Fin 3) : P r ((s.settle b).rotation.get r) :=
  State.settle_induct (fun t => ∀ r, P r (t.rotation.get r))
    (fun t b k r => by simpa [State.settleRound, State.requalify] using keep r _ _ (k r)) s b h r

/-- A limit row property that requalifying keeps holds after the course. -/
theorem State.settle_limits (P : Fin 16 → LimitRow → Prop) (keep : ∀ n x q v, P n x → P n (x.requalify q v)) (s : State)
    (b : Bank Bool 31) (h : ∀ n, P n (s.limits.rows.get n)) (n : Fin 16) : P n ((s.settle b).limits.rows.get n) :=
  State.settle_induct (fun t => ∀ n, P n (t.limits.rows.get n))
    (fun t b k n => by simpa [State.settleRound, State.requalify] using keep n _ _ _ (k n)) s b h n

/-! ## Holds after the course -/

/-- The hold action depends on the rows, the causes and the tables alone. -/
theorem State.holdOf_congr {s t : State} (r : s.reflex.rows = t.reflex.rows) (a : s.safeActive = t.safeActive)
    (k : s.service = t.service) (u : Fin 4) : s.holdOf u = t.holdOf u := by
  unfold State.holdOf State.activeRows State.safeHold State.tables; rw [r, a, k]

theorem State.capOf_congr {s t : State} (r : s.reflex.rows = t.reflex.rows) (k : s.service = t.service) (u : Fin 4) :
    s.capOf u = t.capOf u := by
  unfold State.capOf State.activeRows State.tables; rw [r, k]

theorem State.formHolds_holdOf (s : State) (u : Fin 4) : s.formHolds.holdOf u = s.holdOf u :=
  State.holdOf_congr rfl rfl rfl u

theorem State.formHolds_capOf (s : State) (u : Fin 4) : s.formHolds.capOf u = s.capOf u := State.capOf_congr rfl rfl u

theorem State.requalify_holdOf (s : State) (u : Fin 4) : s.requalify.holdOf u = s.holdOf u := State.holdOf_congr rfl rfl rfl u

theorem State.requalify_capOf (s : State) (u : Fin 4) : s.requalify.capOf u = s.capOf u := State.capOf_congr rfl rfl u

/-- After the course the hold actions and caps kept are those of the active rows and the safe state (R123). -/
theorem State.settle_formed (s : State) (b : Bank Bool 31) (u : Fin 4) :
    (s.settle b).reflex.hold.get u = (s.settle b).holdOf u ∧ (s.settle b).reflex.cap.get u = (s.settle b).capOf u :=
  State.settle_after (fun t => t.reflex.hold.get u = t.holdOf u ∧ t.reflex.cap.get u = t.capOf u)
    (fun t b => by
      have e (v : State) : v.formHolds.reflex.hold.get u = v.holdOf u ∧ v.formHolds.reflex.cap.get u = v.capOf u := by
        simp [State.formHolds]
      simp only [State.settleRound, State.requalify_reflex, State.requalify_holdOf, State.requalify_capOf,
        State.formHolds_holdOf, State.formHolds_capOf]
      exact e _) s b

end Sys2Proof.Machine
end

