-- ==== Sys2Proof/Laws/Settled.lean ====
section
/-! SUPPORT. Two rounds always settle: the first may put units into HELD and so release conditions, the second lets rows and units
follow those releases, and nothing further changes. -/

namespace Sys2Proof.Machine

/-! ## A hold delivered -/

/-- A unit that has received its hold action agrees with it. -/
theorem PulseUnit.deliverHold_obeys (x : PulseUnit) (row : Row) (h : Hold) : (x.deliverHold row h).obeys h = true := by
  unfold PulseUnit.deliverHold PulseUnit.obeys
  cases e : x.state <;> cases h <;> simp [e, Hold.heldState]

/-- A unit in RUN under no hold is left as it is. -/
theorem PulseUnit.deliverHold_run (x : PulseUnit) (row : Row) (h : x.state = .run) : x.deliverHold row .none = x := by
  unfold PulseUnit.deliverHold; simp [h]

/-- A delivered hold never makes FXn active. -/
theorem PulseUnit.deliverHold_exhausted (x : PulseUnit) (row : Row) (h : Hold) (e : (x.deliverHold row h).exhausted = true) :
    x.exhausted = true := by
  unfold PulseUnit.deliverHold at e
  cases k : x.state <;> cases h <;> simp_all

/-- Delivered to a unit that agrees with some hold and did not lose RUN, a hold leaves FXn. -/
theorem PulseUnit.deliverHold_exhausted_eq (x : PulseUnit) (row : Row) (h : Hold)
    (k : x.state.driving = true → h = .none) : (x.deliverHold row h).exhausted = x.exhausted := by
  unfold PulseUnit.deliverHold
  cases e : x.state <;> cases h <;> simp_all [UnitState.driving]

/-- RUN is kept under no hold, and is otherwise only entered from HELD. -/
theorem PulseUnit.deliverHold_drives (x : PulseUnit) (row : Row) (h : Hold) (d : Nat)
    (k : x.state.driving = true → h = .none) (e : x.drivesAtLeast d = true) : (x.deliverHold row h).drivesAtLeast d = true := by
  have r : x.state = .run := by simp [PulseUnit.drivesAtLeast] at e; exact e.1
  have : h = .none := k (by simp [r, UnitState.driving])
  rw [this, x.deliverHold_run row r]; exact e

/-! ## Holds shrink with the set of active rows -/

theorem Hold.worse_none {a b : Hold} : a.worse b = .none ↔ a = .none ∧ b = .none := by
  cases a <;> cases b <;> simp [Hold.worse]

theorem Hold.fold_none {α : Type} (f : α → Hold) (l : List α) (a : Hold) :
    l.foldl (fun h n => h.worse (f n)) a = .none ↔ a = .none ∧ ∀ n ∈ l, f n = .none := by
  induction l generalizing a with
  | nil => simp
  | cons x l ih => simp [ih, Hold.worse_none]; tauto

/-- No hold means no active row and no safe state asks for one. -/
theorem State.holdOf_none (s : State) (u : Fin 4) :
    s.holdOf u = .none ↔ s.safeHold u = .none ∧
      ∀ n, (s.reflex.rows.get n).active = true → (reflexAction (s.tables.reflexRow n) u).hold = .none := by
  unfold State.holdOf
  rw [Hold.fold_none]
  simp [State.activeRows]

/-! ## One round -/

/-- The rows after a round. -/
theorem State.settleRound_rows (s : State) (b : Bank Bool 31) (n : Fin 16) :
    (s.settleRound b).reflex.rows.get n = (s.reflex.rows.get n).follow (s.tables.reflexRow n)
      (b.get (reflexSource (s.tables.reflexRow n))) (s.sourceActive (reflexSource (s.tables.reflexRow n))) := by
  simp [State.settleRound, State.formHolds, State.followSources]

/-- The tables are those before. -/
@[simp] theorem State.settleRound_tables (s : State) (b : Bank Bool 31) : (s.settleRound b).tables = s.tables := by
  simp [State.tables]

/-- The hold actions after a round are those delivered in it. -/
theorem State.settleRound_holdOf (s : State) (b : Bank Bool 31) (u : Fin 4) :
    (s.settleRound b).holdOf u = (s.followSources b).holdOf u := by
  simp only [State.settleRound, State.requalify_holdOf, State.formHolds_holdOf]

/-- The units after a round. -/
theorem State.settleRound_units_get (s : State) (b : Bank Bool 31) (u : Fin 4) :
    (s.settleRound b).units.get u = (s.units.get u).deliverHold (s.tables.unitRow u) ((s.settleRound b).holdOf u) := by
  rw [State.settleRound_holdOf]
  simp [State.settleRound, State.formHolds, State.tables]

/-- A limit row after a round is brought to the qualification the units now give. -/
theorem State.settleRound_limits_get (s : State) (b : Bank Bool 31) (n : Fin 16) :
    (s.settleRound b).limits.rows.get n =
      (s.limits.rows.get n).requalify ((s.settleRound b).limitQualified n) (limitStarvation (s.tables.limitRow n)) := by
  simp [State.settleRound, State.requalify, State.limitQualified, State.tables, State.conditionerRunning]

/-- A rotation input after a round is brought to the qualification the units now give. -/
theorem State.settleRound_rotation_get (s : State) (b : Bank Bool 31) (r : Fin 3) :
    (s.settleRound b).rotation.get r = (s.rotation.get r).requalify ((s.settleRound b).stallQualified r) := by
  simp [State.settleRound, State.requalify, State.stallQualified, State.tables, State.conditionerRunning]

theorem LimitRow.requalify_qualified (x : LimitRow) (q : Bool) (v : Nat) : (x.requalify q v).qualified = q := by
  unfold LimitRow.requalify
  split
  · simp_all
  · split
    · simp_all
    · simp_all [LimitRow.atReset]

theorem LimitRow.requalify_active (x : LimitRow) (q : Bool) (v : Nat) (h : (x.requalify q v).active = true) :
    x.active = true ∧ x.qualified = q := by
  unfold LimitRow.requalify at h
  split at h
  · rename_i e; exact ⟨h, e.symm⟩
  · split at h <;> simp [LimitRow.atReset] at h

theorem LimitRow.requalify_reset (x : LimitRow) (v : Nat) (h : x.qualified = false → x = LimitRow.atReset) :
    x.requalify false v = LimitRow.atReset := by
  unfold LimitRow.requalify
  split
  · exact h (by simp_all)
  · simp

theorem Rotation.requalify_stalled (x : Rotation) (q : Bool) (h : (x.requalify q).stalled = true) : x.stalled = true := by
  unfold Rotation.requalify at h
  split at h
  · split at h
    · exact h
    · simp at h
  · simp at h

/-- A round only releases sources. -/
theorem State.settleRound_sources (s : State) (b : Bank Bool 31) (i : Fin 31) (h : (s.settleRound b).sourceActive i = true) :
    s.sourceActive i = true := by
  unfold State.sourceActive at h ⊢
  split
  · rename_i k; rw [if_pos k, State.settleRound_limits_get] at h
    exact (LimitRow.requalify_active _ _ _ h).1
  · rename_i k; rw [if_neg k] at h
    split
    · rename_i k; rw [if_pos k] at h
      simpa [State.contactActive, State.conditionerRunning, State.tables] using h
    · rename_i k; rw [if_neg k] at h
      split
      · rename_i k; rw [if_pos k, State.settleRound_rotation_get] at h
        exact Rotation.requalify_stalled _ _ h
      · rename_i k; rw [if_neg k, State.settleRound_units_get] at h
        exact PulseUnit.deliverHold_exhausted _ _ _ h

/-- Where no source becomes active, a round activates no row. -/
theorem ReflexRow.follow_active (x : ReflexRow) (row : Row) (was is : Bool) (k : is = true → was = true)
    (h : (x.follow row was is).active = true) : x.active = true := by
  unfold ReflexRow.follow at h
  split at h
  · split at h
    · rename_i e; simp at e; have := k e.1; simp_all
    · split at h
      · exact h
      · simp at h; exact h.1
  · simp at h

/-! ## The second round -/

/-- What a round leaves: holds delivered and qualifications decided. -/
structure State.Rounded (s : State) : Prop where
  obeyed : ∀ u, (s.units.get u).obeys (s.holdOf u) = true
  qualified : ∀ n, (s.limits.rows.get n).qualified = s.limitQualified n
  unqualified : ∀ n, s.limitQualified n = false → s.limits.rows.get n = LimitRow.atReset
  timed : ∀ r, (s.rotation.get r).stallTimer.isSome = s.stallQualified r
  untimed : ∀ r, s.stallQualified r = false → (s.rotation.get r).stalled = false

theorem State.settleRound_rounded (s : State) (b : Bank Bool 31)
    (h : ∀ n, (s.limits.rows.get n).qualified = false → s.limits.rows.get n = LimitRow.atReset) :
    (s.settleRound b).Rounded where
  obeyed u := by rw [State.settleRound_units_get]; exact PulseUnit.deliverHold_obeys _ _ _
  qualified n := by rw [State.settleRound_limits_get]; exact LimitRow.requalify_qualified _ _ _
  unqualified n k := by rw [State.settleRound_limits_get, k]; exact LimitRow.requalify_reset _ _ (h n)
  timed r := by
    rw [State.settleRound_rotation_get]
    unfold Rotation.requalify
    split
    · rename_i k; split
      · rename_i e; simp [e, k]
      · simp [k]
    · rename_i k; simp at k; simp [k]
  untimed r k := by rw [State.settleRound_rotation_get, k]; simp [Rotation.requalify]

/-- From a rounded state whose sources have only been released since, one more round changes no source. -/
theorem State.Rounded.sources {s : State} (h : s.Rounded) (b : Bank Bool 31)
    (k : ∀ i, s.sourceActive i = true → b.get i = true) (i : Fin 31) :
    (s.settleRound b).sourceActive i = s.sourceActive i := by
  -- no row becomes active, so no unit in RUN, PAUSE or BRAKE receives a hold
  have noHold (u : Fin 4) (d : (s.units.get u).state.driving = true) : (s.settleRound b).holdOf u = .none := by
    have o := h.obeyed u
    have e : s.holdOf u = .none := by
      unfold PulseUnit.obeys at o
      cases q : (s.units.get u).state <;> simp_all [UnitState.driving]
    rw [State.holdOf_none] at e ⊢
    refine ⟨?_, fun n a => ?_⟩
    · have : (s.settleRound b).safeHold u = s.safeHold u := by
        have c : (s.settleRound b).safeActive = s.safeActive := by
          simp [State.safeActive, State.settleRound, State.formHolds, State.followSources]
        unfold State.safeHold
        rw [c, State.settleRound_tables]
      rw [this]; exact e.1
    · rw [State.settleRound_tables]
      rw [State.settleRound_rows] at a
      exact e.2 n (ReflexRow.follow_active _ _ _ _ (fun q => k _ q) a)
  have drives (u : Fin 4) (d : Nat) (q : (s.units.get u).drivesAtLeast d = true) :
      ((s.settleRound b).units.get u).drivesAtLeast d = true := by
    rw [State.settleRound_units_get]
    exact PulseUnit.deliverHold_drives _ _ _ _ (noHold u) q
  have limitKept (n : Fin 16) (q : s.limitQualified n = true) : (s.settleRound b).limitQualified n = true := by
    unfold State.limitQualified at q ⊢
    rw [State.settleRound_tables]
    have c : (s.settleRound b).conditionerRunning = s.conditionerRunning := by simp [State.conditionerRunning]
    rw [c]
    cases e : limitQualifier (s.tables.limitRow n) with
    | none => simpa [e] using q
    | some u => simp [e] at q ⊢; exact ⟨q.1, drives u _ q.2⟩
  have stallKept (r : Fin 3) (q : s.stallQualified r = true) : (s.settleRound b).stallQualified r = true := by
    unfold State.stallQualified at q ⊢
    rw [State.settleRound_tables]
    have c : (s.settleRound b).conditionerRunning = s.conditionerRunning := by simp [State.conditionerRunning]
    rw [c]
    cases e : rotationLinked (s.tables.rotationRow r) with
    | none => simp [e] at q
    | some u => simp [e] at q ⊢; exact ⟨q.1, drives u _ q.2⟩
  have rowSame (n : Fin 16) : ((s.settleRound b).limits.rows.get n).active = (s.limits.rows.get n).active := by
    rw [State.settleRound_limits_get]
    have q := h.qualified n
    unfold LimitRow.requalify
    split
    · rfl
    · rename_i ne
      split
      · rename_i t
        have f : s.limitQualified n = false := by
          cases e : s.limitQualified n with
          | false => rfl
          | true => exact absurd (by rw [t, q, e]) ne
        simp [h.unqualified n f, LimitRow.atReset]
      · rename_i t
        have f : s.limitQualified n = false := by
          cases e : s.limitQualified n with
          | false => rfl
          | true => exact absurd (limitKept n e) t
        simp [h.unqualified n f, LimitRow.atReset]
  have inputSame (r : Fin 3) : ((s.settleRound b).rotation.get r).stalled = (s.rotation.get r).stalled := by
    rw [State.settleRound_rotation_get]
    have q := h.timed r
    cases e : s.stallQualified r with
    | true =>
      rw [stallKept r e]
      rw [e] at q
      unfold Rotation.requalify
      cases t : (s.rotation.get r).stallTimer with
      | none => simp [t] at q
      | some v => simp
    | false =>
      have z := h.untimed r e
      unfold Rotation.requalify
      split
      · split
        · rfl
        · simp [z]
      · simp [z]
  have unitSame (u : Fin 4) : ((s.settleRound b).units.get u).exhausted = (s.units.get u).exhausted := by
    rw [State.settleRound_units_get]
    exact PulseUnit.deliverHold_exhausted_eq _ _ _ (noHold u)
  unfold State.sourceActive
  split
  · exact rowSame _
  · split
    · simp [State.contactActive, State.conditionerRunning, State.tables]
    · split
      · exact inputSame _
      · exact unitSame _

/-- A row followed from a source with which it agreed agrees with the source as it is. -/
theorem ReflexRow.follow_agrees (x : ReflexRow) (row : Row) (was is : Bool)
    (h : reflexEnabled row = true → was = true → is = true → x.active = true) : (x.follow row was is).agrees row is = true := by
  unfold ReflexRow.follow ReflexRow.agrees
  cases e : reflexEnabled row with
  | false => simp
  | true =>
    cases was <;> cases is <;> cases l : reflexLatched row <;> simp_all [ReflexRow.fire]

theorem State.sources_get (s : State) (i : Fin 31) : s.sources.get i = s.sourceActive i := by simp [State.sources]

/-- The course of an event ends settled, when the rows it starts from are active wherever their source stays active. -/
theorem State.settle_settled (s : State) (b : Bank Bool 31)
    (rows : ∀ n, reflexEnabled (s.tables.reflexRow n) = true → b.get (reflexSource (s.tables.reflexRow n)) = true →
      s.sourceActive (reflexSource (s.tables.reflexRow n)) = true → (s.reflex.rows.get n).active = true)
    (reset : ∀ n, (s.limits.rows.get n).qualified = false → s.limits.rows.get n = LimitRow.atReset) :
    (s.settle b).Settled := by
  have formed := State.settle_formed s b
  -- the state after the first round, and after the second
  have r1 := State.settleRound_rounded s b reset
  have finish (t : State) (c : Bank Bool 31) (hr : t.Rounded)
      (agree : ∀ n, (t.reflex.rows.get n).agrees (t.tables.reflexRow n)
        (t.sourceActive (reflexSource (t.tables.reflexRow n))) = true)
      (e : s.settle b = t) : (s.settle b).Settled := by
    rw [e] at formed ⊢
    exact ⟨agree, ⟨hr.obeyed, fun u => (formed u).1, fun u => (formed u).2⟩, hr.qualified, hr.unqualified, hr.timed, hr.untimed⟩
  by_cases k : (s.settleRound b).sources = s.sources
  · refine finish (s.settleRound b) b r1 (fun n => ?_) ?_
    · have e : (s.settleRound b).sourceActive (reflexSource (s.tables.reflexRow n)) =
          s.sourceActive (reflexSource (s.tables.reflexRow n)) := by
        rw [← State.sources_get, ← State.sources_get, k]
      rw [State.settleRound_tables, e, State.settleRound_rows]
      exact ReflexRow.follow_agrees _ _ _ _ (rows n)
    · unfold State.settle State.settleFuel
      simp [k]
  · have r2 : ((s.settleRound b).settleRound s.sources).Rounded :=
      State.settleRound_rounded _ _ (fun n q => r1.unqualified n (by rw [← r1.qualified n]; exact q))
    have same (i : Fin 31) : ((s.settleRound b).settleRound s.sources).sourceActive i = (s.settleRound b).sourceActive i :=
      State.Rounded.sources r1 s.sources (fun i q => by rw [State.sources_get]; exact State.settleRound_sources s b i q) i
    have stop : ((s.settleRound b).settleRound s.sources).sources = (s.settleRound b).sources :=
      Bank.ext_get (fun i => by rw [State.sources_get, State.sources_get]; exact same i)
    refine finish ((s.settleRound b).settleRound s.sources) b r2 (fun n => ?_) ?_
    · rw [State.settleRound_tables, same, State.settleRound_rows]
      refine ReflexRow.follow_agrees _ _ _ _ (fun en was is => ?_)
      rw [State.settleRound_tables] at en was is
      rw [State.sources_get] at was
      -- the first round left the row active: its source was and is active
      rw [State.settleRound_rows]
      have a := ReflexRow.follow_agrees (s.reflex.rows.get n) (s.tables.reflexRow n)
        (b.get (reflexSource (s.tables.reflexRow n))) (s.sourceActive (reflexSource (s.tables.reflexRow n))) (rows n)
      unfold ReflexRow.agrees at a
      simp [en, was] at a
      rw [was]; exact a
    · unfold State.settle State.settleFuel
      simp only [k, if_false]
      unfold State.settleFuel
      simp [stop]

/-! ## A part with nothing to follow up -/

theorem ReflexRow.follow_same (x : ReflexRow) (row : Row) (on : Bool) (h : x.agrees row on = true) : x.follow row on on = x := by
  unfold ReflexRow.agrees at h
  unfold ReflexRow.follow
  cases x with | mk a f => cases a <;> cases on <;> cases e : reflexEnabled row <;> cases l : reflexLatched row <;> simp_all

theorem PulseUnit.deliverHold_same (x : PulseUnit) (row : Row) (h : Hold) (o : x.obeys h = true) (g : x.GatesSound) :
    x.deliverHold row h = x := by
  unfold PulseUnit.obeys at o
  unfold PulseUnit.deliverHold
  cases e : x.state <;> cases h <;> simp_all <;>
    first
      | (have d := g.heldCoast e; cases x; simp_all [PulseUnit.present, Hold.drive, Hold.heldState])
      | (have d := g.heldBrake e; cases x; simp_all [PulseUnit.present, Hold.drive, Hold.heldState])

theorem Rotation.requalify_same (x : Rotation) (q : Bool) (t : x.stallTimer.isSome = q) (n : q = false → x.stalled = false) :
    x.requalify q = x := by
  unfold Rotation.requalify
  cases x with | mk a b c d e f g s z => cases q <;> cases s <;> simp_all

theorem LimitRow.requalify_same (x : LimitRow) (q : Bool) (v : Nat) (h : x.qualified = q) : x.requalify q v = x := by
  simp [LimitRow.requalify, h]

/-- In a settled part with gate lines as R14 to R16 have them, a change that leaves every source as it was moves nothing. -/
theorem State.settle_same (s : State) (h : s.Settled) (g : ∀ u, (s.units.get u).GatesSound) : s.settle s.sources = s := by
  have rows : s.reflex.rows.mapIdx (fun n x => x.follow (s.tables.reflexRow n)
      (s.sourceActive (reflexSource (s.tables.reflexRow n))) (s.sourceActive (reflexSource (s.tables.reflexRow n)))) =
      s.reflex.rows := by
    refine Bank.ext_get fun n => ?_
    rw [Bank.get_mapIdx]
    exact ReflexRow.follow_same _ _ _ (h.rows n)
  have followed : s.followSources s.sources = s := by
    unfold State.followSources
    simp only [State.sources_get, rows, rowFires]
    simp [State.latchIf, ← Bool.not_eq_true, and_assoc]
  have formed : s.formHolds = s := by
    unfold State.formHolds
    rw [show Bank.tabulate s.holdOf = s.reflex.hold from Bank.ext_get fun u => by rw [Bank.get_tabulate, h.holds.kept],
      show Bank.tabulate s.capOf = s.reflex.cap from Bank.ext_get fun u => by rw [Bank.get_tabulate, h.holds.capped],
      show (s.units.mapIdx fun u x => x.deliverHold (s.tables.unitRow u) (s.holdOf u)) = s.units from
        Bank.ext_get fun u => by
          rw [Bank.get_mapIdx]; exact PulseUnit.deliverHold_same _ _ _ (h.holds.obeyed u) (g u)]
  have qualified : s.requalify = s := by
    unfold State.requalify
    simp only [show (s.limits.rows.mapIdx fun n x =>
        x.requalify (s.limitQualified n) (limitStarvation (s.tables.limitRow n))) = s.limits.rows from
        Bank.ext_get fun n => by rw [Bank.get_mapIdx]; exact LimitRow.requalify_same _ _ _ (h.qualified n),
      show (s.rotation.mapIdx fun r x => x.requalify (s.stallQualified r)) = s.rotation from
        Bank.ext_get fun r => by rw [Bank.get_mapIdx]; exact Rotation.requalify_same _ _ (h.timed r) (h.untimed r)]
  have round : s.settleRound s.sources = s := by unfold State.settleRound; rw [followed, formed, qualified]
  unfold State.settle State.settleFuel
  simp [round]

end Sys2Proof.Machine
end

