-- ==== Sys2Proof/Laws/Course.lean ====
section
/-! SUPPORT. The course of an event (`settle`) seen from outside: what it leaves alone, and which rows fire in it. -/

namespace Sys2Proof.Machine

set_option Elab.async false

/-! ## What it leaves alone -/

theorem PulseUnit.deliverHold_off (x : PulseUnit) (row : Row) (h : Hold) (e : x.state = .off) : x.deliverHold row h = x := by
  unfold PulseUnit.deliverHold
  rw [e]

theorem PulseUnit.deliverHold_fixed (x : PulseUnit) (row : Row) (h : Hold) :
    (x.deliverHold row h).kind = x.kind ∧ (x.deliverHold row h).countDir = x.countDir ∧
      (x.deliverHold row h).driveDir = x.driveDir := by
  unfold PulseUnit.deliverHold
  split <;> simp [PulseUnit.leaveHeld, PulseUnit.enterHeld, PulseUnit.memoryAfterZero, PulseUnit.clearFold, PulseUnit.present] <;>
    (repeat' split) <;> simp

theorem Rotation.requalify_frame (x : Rotation) (q : Bool) :
    x.requalify q = { x with stallTimer := (x.requalify q).stallTimer, stalled := (x.requalify q).stalled } := by
  unfold Rotation.requalify
  split
  · split <;> rfl
  · rfl

theorem ReflexRow.follow_fired (x : ReflexRow) (row : Row) (was is : Bool) (h : x.fired = true) : (x.follow row was is).fired = true := by
  unfold ReflexRow.follow ReflexRow.fire
  split
  · split
    · rfl
    · split <;> exact h
  · exact h

theorem State.settle_fired (s : State) (b : Bank Bool 31) (n : Fin 16) (h : (s.reflex.rows.get n).fired = true) :
    ((s.settle b).reflex.rows.get n).fired = true :=
  State.settle_induct (fun t => (t.reflex.rows.get n).fired = true)
    (fun t b h => by rw [State.settleRound_rows]; exact ReflexRow.follow_fired _ _ _ _ h) s b h

/-- A change of conditions leaves everything else alone. -/
theorem State.settle_course (s : State) (b : Bank Bool 31) : State.Course s (s.settle b) where
  pending := by simp
  due := by simp
  now := by simp
  phase := by simp
  loadTicks := by simp
  cause := by simp
  strap := by simp
  beat := by simp
  scan := by simp
  slots := by simp
  contacts := by simp
  rotation r := by
    refine State.settle_rotation (fun r x => x = { s.rotation.get r with stallTimer := x.stallTimer, stalled := x.stalled })
      (fun r x q h => ?_) s b (fun r => rfl) r
    rw [Rotation.requalify_frame, h]
  pins := by simp
  warnLive := by simp
  supplyLow := by simp
  causes := State.settle_causes s b
  fired n h := State.settle_fired s b n h
  events i h := State.settle_events s b i h
  reflexFired h := State.settle_keeps s b 9 h
  mask := by simp
  off u h := by
    refine State.settle_induct (fun t => t.units.get u = s.units.get u) (fun t b e => ?_) s b rfl
    rw [State.settleRound_units_get, PulseUnit.deliverHold_off _ _ _ (by rw [e]; exact h)]
    exact e
  units u := by
    refine State.settle_units (fun u x => x.kind = (s.units.get u).kind ∧ x.countDir = (s.units.get u).countDir ∧
      x.driveDir = (s.units.get u).driveDir) (fun u x row h k => ?_) s b (fun u => ⟨rfl, rfl, rfl⟩) u
    have e := PulseUnit.deliverHold_fixed x row h
    exact ⟨e.1.trans k.1, e.2.1.trans k.2.1, e.2.2.trans k.2.2⟩
  link := by simp
  service := by simp
  profile := by simp
  answer := by simp
  freeCount := by simp

/-! ## Which rows fire in it (R121) -/

theorem State.settleRound_event (s : State) (b : Bank Bool 31) (n : Fin 16)
    (f : rowFires (s.tables.reflexRow n) (b.get (reflexSource (s.tables.reflexRow n)))
      (s.sourceActive (reflexSource (s.tables.reflexRow n))) = true) :
    (s.settleRound b).status.events.getLsbD 9 = true := by
  have e : ((List.finRange 16).any fun n => rowFires (s.tables.reflexRow n) (b.get (reflexSource (s.tables.reflexRow n)))
      (s.sourceActive (reflexSource (s.tables.reflexRow n)))) = true :=
    List.any_eq_true.mpr ⟨n, List.mem_finRange n, f⟩
  simp only [State.settleRound, State.requalify, State.formHolds, State.followSources]
  rw [e]
  simp [State.latchIf, State.latch, EventId.bit]

/-- An enabled row whose source an event has made active fires in the course of that event, and stays active if it is latched. -/
theorem State.settle_fires (s : State) (b : Bank Bool 31) (n : Fin 16) (en : reflexEnabled (s.tables.reflexRow n) = true)
    (was : b.get (reflexSource (s.tables.reflexRow n)) = false)
    (is : s.sourceActive (reflexSource (s.tables.reflexRow n)) = true) :
    ((s.settle b).reflex.rows.get n).fired = true ∧ (s.settle b).status.events.getLsbD 9 = true ∧
      (reflexLatched (s.tables.reflexRow n) = true → ((s.settle b).reflex.rows.get n).active = true) := by
  have first : ((s.settleRound b).reflex.rows.get n) = { active := true, fired := true } := by
    rw [State.settleRound_rows]
    simp [ReflexRow.follow, ReflexRow.fire, en, was, is]
  have ev := State.settleRound_event s b n (by simp [rowFires, en, was, is])
  have keep (t : State) (c : Bank Bool 31) (h : (t.reflex.rows.get n).fired = true ∧ t.status.events.getLsbD 9 = true ∧
      (reflexLatched (t.tables.reflexRow n) = true → (t.reflex.rows.get n).active = true) ∧ t.tables = s.tables) :
      ((t.settleRound c).reflex.rows.get n).fired = true ∧ (t.settleRound c).status.events.getLsbD 9 = true ∧
      (reflexLatched ((t.settleRound c).tables.reflexRow n) = true → ((t.settleRound c).reflex.rows.get n).active = true) ∧
      (t.settleRound c).tables = s.tables := by
    refine ⟨?_, ?_, ?_, ?_⟩
    · rw [State.settleRound_rows]; exact ReflexRow.follow_fired _ _ _ _ h.1
    · simp only [State.settleRound, State.requalify, State.formHolds, State.followSources]
      unfold State.latchIf
      split
      · simp [State.latch, EventId.bit]
      · exact h.2.1
    · rw [State.settleRound_tables, State.settleRound_rows]
      intro l
      have a := h.2.2.1 l
      unfold ReflexRow.follow
      rw [h.2.2.2] at l ⊢
      simp only [en, l, if_true]
      split
      · rfl
      · exact a
    · rw [State.settleRound_tables]; exact h.2.2.2
  have all : ((s.settle b).reflex.rows.get n).fired = true ∧ (s.settle b).status.events.getLsbD 9 = true ∧
      (reflexLatched ((s.settle b).tables.reflexRow n) = true → ((s.settle b).reflex.rows.get n).active = true) ∧
      (s.settle b).tables = s.tables := by
    unfold State.settle State.settleFuel
    dsimp only
    have one : ((s.settleRound b).reflex.rows.get n).fired = true ∧ (s.settleRound b).status.events.getLsbD 9 = true ∧
      (reflexLatched ((s.settleRound b).tables.reflexRow n) = true → ((s.settleRound b).reflex.rows.get n).active = true) ∧
      (s.settleRound b).tables = s.tables :=
      ⟨by rw [first], ev, fun _ => by rw [first], State.settleRound_tables s b⟩
    split
    · exact one
    · exact State.settleFuel_induct _ keep 3 _ _ one
  refine ⟨all.1, all.2.1, fun l => all.2.2.1 ?_⟩
  rw [all.2.2.2]; exact l

/-! ## A course in which nothing becomes active -/

theorem State.settleRound_released (s : State) (b : Bank Bool 31) (h : ∀ i, s.sourceActive i = true → b.get i = true) (n : Fin 16)
    (a : ((s.settleRound b).reflex.rows.get n).active = true) : (s.reflex.rows.get n).active = true := by
  rw [State.settleRound_rows] at a
  exact ReflexRow.follow_active _ _ _ _ (h _) a

theorem State.settleRound_unheld (s : State) (b : Bank Bool 31) (h : ∀ i, s.sourceActive i = true → b.get i = true) (u : Fin 4)
    (e : s.holdOf u = .none) : (s.settleRound b).holdOf u = .none := by
  rw [State.holdOf_none] at e ⊢
  refine ⟨?_, fun n a => ?_⟩
  · have k : (s.settleRound b).safeHold u = s.safeHold u := by
      unfold State.safeHold
      rw [State.settleRound_tables]
      have : (s.settleRound b).safeActive = s.safeActive := by
        simp [State.settleRound, State.requalify, State.formHolds, State.followSources, State.safeActive]
      rw [this]
    rw [k]; exact e.1
  · rw [State.settleRound_tables]
    exact e.2 n (State.settleRound_released s b h n a)

/-- Where an event makes no source active, a unit that nothing holds is left as it is, and stays unheld. -/
theorem State.settle_quiet (s : State) (b : Bank Bool 31) (h : ∀ i, s.sourceActive i = true → b.get i = true) (u : Fin 4)
    (e : s.holdOf u = .none) (k : (s.units.get u).state.held = false) :
    (s.settle b).units.get u = s.units.get u ∧ (s.settle b).holdOf u = .none := by
  have one (t : State) (c : Bank Bool 31) (h : ∀ i, t.sourceActive i = true → c.get i = true) (e : t.holdOf u = .none)
      (k : (t.units.get u).state.held = false) :
      (t.settleRound c).units.get u = t.units.get u ∧ (t.settleRound c).holdOf u = .none := by
    have hold := State.settleRound_unheld t c h u e
    refine ⟨?_, hold⟩
    rw [State.settleRound_units_get, hold]
    unfold PulseUnit.deliverHold
    cases st : (t.units.get u).state <;> simp_all [UnitState.held]
  have all : ∀ m (t : State) (c : Bank Bool 31), (∀ i, t.sourceActive i = true → c.get i = true) → t.holdOf u = .none →
      (t.units.get u).state.held = false →
      (State.settleFuel m c t).units.get u = t.units.get u ∧ (State.settleFuel m c t).holdOf u = .none := by
    intro m
    induction m with
    | zero => intro t c _ e _; exact ⟨rfl, e⟩
    | succ m ih =>
      intro t c h e k
      have r := one t c h e k
      unfold State.settleFuel
      dsimp only
      split
      · exact r
      · have q := ih (t.settleRound c) t.sources
          (fun i a => by rw [State.sources_get]; exact State.settleRound_sources t c i a) r.2 (by rw [r.1]; exact k)
        exact ⟨q.1.trans r.1, q.2⟩
  exact all 4 s b h e k

/-- Where an event changes no source and every unit agrees with its hold action, only qualifications are decided afresh. -/
theorem State.settle_still (s : State) (b : Bank Bool 31) (h : ∀ i, b.get i = s.sourceActive i)
    (rows : ∀ n, (s.reflex.rows.get n).agrees (s.tables.reflexRow n)
      (s.sourceActive (reflexSource (s.tables.reflexRow n))) = true)
    (units : ∀ u, (s.units.get u).deliverHold (s.tables.unitRow u) (s.holdOf u) = s.units.get u)
    (limits : ∀ n, (s.limits.rows.get n).active = true → ((s.settleRound b).limits.rows.get n).active = true)
    (inputs : ∀ r, (s.rotation.get r).stalled = true → ((s.settleRound b).rotation.get r).stalled = true) :
    (s.settle b).units = s.units ∧ (s.settle b).reflex.rows = s.reflex.rows := by
  have row (n : Fin 16) : (s.settleRound b).reflex.rows.get n = s.reflex.rows.get n := by
    have a := rows n
    rw [State.settleRound_rows, h]
    unfold ReflexRow.agrees at a
    unfold ReflexRow.follow
    cases en : reflexEnabled (s.tables.reflexRow n) <;> cases l : reflexLatched (s.tables.reflexRow n) <;>
      cases ac : (s.reflex.rows.get n).active <;>
      cases so : s.sourceActive (reflexSource (s.tables.reflexRow n)) <;> simp_all <;>
      (cases x : s.reflex.rows.get n; simp_all)
  have rowsAll : (s.settleRound b).reflex.rows = s.reflex.rows := Bank.ext_get row
  have hold (u : Fin 4) : (s.settleRound b).holdOf u = s.holdOf u :=
    State.holdOf_congr rowsAll (by simp [State.settleRound, State.requalify, State.formHolds, State.followSources, State.safeActive])
      (by simp) u
  have unit (u : Fin 4) : (s.settleRound b).units.get u = s.units.get u := by
    rw [State.settleRound_units_get, hold]; exact units u
  have unitsAll : (s.settleRound b).units = s.units := Bank.ext_get unit
  have src : (s.settleRound b).sources = s.sources := by
    refine Bank.ext_get fun i => ?_
    rw [State.sources_get, State.sources_get]
    unfold State.sourceActive
    split
    · cases ac : (s.limits.rows.get (Fin.ofNat 16 i.val)).active
      · cases x : ((s.settleRound b).limits.rows.get (Fin.ofNat 16 i.val)).active
        · rfl
        · rw [State.settleRound_limits_get] at x
          have := (LimitRow.requalify_active _ _ _ x).1
          simp_all
      · exact limits _ ac
    · split
      · simp [State.contactActive, State.conditionerRunning, State.tables]
      · split
        · cases ac : (s.rotation.get (Fin.ofNat 3 (i.val - 24))).stalled
          · cases x : ((s.settleRound b).rotation.get (Fin.ofNat 3 (i.val - 24))).stalled
            · rfl
            · rw [State.settleRound_rotation_get] at x
              have := Rotation.requalify_stalled _ _ x
              simp_all
          · exact inputs _ ac
        · rw [unit]
  unfold State.settle State.settleFuel
  simp only [src, if_true]
  exact ⟨unitsAll, rowsAll⟩

/-! ## The tables at a boundary and after a load -/

/-- The service block after a boundary's course: the marks taken (R151), and nothing else. -/
theorem State.openBeat_service (s : State) (b : Bank Bool 31) :
    (s.openBeat b).service = (s.takeMarks (beatMarks s.service.marks)).service := by
  unfold State.openBeat State.takeSwaps State.applyIf
  dsimp only
  simp only [State.openScan_service, State.settle_service, State.computeUnits_service, apply_ite State.service,
    State.decideRows_service, State.swapSafe_service, State.swapInputs_service, State.swapUnits_service, State.swapLimits_service,
    State.flush_service, ite_self]

/-- With no mark but SLOT's pending, a boundary leaves the active copies as they are. -/
theorem State.openBeat_unmarked (s : State) (b : Bank Bool 31) (h : beatMarks s.service.marks = 0) :
    (s.openBeat b).tables = s.tables := by
  unfold State.tables
  rw [State.openBeat_service, h]
  simp [State.takeMarks, takeShadow, TableId.inOrder, inSet]

/-- The tables after a load or reload that no mark outlasts: those the load put into the active copies (R153). -/
theorem State.endLoad_tables (s : State) (k : Byte) (p : s.phase = .loading ∨ s.phase = .reloading)
    (h : beatMarks s.service.marks = 0) : (s.endLoad k).tables = s.loadProfile.tables := by
  have e : s.phase = .loading ∨ s.reloading = true := p.imp id fun r => by simp [State.reloading, r]
  have n : s.phase ≠ .standbyReload := by rcases p with r | r <;> simp [r]
  unfold State.endLoad
  rw [if_pos e]
  dsimp only
  rw [if_neg n]
  unfold State.startAfterLoad
  dsimp only
  rw [State.openBeat_unmarked _ _
    (by simpa [State.ageSlots, State.dropBeatDue, State.latch, State.startConditioner, State.loadProfile, State.clearDue] using h)]
  rfl

/-- A TABLES section that loads gives the last of them. -/
theorem State.loadProfile_tables (s : State) (h : ∀ t, s.profile.loads .tables t = true) :
    ∃ t, s.loadProfile.tables = s.profile.sectionTables .tables t := by
  refine ⟨s.profile.loadSection .safe (s.profile.loadSection .cal s.service.active), ?_⟩
  show s.profile.loadSection .tables _ = _
  rw [Profile.loadSection, if_pos (h _)]

end Sys2Proof.Machine
end

