-- ==== Sys2Proof/Laws/Passing.lean ====
section
/-! SUPPORT. The fields the link engine leaves alone while a frame passes (R135: a pass draws fills and stages takes, and nothing
else until the frame's end). -/

namespace Sys2Proof.Machine

set_option Elab.async false

variable (s : State)

theorem State.applyIf_field {α : Type} (g : State → α) (b : Bool) (f : State → State) (h : g (f s) = g s) :
    g (s.applyIf b f) = g s := by
  unfold State.applyIf; split
  · exact h
  · rfl

/-! ## clearFresh -/

@[simp] theorem State.clearFresh_pending (n : Nat) : (s.clearFresh n).pending = s.pending := rfl
@[simp] theorem State.clearFresh_due (n : Nat) : (s.clearFresh n).due = s.due := rfl
@[simp] theorem State.clearFresh_now (n : Nat) : (s.clearFresh n).now = s.now := rfl
@[simp] theorem State.clearFresh_phase (n : Nat) : (s.clearFresh n).phase = s.phase := rfl
@[simp] theorem State.clearFresh_loadTicks (n : Nat) : (s.clearFresh n).loadTicks = s.loadTicks := rfl
@[simp] theorem State.clearFresh_cause (n : Nat) : (s.clearFresh n).cause = s.cause := rfl
@[simp] theorem State.clearFresh_strap (n : Nat) : (s.clearFresh n).strap = s.strap := rfl
@[simp] theorem State.clearFresh_beat (n : Nat) : (s.clearFresh n).beat = s.beat := rfl
@[simp] theorem State.clearFresh_units (n : Nat) : (s.clearFresh n).units = s.units := rfl
@[simp] theorem State.clearFresh_scan (n : Nat) : (s.clearFresh n).scan = s.scan := rfl
@[simp] theorem State.clearFresh_contacts (n : Nat) : (s.clearFresh n).contacts = s.contacts := rfl
@[simp] theorem State.clearFresh_rotation (n : Nat) : (s.clearFresh n).rotation = s.rotation := rfl
@[simp] theorem State.clearFresh_pins (n : Nat) : (s.clearFresh n).pins = s.pins := rfl
@[simp] theorem State.clearFresh_limits (n : Nat) : (s.clearFresh n).limits = s.limits := rfl
@[simp] theorem State.clearFresh_reflex (n : Nat) : (s.clearFresh n).reflex = s.reflex := rfl
@[simp] theorem State.clearFresh_status (n : Nat) : (s.clearFresh n).status = s.status := rfl
@[simp] theorem State.clearFresh_link (n : Nat) : (s.clearFresh n).link = s.link := rfl
@[simp] theorem State.clearFresh_service (n : Nat) : (s.clearFresh n).service = s.service := rfl
@[simp] theorem State.clearFresh_profile (n : Nat) : (s.clearFresh n).profile = s.profile := rfl
@[simp] theorem State.clearFresh_answer (n : Nat) : (s.clearFresh n).answer = s.answer := rfl
@[simp] theorem State.clearFresh_freeCount (n : Nat) : (s.clearFresh n).freeCount = s.freeCount := rfl

/-! ## clearChanges -/

@[simp] theorem State.clearChanges_pending : (s.clearChanges).pending = s.pending := rfl
@[simp] theorem State.clearChanges_due : (s.clearChanges).due = s.due := rfl
@[simp] theorem State.clearChanges_now : (s.clearChanges).now = s.now := rfl
@[simp] theorem State.clearChanges_phase : (s.clearChanges).phase = s.phase := rfl
@[simp] theorem State.clearChanges_loadTicks : (s.clearChanges).loadTicks = s.loadTicks := rfl
@[simp] theorem State.clearChanges_cause : (s.clearChanges).cause = s.cause := rfl
@[simp] theorem State.clearChanges_strap : (s.clearChanges).strap = s.strap := rfl
@[simp] theorem State.clearChanges_beat : (s.clearChanges).beat = s.beat := rfl
@[simp] theorem State.clearChanges_units : (s.clearChanges).units = s.units := rfl
@[simp] theorem State.clearChanges_scan : (s.clearChanges).scan = s.scan := rfl
@[simp] theorem State.clearChanges_slots : (s.clearChanges).slots = s.slots := rfl
@[simp] theorem State.clearChanges_rotation : (s.clearChanges).rotation = s.rotation := rfl
@[simp] theorem State.clearChanges_pins : (s.clearChanges).pins = s.pins := rfl
@[simp] theorem State.clearChanges_limits : (s.clearChanges).limits = s.limits := rfl
@[simp] theorem State.clearChanges_reflex : (s.clearChanges).reflex = s.reflex := rfl
@[simp] theorem State.clearChanges_status : (s.clearChanges).status = s.status := rfl
@[simp] theorem State.clearChanges_link : (s.clearChanges).link = s.link := rfl
@[simp] theorem State.clearChanges_service : (s.clearChanges).service = s.service := rfl
@[simp] theorem State.clearChanges_profile : (s.clearChanges).profile = s.profile := rfl
@[simp] theorem State.clearChanges_answer : (s.clearChanges).answer = s.answer := rfl
@[simp] theorem State.clearChanges_freeCount : (s.clearChanges).freeCount = s.freeCount := rfl

/-! ## fill1 -/

@[simp] theorem State.fill_pending (row : Row) (p : Nat) : (s.fill row p).1.pending = s.pending := by unfold State.fill; split <;> rfl
@[simp] theorem State.fill_due (row : Row) (p : Nat) : (s.fill row p).1.due = s.due := by unfold State.fill; split <;> rfl
@[simp] theorem State.fill_now (row : Row) (p : Nat) : (s.fill row p).1.now = s.now := by unfold State.fill; split <;> rfl
@[simp] theorem State.fill_phase (row : Row) (p : Nat) : (s.fill row p).1.phase = s.phase := by unfold State.fill; split <;> rfl
@[simp] theorem State.fill_loadTicks (row : Row) (p : Nat) : (s.fill row p).1.loadTicks = s.loadTicks := by unfold State.fill; split <;> rfl
@[simp] theorem State.fill_cause (row : Row) (p : Nat) : (s.fill row p).1.cause = s.cause := by unfold State.fill; split <;> rfl
@[simp] theorem State.fill_strap (row : Row) (p : Nat) : (s.fill row p).1.strap = s.strap := by unfold State.fill; split <;> rfl
@[simp] theorem State.fill_beat (row : Row) (p : Nat) : (s.fill row p).1.beat = s.beat := by unfold State.fill; split <;> rfl
@[simp] theorem State.fill_units (row : Row) (p : Nat) : (s.fill row p).1.units = s.units := by unfold State.fill; split <;> rfl
@[simp] theorem State.fill_scan (row : Row) (p : Nat) : (s.fill row p).1.scan = s.scan := by unfold State.fill; split <;> rfl
@[simp] theorem State.fill_rotation (row : Row) (p : Nat) : (s.fill row p).1.rotation = s.rotation := by unfold State.fill; split <;> rfl
@[simp] theorem State.fill_pins (row : Row) (p : Nat) : (s.fill row p).1.pins = s.pins := by unfold State.fill; split <;> rfl
@[simp] theorem State.fill_limits (row : Row) (p : Nat) : (s.fill row p).1.limits = s.limits := by unfold State.fill; split <;> rfl
@[simp] theorem State.fill_reflex (row : Row) (p : Nat) : (s.fill row p).1.reflex = s.reflex := by unfold State.fill; split <;> rfl
@[simp] theorem State.fill_status (row : Row) (p : Nat) : (s.fill row p).1.status = s.status := by unfold State.fill; split <;> rfl
@[simp] theorem State.fill_link (row : Row) (p : Nat) : (s.fill row p).1.link = s.link := by unfold State.fill; split <;> rfl
@[simp] theorem State.fill_service (row : Row) (p : Nat) : (s.fill row p).1.service = s.service := by unfold State.fill; split <;> rfl
@[simp] theorem State.fill_profile (row : Row) (p : Nat) : (s.fill row p).1.profile = s.profile := by unfold State.fill; split <;> rfl
@[simp] theorem State.fill_answer (row : Row) (p : Nat) : (s.fill row p).1.answer = s.answer := by unfold State.fill; split <;> rfl
@[simp] theorem State.fill_freeCount (row : Row) (p : Nat) : (s.fill row p).1.freeCount = s.freeCount := by unfold State.fill; split <;> rfl

/-! ## take -/

@[simp] theorem State.take_pending (row : Row) (seg : List Byte) : (s.take row seg).pending = s.pending := by unfold State.take; split <;> rfl
@[simp] theorem State.take_due (row : Row) (seg : List Byte) : (s.take row seg).due = s.due := by unfold State.take; split <;> rfl
@[simp] theorem State.take_now (row : Row) (seg : List Byte) : (s.take row seg).now = s.now := by unfold State.take; split <;> rfl
@[simp] theorem State.take_phase (row : Row) (seg : List Byte) : (s.take row seg).phase = s.phase := by unfold State.take; split <;> rfl
@[simp] theorem State.take_loadTicks (row : Row) (seg : List Byte) : (s.take row seg).loadTicks = s.loadTicks := by unfold State.take; split <;> rfl
@[simp] theorem State.take_cause (row : Row) (seg : List Byte) : (s.take row seg).cause = s.cause := by unfold State.take; split <;> rfl
@[simp] theorem State.take_strap (row : Row) (seg : List Byte) : (s.take row seg).strap = s.strap := by unfold State.take; split <;> rfl
@[simp] theorem State.take_beat (row : Row) (seg : List Byte) : (s.take row seg).beat = s.beat := by unfold State.take; split <;> rfl
@[simp] theorem State.take_units (row : Row) (seg : List Byte) : (s.take row seg).units = s.units := by unfold State.take; split <;> rfl
@[simp] theorem State.take_scan (row : Row) (seg : List Byte) : (s.take row seg).scan = s.scan := by unfold State.take; split <;> rfl
@[simp] theorem State.take_slots (row : Row) (seg : List Byte) : (s.take row seg).slots = s.slots := by unfold State.take; split <;> rfl
@[simp] theorem State.take_contacts (row : Row) (seg : List Byte) : (s.take row seg).contacts = s.contacts := by unfold State.take; split <;> rfl
@[simp] theorem State.take_rotation (row : Row) (seg : List Byte) : (s.take row seg).rotation = s.rotation := by unfold State.take; split <;> rfl
@[simp] theorem State.take_pins (row : Row) (seg : List Byte) : (s.take row seg).pins = s.pins := by unfold State.take; split <;> rfl
@[simp] theorem State.take_limits (row : Row) (seg : List Byte) : (s.take row seg).limits = s.limits := by unfold State.take; split <;> rfl
@[simp] theorem State.take_reflex (row : Row) (seg : List Byte) : (s.take row seg).reflex = s.reflex := by unfold State.take; split <;> rfl
@[simp] theorem State.take_status (row : Row) (seg : List Byte) : (s.take row seg).status = s.status := by unfold State.take; split <;> rfl
@[simp] theorem State.take_service (row : Row) (seg : List Byte) : (s.take row seg).service = s.service := by unfold State.take; split <;> rfl
@[simp] theorem State.take_profile (row : Row) (seg : List Byte) : (s.take row seg).profile = s.profile := by unfold State.take; split <;> rfl
@[simp] theorem State.take_answer (row : Row) (seg : List Byte) : (s.take row seg).answer = s.answer := by unfold State.take; split <;> rfl
@[simp] theorem State.take_freeCount (row : Row) (seg : List Byte) : (s.take row seg).freeCount = s.freeCount := by unfold State.take; split <;> rfl

/-! ## slotSwap -/

@[simp] theorem State.slotSwap_pending : (s.slotSwap).pending = s.pending := by unfold State.slotSwap; split <;> simp
@[simp] theorem State.slotSwap_due : (s.slotSwap).due = s.due := by unfold State.slotSwap; split <;> simp
@[simp] theorem State.slotSwap_now : (s.slotSwap).now = s.now := by unfold State.slotSwap; split <;> simp
@[simp] theorem State.slotSwap_phase : (s.slotSwap).phase = s.phase := by unfold State.slotSwap; split <;> simp
@[simp] theorem State.slotSwap_loadTicks : (s.slotSwap).loadTicks = s.loadTicks := by unfold State.slotSwap; split <;> simp
@[simp] theorem State.slotSwap_cause : (s.slotSwap).cause = s.cause := by unfold State.slotSwap; split <;> simp
@[simp] theorem State.slotSwap_strap : (s.slotSwap).strap = s.strap := by unfold State.slotSwap; split <;> simp
@[simp] theorem State.slotSwap_beat : (s.slotSwap).beat = s.beat := by unfold State.slotSwap; split <;> simp
@[simp] theorem State.slotSwap_units : (s.slotSwap).units = s.units := by unfold State.slotSwap; split <;> simp
@[simp] theorem State.slotSwap_scan : (s.slotSwap).scan = s.scan := by unfold State.slotSwap; split <;> simp
@[simp] theorem State.slotSwap_slots : (s.slotSwap).slots = s.slots := by unfold State.slotSwap; split <;> simp
@[simp] theorem State.slotSwap_contacts : (s.slotSwap).contacts = s.contacts := by unfold State.slotSwap; split <;> simp
@[simp] theorem State.slotSwap_rotation : (s.slotSwap).rotation = s.rotation := by unfold State.slotSwap; split <;> simp
@[simp] theorem State.slotSwap_pins : (s.slotSwap).pins = s.pins := by unfold State.slotSwap; split <;> simp
@[simp] theorem State.slotSwap_limits : (s.slotSwap).limits = s.limits := by unfold State.slotSwap; split <;> simp
@[simp] theorem State.slotSwap_reflex : (s.slotSwap).reflex = s.reflex := by unfold State.slotSwap; split <;> simp
@[simp] theorem State.slotSwap_link : (s.slotSwap).link = s.link := by unfold State.slotSwap; split <;> simp
@[simp] theorem State.slotSwap_profile : (s.slotSwap).profile = s.profile := by unfold State.slotSwap; split <;> simp
@[simp] theorem State.slotSwap_answer : (s.slotSwap).answer = s.answer := by unfold State.slotSwap; split <;> simp
@[simp] theorem State.slotSwap_freeCount : (s.slotSwap).freeCount = s.freeCount := by unfold State.slotSwap; split <;> simp

@[simp] theorem segmentByte_pending (p : Pass) (i : Nat) (b : Byte) : (segmentByte s p i b).state.pending = s.pending := by
  unfold segmentByte overlaid passThrough; (repeat' (first | split | dsimp only)) <;> simp
@[simp] theorem segmentByte_due (p : Pass) (i : Nat) (b : Byte) : (segmentByte s p i b).state.due = s.due := by
  unfold segmentByte overlaid passThrough; (repeat' (first | split | dsimp only)) <;> simp
@[simp] theorem segmentByte_now (p : Pass) (i : Nat) (b : Byte) : (segmentByte s p i b).state.now = s.now := by
  unfold segmentByte overlaid passThrough; (repeat' (first | split | dsimp only)) <;> simp
@[simp] theorem segmentByte_phase (p : Pass) (i : Nat) (b : Byte) : (segmentByte s p i b).state.phase = s.phase := by
  unfold segmentByte overlaid passThrough; (repeat' (first | split | dsimp only)) <;> simp
@[simp] theorem segmentByte_loadTicks (p : Pass) (i : Nat) (b : Byte) : (segmentByte s p i b).state.loadTicks = s.loadTicks := by
  unfold segmentByte overlaid passThrough; (repeat' (first | split | dsimp only)) <;> simp
@[simp] theorem segmentByte_cause (p : Pass) (i : Nat) (b : Byte) : (segmentByte s p i b).state.cause = s.cause := by
  unfold segmentByte overlaid passThrough; (repeat' (first | split | dsimp only)) <;> simp
@[simp] theorem segmentByte_strap (p : Pass) (i : Nat) (b : Byte) : (segmentByte s p i b).state.strap = s.strap := by
  unfold segmentByte overlaid passThrough; (repeat' (first | split | dsimp only)) <;> simp
@[simp] theorem segmentByte_beat (p : Pass) (i : Nat) (b : Byte) : (segmentByte s p i b).state.beat = s.beat := by
  unfold segmentByte overlaid passThrough; (repeat' (first | split | dsimp only)) <;> simp
@[simp] theorem segmentByte_units (p : Pass) (i : Nat) (b : Byte) : (segmentByte s p i b).state.units = s.units := by
  unfold segmentByte overlaid passThrough; (repeat' (first | split | dsimp only)) <;> simp
@[simp] theorem segmentByte_scan (p : Pass) (i : Nat) (b : Byte) : (segmentByte s p i b).state.scan = s.scan := by
  unfold segmentByte overlaid passThrough; (repeat' (first | split | dsimp only)) <;> simp
@[simp] theorem segmentByte_rotation (p : Pass) (i : Nat) (b : Byte) : (segmentByte s p i b).state.rotation = s.rotation := by
  unfold segmentByte overlaid passThrough; (repeat' (first | split | dsimp only)) <;> simp
@[simp] theorem segmentByte_pins (p : Pass) (i : Nat) (b : Byte) : (segmentByte s p i b).state.pins = s.pins := by
  unfold segmentByte overlaid passThrough; (repeat' (first | split | dsimp only)) <;> simp
@[simp] theorem segmentByte_limits (p : Pass) (i : Nat) (b : Byte) : (segmentByte s p i b).state.limits = s.limits := by
  unfold segmentByte overlaid passThrough; (repeat' (first | split | dsimp only)) <;> simp
@[simp] theorem segmentByte_reflex (p : Pass) (i : Nat) (b : Byte) : (segmentByte s p i b).state.reflex = s.reflex := by
  unfold segmentByte overlaid passThrough; (repeat' (first | split | dsimp only)) <;> simp
@[simp] theorem segmentByte_status (p : Pass) (i : Nat) (b : Byte) : (segmentByte s p i b).state.status = s.status := by
  unfold segmentByte overlaid passThrough; (repeat' (first | split | dsimp only)) <;> simp
@[simp] theorem segmentByte_service (p : Pass) (i : Nat) (b : Byte) : (segmentByte s p i b).state.service = s.service := by
  unfold segmentByte overlaid passThrough; (repeat' (first | split | dsimp only)) <;> simp
@[simp] theorem segmentByte_profile (p : Pass) (i : Nat) (b : Byte) : (segmentByte s p i b).state.profile = s.profile := by
  unfold segmentByte overlaid passThrough; (repeat' (first | split | dsimp only)) <;> simp
@[simp] theorem segmentByte_answer (p : Pass) (i : Nat) (b : Byte) : (segmentByte s p i b).state.answer = s.answer := by
  unfold segmentByte overlaid passThrough; (repeat' (first | split | dsimp only)) <;> simp
@[simp] theorem segmentByte_freeCount (p : Pass) (i : Nat) (b : Byte) : (segmentByte s p i b).state.freeCount = s.freeCount := by
  unfold segmentByte overlaid passThrough; (repeat' (first | split | dsimp only)) <;> simp

theorem headerByte_state (p : Pass) (i : Nat) (b : Byte) : (headerByte s p i b).state = s := by
  unfold headerByte formatError passThrough; (repeat' (first | split | dsimp only))

theorem areaByte_state (p : Pass) (i : Nat) (b : Byte) : (areaByte s p i b).state = s := by
  unfold areaByte overlaid formatError passThrough; (repeat' (first | split | dsimp only))

theorem maskByte_state (p : Pass) (i : Nat) (b : Byte) : (maskByte s p i b).state = s := by
  unfold maskByte formatError passThrough; (repeat' (first | split | dsimp only))

@[simp] theorem coveredByte_pending (p : Pass) (i : Nat) (b : Byte) : (coveredByte s p i b).state.pending = s.pending := by
  unfold coveredByte passThrough; (repeat' split) <;> simp [headerByte_state, areaByte_state, maskByte_state]
@[simp] theorem passByte_pending (p : Pass) (b : Byte) : (passByte s p b).1.pending = s.pending := by
  unfold passByte; dsimp only; (repeat' split) <;> simp
@[simp] theorem coveredByte_due (p : Pass) (i : Nat) (b : Byte) : (coveredByte s p i b).state.due = s.due := by
  unfold coveredByte passThrough; (repeat' split) <;> simp [headerByte_state, areaByte_state, maskByte_state]
@[simp] theorem passByte_due (p : Pass) (b : Byte) : (passByte s p b).1.due = s.due := by
  unfold passByte; dsimp only; (repeat' split) <;> simp
@[simp] theorem coveredByte_now (p : Pass) (i : Nat) (b : Byte) : (coveredByte s p i b).state.now = s.now := by
  unfold coveredByte passThrough; (repeat' split) <;> simp [headerByte_state, areaByte_state, maskByte_state]
@[simp] theorem passByte_now (p : Pass) (b : Byte) : (passByte s p b).1.now = s.now := by
  unfold passByte; dsimp only; (repeat' split) <;> simp
@[simp] theorem coveredByte_phase (p : Pass) (i : Nat) (b : Byte) : (coveredByte s p i b).state.phase = s.phase := by
  unfold coveredByte passThrough; (repeat' split) <;> simp [headerByte_state, areaByte_state, maskByte_state]
@[simp] theorem passByte_phase (p : Pass) (b : Byte) : (passByte s p b).1.phase = s.phase := by
  unfold passByte; dsimp only; (repeat' split) <;> simp
@[simp] theorem coveredByte_loadTicks (p : Pass) (i : Nat) (b : Byte) : (coveredByte s p i b).state.loadTicks = s.loadTicks := by
  unfold coveredByte passThrough; (repeat' split) <;> simp [headerByte_state, areaByte_state, maskByte_state]
@[simp] theorem passByte_loadTicks (p : Pass) (b : Byte) : (passByte s p b).1.loadTicks = s.loadTicks := by
  unfold passByte; dsimp only; (repeat' split) <;> simp
@[simp] theorem coveredByte_cause (p : Pass) (i : Nat) (b : Byte) : (coveredByte s p i b).state.cause = s.cause := by
  unfold coveredByte passThrough; (repeat' split) <;> simp [headerByte_state, areaByte_state, maskByte_state]
@[simp] theorem passByte_cause (p : Pass) (b : Byte) : (passByte s p b).1.cause = s.cause := by
  unfold passByte; dsimp only; (repeat' split) <;> simp
@[simp] theorem coveredByte_strap (p : Pass) (i : Nat) (b : Byte) : (coveredByte s p i b).state.strap = s.strap := by
  unfold coveredByte passThrough; (repeat' split) <;> simp [headerByte_state, areaByte_state, maskByte_state]
@[simp] theorem passByte_strap (p : Pass) (b : Byte) : (passByte s p b).1.strap = s.strap := by
  unfold passByte; dsimp only; (repeat' split) <;> simp
@[simp] theorem coveredByte_beat (p : Pass) (i : Nat) (b : Byte) : (coveredByte s p i b).state.beat = s.beat := by
  unfold coveredByte passThrough; (repeat' split) <;> simp [headerByte_state, areaByte_state, maskByte_state]
@[simp] theorem passByte_beat (p : Pass) (b : Byte) : (passByte s p b).1.beat = s.beat := by
  unfold passByte; dsimp only; (repeat' split) <;> simp
@[simp] theorem coveredByte_units (p : Pass) (i : Nat) (b : Byte) : (coveredByte s p i b).state.units = s.units := by
  unfold coveredByte passThrough; (repeat' split) <;> simp [headerByte_state, areaByte_state, maskByte_state]
@[simp] theorem passByte_units (p : Pass) (b : Byte) : (passByte s p b).1.units = s.units := by
  unfold passByte; dsimp only; (repeat' split) <;> simp
@[simp] theorem coveredByte_scan (p : Pass) (i : Nat) (b : Byte) : (coveredByte s p i b).state.scan = s.scan := by
  unfold coveredByte passThrough; (repeat' split) <;> simp [headerByte_state, areaByte_state, maskByte_state]
@[simp] theorem passByte_scan (p : Pass) (b : Byte) : (passByte s p b).1.scan = s.scan := by
  unfold passByte; dsimp only; (repeat' split) <;> simp
@[simp] theorem coveredByte_rotation (p : Pass) (i : Nat) (b : Byte) : (coveredByte s p i b).state.rotation = s.rotation := by
  unfold coveredByte passThrough; (repeat' split) <;> simp [headerByte_state, areaByte_state, maskByte_state]
@[simp] theorem passByte_rotation (p : Pass) (b : Byte) : (passByte s p b).1.rotation = s.rotation := by
  unfold passByte; dsimp only; (repeat' split) <;> simp
@[simp] theorem coveredByte_pins (p : Pass) (i : Nat) (b : Byte) : (coveredByte s p i b).state.pins = s.pins := by
  unfold coveredByte passThrough; (repeat' split) <;> simp [headerByte_state, areaByte_state, maskByte_state]
@[simp] theorem passByte_pins (p : Pass) (b : Byte) : (passByte s p b).1.pins = s.pins := by
  unfold passByte; dsimp only; (repeat' split) <;> simp
@[simp] theorem coveredByte_limits (p : Pass) (i : Nat) (b : Byte) : (coveredByte s p i b).state.limits = s.limits := by
  unfold coveredByte passThrough; (repeat' split) <;> simp [headerByte_state, areaByte_state, maskByte_state]
@[simp] theorem passByte_limits (p : Pass) (b : Byte) : (passByte s p b).1.limits = s.limits := by
  unfold passByte; dsimp only; (repeat' split) <;> simp
@[simp] theorem coveredByte_reflex (p : Pass) (i : Nat) (b : Byte) : (coveredByte s p i b).state.reflex = s.reflex := by
  unfold coveredByte passThrough; (repeat' split) <;> simp [headerByte_state, areaByte_state, maskByte_state]
@[simp] theorem passByte_reflex (p : Pass) (b : Byte) : (passByte s p b).1.reflex = s.reflex := by
  unfold passByte; dsimp only; (repeat' split) <;> simp
@[simp] theorem coveredByte_status (p : Pass) (i : Nat) (b : Byte) : (coveredByte s p i b).state.status = s.status := by
  unfold coveredByte passThrough; (repeat' split) <;> simp [headerByte_state, areaByte_state, maskByte_state]
@[simp] theorem passByte_status (p : Pass) (b : Byte) : (passByte s p b).1.status = s.status := by
  unfold passByte; dsimp only; (repeat' split) <;> simp
@[simp] theorem coveredByte_service (p : Pass) (i : Nat) (b : Byte) : (coveredByte s p i b).state.service = s.service := by
  unfold coveredByte passThrough; (repeat' split) <;> simp [headerByte_state, areaByte_state, maskByte_state]
@[simp] theorem passByte_service (p : Pass) (b : Byte) : (passByte s p b).1.service = s.service := by
  unfold passByte; dsimp only; (repeat' split) <;> simp
@[simp] theorem coveredByte_profile (p : Pass) (i : Nat) (b : Byte) : (coveredByte s p i b).state.profile = s.profile := by
  unfold coveredByte passThrough; (repeat' split) <;> simp [headerByte_state, areaByte_state, maskByte_state]
@[simp] theorem passByte_profile (p : Pass) (b : Byte) : (passByte s p b).1.profile = s.profile := by
  unfold passByte; dsimp only; (repeat' split) <;> simp
@[simp] theorem coveredByte_answer (p : Pass) (i : Nat) (b : Byte) : (coveredByte s p i b).state.answer = s.answer := by
  unfold coveredByte passThrough; (repeat' split) <;> simp [headerByte_state, areaByte_state, maskByte_state]
@[simp] theorem passByte_answer (p : Pass) (b : Byte) : (passByte s p b).1.answer = s.answer := by
  unfold passByte; dsimp only; (repeat' split) <;> simp
@[simp] theorem coveredByte_freeCount (p : Pass) (i : Nat) (b : Byte) : (coveredByte s p i b).state.freeCount = s.freeCount := by
  unfold coveredByte passThrough; (repeat' split) <;> simp [headerByte_state, areaByte_state, maskByte_state]
@[simp] theorem passByte_freeCount (p : Pass) (b : Byte) : (passByte s p b).1.freeCount = s.freeCount := by
  unfold passByte; dsimp only; (repeat' split) <;> simp

@[simp] theorem State.startUp_pending (b : Byte) : (s.startUp b).pending = s.pending := rfl
@[simp] theorem State.missUp_pending (l : List Byte) (n : Nat) : (s.missUp l n).pending = s.pending := by
  unfold State.missUp; (repeat' split) <;> rfl
@[simp] theorem State.routeUp_pending (p : Pass) (b : Byte) : (s.routeUp p b).pending = s.pending := by
  unfold State.routeUp; dsimp only; split <;> simp
@[simp] theorem State.nextUp_pending (p : Pass) (b : Byte) : (s.nextUp p b).pending = s.pending := by
  unfold State.nextUp State.applyIf; dsimp only; (repeat' split) <;> simp
@[simp] theorem State.byteUp_pending (b : Byte) : (s.byteUp b).pending = s.pending := by
  unfold State.byteUp; split <;> simp
theorem State.bytesUp_pending (l : List Byte) : (l.foldl State.byteUp s).pending = s.pending := by
  induction l generalizing s with
  | nil => rfl
  | cons b l ih => rw [List.foldl_cons, ih]; simp
@[simp] theorem State.startUp_due (b : Byte) : (s.startUp b).due = s.due := rfl
@[simp] theorem State.missUp_due (l : List Byte) (n : Nat) : (s.missUp l n).due = s.due := by
  unfold State.missUp; (repeat' split) <;> rfl
@[simp] theorem State.routeUp_due (p : Pass) (b : Byte) : (s.routeUp p b).due = s.due := by
  unfold State.routeUp; dsimp only; split <;> simp
@[simp] theorem State.nextUp_due (p : Pass) (b : Byte) : (s.nextUp p b).due = s.due := by
  unfold State.nextUp State.applyIf; dsimp only; (repeat' split) <;> simp
@[simp] theorem State.byteUp_due (b : Byte) : (s.byteUp b).due = s.due := by
  unfold State.byteUp; split <;> simp
theorem State.bytesUp_due (l : List Byte) : (l.foldl State.byteUp s).due = s.due := by
  induction l generalizing s with
  | nil => rfl
  | cons b l ih => rw [List.foldl_cons, ih]; simp
@[simp] theorem State.startUp_now (b : Byte) : (s.startUp b).now = s.now := rfl
@[simp] theorem State.missUp_now (l : List Byte) (n : Nat) : (s.missUp l n).now = s.now := by
  unfold State.missUp; (repeat' split) <;> rfl
@[simp] theorem State.routeUp_now (p : Pass) (b : Byte) : (s.routeUp p b).now = s.now := by
  unfold State.routeUp; dsimp only; split <;> simp
@[simp] theorem State.nextUp_now (p : Pass) (b : Byte) : (s.nextUp p b).now = s.now := by
  unfold State.nextUp State.applyIf; dsimp only; (repeat' split) <;> simp
@[simp] theorem State.byteUp_now (b : Byte) : (s.byteUp b).now = s.now := by
  unfold State.byteUp; split <;> simp
theorem State.bytesUp_now (l : List Byte) : (l.foldl State.byteUp s).now = s.now := by
  induction l generalizing s with
  | nil => rfl
  | cons b l ih => rw [List.foldl_cons, ih]; simp
@[simp] theorem State.startUp_phase (b : Byte) : (s.startUp b).phase = s.phase := rfl
@[simp] theorem State.missUp_phase (l : List Byte) (n : Nat) : (s.missUp l n).phase = s.phase := by
  unfold State.missUp; (repeat' split) <;> rfl
@[simp] theorem State.routeUp_phase (p : Pass) (b : Byte) : (s.routeUp p b).phase = s.phase := by
  unfold State.routeUp; dsimp only; split <;> simp
@[simp] theorem State.nextUp_phase (p : Pass) (b : Byte) : (s.nextUp p b).phase = s.phase := by
  unfold State.nextUp State.applyIf; dsimp only; (repeat' split) <;> simp
@[simp] theorem State.byteUp_phase (b : Byte) : (s.byteUp b).phase = s.phase := by
  unfold State.byteUp; split <;> simp
theorem State.bytesUp_phase (l : List Byte) : (l.foldl State.byteUp s).phase = s.phase := by
  induction l generalizing s with
  | nil => rfl
  | cons b l ih => rw [List.foldl_cons, ih]; simp
@[simp] theorem State.startUp_loadTicks (b : Byte) : (s.startUp b).loadTicks = s.loadTicks := rfl
@[simp] theorem State.missUp_loadTicks (l : List Byte) (n : Nat) : (s.missUp l n).loadTicks = s.loadTicks := by
  unfold State.missUp; (repeat' split) <;> rfl
@[simp] theorem State.routeUp_loadTicks (p : Pass) (b : Byte) : (s.routeUp p b).loadTicks = s.loadTicks := by
  unfold State.routeUp; dsimp only; split <;> simp
@[simp] theorem State.nextUp_loadTicks (p : Pass) (b : Byte) : (s.nextUp p b).loadTicks = s.loadTicks := by
  unfold State.nextUp State.applyIf; dsimp only; (repeat' split) <;> simp
@[simp] theorem State.byteUp_loadTicks (b : Byte) : (s.byteUp b).loadTicks = s.loadTicks := by
  unfold State.byteUp; split <;> simp
theorem State.bytesUp_loadTicks (l : List Byte) : (l.foldl State.byteUp s).loadTicks = s.loadTicks := by
  induction l generalizing s with
  | nil => rfl
  | cons b l ih => rw [List.foldl_cons, ih]; simp
@[simp] theorem State.startUp_cause (b : Byte) : (s.startUp b).cause = s.cause := rfl
@[simp] theorem State.missUp_cause (l : List Byte) (n : Nat) : (s.missUp l n).cause = s.cause := by
  unfold State.missUp; (repeat' split) <;> rfl
@[simp] theorem State.routeUp_cause (p : Pass) (b : Byte) : (s.routeUp p b).cause = s.cause := by
  unfold State.routeUp; dsimp only; split <;> simp
@[simp] theorem State.nextUp_cause (p : Pass) (b : Byte) : (s.nextUp p b).cause = s.cause := by
  unfold State.nextUp State.applyIf; dsimp only; (repeat' split) <;> simp
@[simp] theorem State.byteUp_cause (b : Byte) : (s.byteUp b).cause = s.cause := by
  unfold State.byteUp; split <;> simp
theorem State.bytesUp_cause (l : List Byte) : (l.foldl State.byteUp s).cause = s.cause := by
  induction l generalizing s with
  | nil => rfl
  | cons b l ih => rw [List.foldl_cons, ih]; simp
@[simp] theorem State.startUp_strap (b : Byte) : (s.startUp b).strap = s.strap := rfl
@[simp] theorem State.missUp_strap (l : List Byte) (n : Nat) : (s.missUp l n).strap = s.strap := by
  unfold State.missUp; (repeat' split) <;> rfl
@[simp] theorem State.routeUp_strap (p : Pass) (b : Byte) : (s.routeUp p b).strap = s.strap := by
  unfold State.routeUp; dsimp only; split <;> simp
@[simp] theorem State.nextUp_strap (p : Pass) (b : Byte) : (s.nextUp p b).strap = s.strap := by
  unfold State.nextUp State.applyIf; dsimp only; (repeat' split) <;> simp
@[simp] theorem State.byteUp_strap (b : Byte) : (s.byteUp b).strap = s.strap := by
  unfold State.byteUp; split <;> simp
theorem State.bytesUp_strap (l : List Byte) : (l.foldl State.byteUp s).strap = s.strap := by
  induction l generalizing s with
  | nil => rfl
  | cons b l ih => rw [List.foldl_cons, ih]; simp
@[simp] theorem State.startUp_beat (b : Byte) : (s.startUp b).beat = s.beat := rfl
@[simp] theorem State.missUp_beat (l : List Byte) (n : Nat) : (s.missUp l n).beat = s.beat := by
  unfold State.missUp; (repeat' split) <;> rfl
@[simp] theorem State.routeUp_beat (p : Pass) (b : Byte) : (s.routeUp p b).beat = s.beat := by
  unfold State.routeUp; dsimp only; split <;> simp
@[simp] theorem State.nextUp_beat (p : Pass) (b : Byte) : (s.nextUp p b).beat = s.beat := by
  unfold State.nextUp State.applyIf; dsimp only; (repeat' split) <;> simp
@[simp] theorem State.byteUp_beat (b : Byte) : (s.byteUp b).beat = s.beat := by
  unfold State.byteUp; split <;> simp
theorem State.bytesUp_beat (l : List Byte) : (l.foldl State.byteUp s).beat = s.beat := by
  induction l generalizing s with
  | nil => rfl
  | cons b l ih => rw [List.foldl_cons, ih]; simp
@[simp] theorem State.startUp_units (b : Byte) : (s.startUp b).units = s.units := rfl
@[simp] theorem State.missUp_units (l : List Byte) (n : Nat) : (s.missUp l n).units = s.units := by
  unfold State.missUp; (repeat' split) <;> rfl
@[simp] theorem State.routeUp_units (p : Pass) (b : Byte) : (s.routeUp p b).units = s.units := by
  unfold State.routeUp; dsimp only; split <;> simp
@[simp] theorem State.nextUp_units (p : Pass) (b : Byte) : (s.nextUp p b).units = s.units := by
  unfold State.nextUp State.applyIf; dsimp only; (repeat' split) <;> simp
@[simp] theorem State.byteUp_units (b : Byte) : (s.byteUp b).units = s.units := by
  unfold State.byteUp; split <;> simp
theorem State.bytesUp_units (l : List Byte) : (l.foldl State.byteUp s).units = s.units := by
  induction l generalizing s with
  | nil => rfl
  | cons b l ih => rw [List.foldl_cons, ih]; simp
@[simp] theorem State.startUp_scan (b : Byte) : (s.startUp b).scan = s.scan := rfl
@[simp] theorem State.missUp_scan (l : List Byte) (n : Nat) : (s.missUp l n).scan = s.scan := by
  unfold State.missUp; (repeat' split) <;> rfl
@[simp] theorem State.routeUp_scan (p : Pass) (b : Byte) : (s.routeUp p b).scan = s.scan := by
  unfold State.routeUp; dsimp only; split <;> simp
@[simp] theorem State.nextUp_scan (p : Pass) (b : Byte) : (s.nextUp p b).scan = s.scan := by
  unfold State.nextUp State.applyIf; dsimp only; (repeat' split) <;> simp
@[simp] theorem State.byteUp_scan (b : Byte) : (s.byteUp b).scan = s.scan := by
  unfold State.byteUp; split <;> simp
theorem State.bytesUp_scan (l : List Byte) : (l.foldl State.byteUp s).scan = s.scan := by
  induction l generalizing s with
  | nil => rfl
  | cons b l ih => rw [List.foldl_cons, ih]; simp
@[simp] theorem State.startUp_rotation (b : Byte) : (s.startUp b).rotation = s.rotation := rfl
@[simp] theorem State.missUp_rotation (l : List Byte) (n : Nat) : (s.missUp l n).rotation = s.rotation := by
  unfold State.missUp; (repeat' split) <;> rfl
@[simp] theorem State.routeUp_rotation (p : Pass) (b : Byte) : (s.routeUp p b).rotation = s.rotation := by
  unfold State.routeUp; dsimp only; split <;> simp
@[simp] theorem State.nextUp_rotation (p : Pass) (b : Byte) : (s.nextUp p b).rotation = s.rotation := by
  unfold State.nextUp State.applyIf; dsimp only; (repeat' split) <;> simp
@[simp] theorem State.byteUp_rotation (b : Byte) : (s.byteUp b).rotation = s.rotation := by
  unfold State.byteUp; split <;> simp
theorem State.bytesUp_rotation (l : List Byte) : (l.foldl State.byteUp s).rotation = s.rotation := by
  induction l generalizing s with
  | nil => rfl
  | cons b l ih => rw [List.foldl_cons, ih]; simp
@[simp] theorem State.startUp_pins (b : Byte) : (s.startUp b).pins = s.pins := rfl
@[simp] theorem State.missUp_pins (l : List Byte) (n : Nat) : (s.missUp l n).pins = s.pins := by
  unfold State.missUp; (repeat' split) <;> rfl
@[simp] theorem State.routeUp_pins (p : Pass) (b : Byte) : (s.routeUp p b).pins = s.pins := by
  unfold State.routeUp; dsimp only; split <;> simp
@[simp] theorem State.nextUp_pins (p : Pass) (b : Byte) : (s.nextUp p b).pins = s.pins := by
  unfold State.nextUp State.applyIf; dsimp only; (repeat' split) <;> simp
@[simp] theorem State.byteUp_pins (b : Byte) : (s.byteUp b).pins = s.pins := by
  unfold State.byteUp; split <;> simp
theorem State.bytesUp_pins (l : List Byte) : (l.foldl State.byteUp s).pins = s.pins := by
  induction l generalizing s with
  | nil => rfl
  | cons b l ih => rw [List.foldl_cons, ih]; simp
@[simp] theorem State.startUp_limits (b : Byte) : (s.startUp b).limits = s.limits := rfl
@[simp] theorem State.missUp_limits (l : List Byte) (n : Nat) : (s.missUp l n).limits = s.limits := by
  unfold State.missUp; (repeat' split) <;> rfl
@[simp] theorem State.routeUp_limits (p : Pass) (b : Byte) : (s.routeUp p b).limits = s.limits := by
  unfold State.routeUp; dsimp only; split <;> simp
@[simp] theorem State.nextUp_limits (p : Pass) (b : Byte) : (s.nextUp p b).limits = s.limits := by
  unfold State.nextUp State.applyIf; dsimp only; (repeat' split) <;> simp
@[simp] theorem State.byteUp_limits (b : Byte) : (s.byteUp b).limits = s.limits := by
  unfold State.byteUp; split <;> simp
theorem State.bytesUp_limits (l : List Byte) : (l.foldl State.byteUp s).limits = s.limits := by
  induction l generalizing s with
  | nil => rfl
  | cons b l ih => rw [List.foldl_cons, ih]; simp
@[simp] theorem State.startUp_reflex (b : Byte) : (s.startUp b).reflex = s.reflex := rfl
@[simp] theorem State.missUp_reflex (l : List Byte) (n : Nat) : (s.missUp l n).reflex = s.reflex := by
  unfold State.missUp; (repeat' split) <;> rfl
@[simp] theorem State.routeUp_reflex (p : Pass) (b : Byte) : (s.routeUp p b).reflex = s.reflex := by
  unfold State.routeUp; dsimp only; split <;> simp
@[simp] theorem State.nextUp_reflex (p : Pass) (b : Byte) : (s.nextUp p b).reflex = s.reflex := by
  unfold State.nextUp State.applyIf; dsimp only; (repeat' split) <;> simp
@[simp] theorem State.byteUp_reflex (b : Byte) : (s.byteUp b).reflex = s.reflex := by
  unfold State.byteUp; split <;> simp
theorem State.bytesUp_reflex (l : List Byte) : (l.foldl State.byteUp s).reflex = s.reflex := by
  induction l generalizing s with
  | nil => rfl
  | cons b l ih => rw [List.foldl_cons, ih]; simp
@[simp] theorem State.startUp_profile (b : Byte) : (s.startUp b).profile = s.profile := rfl
@[simp] theorem State.missUp_profile (l : List Byte) (n : Nat) : (s.missUp l n).profile = s.profile := by
  unfold State.missUp; (repeat' split) <;> rfl
@[simp] theorem State.routeUp_profile (p : Pass) (b : Byte) : (s.routeUp p b).profile = s.profile := by
  unfold State.routeUp; dsimp only; split <;> simp
@[simp] theorem State.nextUp_profile (p : Pass) (b : Byte) : (s.nextUp p b).profile = s.profile := by
  unfold State.nextUp State.applyIf; dsimp only; (repeat' split) <;> simp
@[simp] theorem State.byteUp_profile (b : Byte) : (s.byteUp b).profile = s.profile := by
  unfold State.byteUp; split <;> simp
theorem State.bytesUp_profile (l : List Byte) : (l.foldl State.byteUp s).profile = s.profile := by
  induction l generalizing s with
  | nil => rfl
  | cons b l ih => rw [List.foldl_cons, ih]; simp
@[simp] theorem State.startUp_answer (b : Byte) : (s.startUp b).answer = s.answer := rfl
@[simp] theorem State.missUp_answer (l : List Byte) (n : Nat) : (s.missUp l n).answer = s.answer := by
  unfold State.missUp; (repeat' split) <;> rfl
@[simp] theorem State.routeUp_answer (p : Pass) (b : Byte) : (s.routeUp p b).answer = s.answer := by
  unfold State.routeUp; dsimp only; split <;> simp
@[simp] theorem State.nextUp_answer (p : Pass) (b : Byte) : (s.nextUp p b).answer = s.answer := by
  unfold State.nextUp State.applyIf; dsimp only; (repeat' split) <;> simp
@[simp] theorem State.byteUp_answer (b : Byte) : (s.byteUp b).answer = s.answer := by
  unfold State.byteUp; split <;> simp
theorem State.bytesUp_answer (l : List Byte) : (l.foldl State.byteUp s).answer = s.answer := by
  induction l generalizing s with
  | nil => rfl
  | cons b l ih => rw [List.foldl_cons, ih]; simp
@[simp] theorem State.startUp_freeCount (b : Byte) : (s.startUp b).freeCount = s.freeCount := rfl
@[simp] theorem State.missUp_freeCount (l : List Byte) (n : Nat) : (s.missUp l n).freeCount = s.freeCount := by
  unfold State.missUp; (repeat' split) <;> rfl
@[simp] theorem State.routeUp_freeCount (p : Pass) (b : Byte) : (s.routeUp p b).freeCount = s.freeCount := by
  unfold State.routeUp; dsimp only; split <;> simp
@[simp] theorem State.nextUp_freeCount (p : Pass) (b : Byte) : (s.nextUp p b).freeCount = s.freeCount := by
  unfold State.nextUp State.applyIf; dsimp only; (repeat' split) <;> simp
@[simp] theorem State.byteUp_freeCount (b : Byte) : (s.byteUp b).freeCount = s.freeCount := by
  unfold State.byteUp; split <;> simp
theorem State.bytesUp_freeCount (l : List Byte) : (l.foldl State.byteUp s).freeCount = s.freeCount := by
  induction l generalizing s with
  | nil => rfl
  | cons b l ih => rw [List.foldl_cons, ih]; simp

@[simp] theorem State.downCharacter_pending : s.downCharacter.pending = s.pending := by
  unfold State.downCharacter; split <;> rfl
@[simp] theorem State.startDown_pending (b : Byte) : (s.startDown b).pending = s.pending := rfl
@[simp] theorem State.routeDown_pending (r : DownRun) (b : Byte) : (s.routeDown r b).pending = s.pending := by
  unfold State.routeDown; dsimp only; split <;> rfl
@[simp] theorem State.missDown_pending (l : List Byte) (n : Nat) : (s.missDown l n).pending = s.pending := by
  unfold State.missDown; (repeat' split) <;> rfl
@[simp] theorem State.nextDown_pending (r : DownRun) (b : Byte) : (s.nextDown r b).pending = s.pending := by
  unfold State.nextDown; dsimp only; (repeat' split) <;> first | rfl | simp
@[simp] theorem State.byteDown_pending (b : Byte) : (s.byteDown b).pending = s.pending := by
  unfold State.byteDown; split <;> simp
theorem State.bytesDown_pending (l : List Byte) : (l.foldl State.byteDown s).pending = s.pending := by
  induction l generalizing s with
  | nil => rfl
  | cons b l ih => rw [List.foldl_cons, ih]; simp
@[simp] theorem State.idleDown_pending (n : Nat) : (s.idleDown n).pending = s.pending := by
  unfold State.idleDown; (repeat' split) <;> simp
@[simp] theorem State.receiveDown_pending (l : List Byte) (n : Nat) : (s.receiveDown l n).pending = s.pending := by
  unfold State.receiveDown; split <;> simp [State.bytesDown_pending]
@[simp] theorem State.downCharacter_due : s.downCharacter.due = s.due := by
  unfold State.downCharacter; split <;> rfl
@[simp] theorem State.startDown_due (b : Byte) : (s.startDown b).due = s.due := rfl
@[simp] theorem State.routeDown_due (r : DownRun) (b : Byte) : (s.routeDown r b).due = s.due := by
  unfold State.routeDown; dsimp only; split <;> rfl
@[simp] theorem State.missDown_due (l : List Byte) (n : Nat) : (s.missDown l n).due = s.due := by
  unfold State.missDown; (repeat' split) <;> rfl
@[simp] theorem State.nextDown_due (r : DownRun) (b : Byte) : (s.nextDown r b).due = s.due := by
  unfold State.nextDown; dsimp only; (repeat' split) <;> first | rfl | simp
@[simp] theorem State.byteDown_due (b : Byte) : (s.byteDown b).due = s.due := by
  unfold State.byteDown; split <;> simp
theorem State.bytesDown_due (l : List Byte) : (l.foldl State.byteDown s).due = s.due := by
  induction l generalizing s with
  | nil => rfl
  | cons b l ih => rw [List.foldl_cons, ih]; simp
@[simp] theorem State.idleDown_due (n : Nat) : (s.idleDown n).due = s.due := by
  unfold State.idleDown; (repeat' split) <;> simp
@[simp] theorem State.receiveDown_due (l : List Byte) (n : Nat) : (s.receiveDown l n).due = s.due := by
  unfold State.receiveDown; split <;> simp [State.bytesDown_due]
@[simp] theorem State.downCharacter_now : s.downCharacter.now = s.now := by
  unfold State.downCharacter; split <;> rfl
@[simp] theorem State.startDown_now (b : Byte) : (s.startDown b).now = s.now := rfl
@[simp] theorem State.routeDown_now (r : DownRun) (b : Byte) : (s.routeDown r b).now = s.now := by
  unfold State.routeDown; dsimp only; split <;> rfl
@[simp] theorem State.missDown_now (l : List Byte) (n : Nat) : (s.missDown l n).now = s.now := by
  unfold State.missDown; (repeat' split) <;> rfl
@[simp] theorem State.nextDown_now (r : DownRun) (b : Byte) : (s.nextDown r b).now = s.now := by
  unfold State.nextDown; dsimp only; (repeat' split) <;> first | rfl | simp
@[simp] theorem State.byteDown_now (b : Byte) : (s.byteDown b).now = s.now := by
  unfold State.byteDown; split <;> simp
theorem State.bytesDown_now (l : List Byte) : (l.foldl State.byteDown s).now = s.now := by
  induction l generalizing s with
  | nil => rfl
  | cons b l ih => rw [List.foldl_cons, ih]; simp
@[simp] theorem State.idleDown_now (n : Nat) : (s.idleDown n).now = s.now := by
  unfold State.idleDown; (repeat' split) <;> simp
@[simp] theorem State.receiveDown_now (l : List Byte) (n : Nat) : (s.receiveDown l n).now = s.now := by
  unfold State.receiveDown; split <;> simp [State.bytesDown_now]
@[simp] theorem State.downCharacter_phase : s.downCharacter.phase = s.phase := by
  unfold State.downCharacter; split <;> rfl
@[simp] theorem State.startDown_phase (b : Byte) : (s.startDown b).phase = s.phase := rfl
@[simp] theorem State.routeDown_phase (r : DownRun) (b : Byte) : (s.routeDown r b).phase = s.phase := by
  unfold State.routeDown; dsimp only; split <;> rfl
@[simp] theorem State.missDown_phase (l : List Byte) (n : Nat) : (s.missDown l n).phase = s.phase := by
  unfold State.missDown; (repeat' split) <;> rfl
@[simp] theorem State.nextDown_phase (r : DownRun) (b : Byte) : (s.nextDown r b).phase = s.phase := by
  unfold State.nextDown; dsimp only; (repeat' split) <;> first | rfl | simp
@[simp] theorem State.byteDown_phase (b : Byte) : (s.byteDown b).phase = s.phase := by
  unfold State.byteDown; split <;> simp
theorem State.bytesDown_phase (l : List Byte) : (l.foldl State.byteDown s).phase = s.phase := by
  induction l generalizing s with
  | nil => rfl
  | cons b l ih => rw [List.foldl_cons, ih]; simp
@[simp] theorem State.idleDown_phase (n : Nat) : (s.idleDown n).phase = s.phase := by
  unfold State.idleDown; (repeat' split) <;> simp
@[simp] theorem State.receiveDown_phase (l : List Byte) (n : Nat) : (s.receiveDown l n).phase = s.phase := by
  unfold State.receiveDown; split <;> simp [State.bytesDown_phase]
@[simp] theorem State.downCharacter_loadTicks : s.downCharacter.loadTicks = s.loadTicks := by
  unfold State.downCharacter; split <;> rfl
@[simp] theorem State.startDown_loadTicks (b : Byte) : (s.startDown b).loadTicks = s.loadTicks := rfl
@[simp] theorem State.routeDown_loadTicks (r : DownRun) (b : Byte) : (s.routeDown r b).loadTicks = s.loadTicks := by
  unfold State.routeDown; dsimp only; split <;> rfl
@[simp] theorem State.missDown_loadTicks (l : List Byte) (n : Nat) : (s.missDown l n).loadTicks = s.loadTicks := by
  unfold State.missDown; (repeat' split) <;> rfl
@[simp] theorem State.nextDown_loadTicks (r : DownRun) (b : Byte) : (s.nextDown r b).loadTicks = s.loadTicks := by
  unfold State.nextDown; dsimp only; (repeat' split) <;> first | rfl | simp
@[simp] theorem State.byteDown_loadTicks (b : Byte) : (s.byteDown b).loadTicks = s.loadTicks := by
  unfold State.byteDown; split <;> simp
theorem State.bytesDown_loadTicks (l : List Byte) : (l.foldl State.byteDown s).loadTicks = s.loadTicks := by
  induction l generalizing s with
  | nil => rfl
  | cons b l ih => rw [List.foldl_cons, ih]; simp
@[simp] theorem State.idleDown_loadTicks (n : Nat) : (s.idleDown n).loadTicks = s.loadTicks := by
  unfold State.idleDown; (repeat' split) <;> simp
@[simp] theorem State.receiveDown_loadTicks (l : List Byte) (n : Nat) : (s.receiveDown l n).loadTicks = s.loadTicks := by
  unfold State.receiveDown; split <;> simp [State.bytesDown_loadTicks]
@[simp] theorem State.downCharacter_cause : s.downCharacter.cause = s.cause := by
  unfold State.downCharacter; split <;> rfl
@[simp] theorem State.startDown_cause (b : Byte) : (s.startDown b).cause = s.cause := rfl
@[simp] theorem State.routeDown_cause (r : DownRun) (b : Byte) : (s.routeDown r b).cause = s.cause := by
  unfold State.routeDown; dsimp only; split <;> rfl
@[simp] theorem State.missDown_cause (l : List Byte) (n : Nat) : (s.missDown l n).cause = s.cause := by
  unfold State.missDown; (repeat' split) <;> rfl
@[simp] theorem State.nextDown_cause (r : DownRun) (b : Byte) : (s.nextDown r b).cause = s.cause := by
  unfold State.nextDown; dsimp only; (repeat' split) <;> first | rfl | simp
@[simp] theorem State.byteDown_cause (b : Byte) : (s.byteDown b).cause = s.cause := by
  unfold State.byteDown; split <;> simp
theorem State.bytesDown_cause (l : List Byte) : (l.foldl State.byteDown s).cause = s.cause := by
  induction l generalizing s with
  | nil => rfl
  | cons b l ih => rw [List.foldl_cons, ih]; simp
@[simp] theorem State.idleDown_cause (n : Nat) : (s.idleDown n).cause = s.cause := by
  unfold State.idleDown; (repeat' split) <;> simp
@[simp] theorem State.receiveDown_cause (l : List Byte) (n : Nat) : (s.receiveDown l n).cause = s.cause := by
  unfold State.receiveDown; split <;> simp [State.bytesDown_cause]
@[simp] theorem State.downCharacter_strap : s.downCharacter.strap = s.strap := by
  unfold State.downCharacter; split <;> rfl
@[simp] theorem State.startDown_strap (b : Byte) : (s.startDown b).strap = s.strap := rfl
@[simp] theorem State.routeDown_strap (r : DownRun) (b : Byte) : (s.routeDown r b).strap = s.strap := by
  unfold State.routeDown; dsimp only; split <;> rfl
@[simp] theorem State.missDown_strap (l : List Byte) (n : Nat) : (s.missDown l n).strap = s.strap := by
  unfold State.missDown; (repeat' split) <;> rfl
@[simp] theorem State.nextDown_strap (r : DownRun) (b : Byte) : (s.nextDown r b).strap = s.strap := by
  unfold State.nextDown; dsimp only; (repeat' split) <;> first | rfl | simp
@[simp] theorem State.byteDown_strap (b : Byte) : (s.byteDown b).strap = s.strap := by
  unfold State.byteDown; split <;> simp
theorem State.bytesDown_strap (l : List Byte) : (l.foldl State.byteDown s).strap = s.strap := by
  induction l generalizing s with
  | nil => rfl
  | cons b l ih => rw [List.foldl_cons, ih]; simp
@[simp] theorem State.idleDown_strap (n : Nat) : (s.idleDown n).strap = s.strap := by
  unfold State.idleDown; (repeat' split) <;> simp
@[simp] theorem State.receiveDown_strap (l : List Byte) (n : Nat) : (s.receiveDown l n).strap = s.strap := by
  unfold State.receiveDown; split <;> simp [State.bytesDown_strap]
@[simp] theorem State.downCharacter_beat : s.downCharacter.beat = s.beat := by
  unfold State.downCharacter; split <;> rfl
@[simp] theorem State.startDown_beat (b : Byte) : (s.startDown b).beat = s.beat := rfl
@[simp] theorem State.routeDown_beat (r : DownRun) (b : Byte) : (s.routeDown r b).beat = s.beat := by
  unfold State.routeDown; dsimp only; split <;> rfl
@[simp] theorem State.missDown_beat (l : List Byte) (n : Nat) : (s.missDown l n).beat = s.beat := by
  unfold State.missDown; (repeat' split) <;> rfl
@[simp] theorem State.nextDown_beat (r : DownRun) (b : Byte) : (s.nextDown r b).beat = s.beat := by
  unfold State.nextDown; dsimp only; (repeat' split) <;> first | rfl | simp
@[simp] theorem State.byteDown_beat (b : Byte) : (s.byteDown b).beat = s.beat := by
  unfold State.byteDown; split <;> simp
theorem State.bytesDown_beat (l : List Byte) : (l.foldl State.byteDown s).beat = s.beat := by
  induction l generalizing s with
  | nil => rfl
  | cons b l ih => rw [List.foldl_cons, ih]; simp
@[simp] theorem State.idleDown_beat (n : Nat) : (s.idleDown n).beat = s.beat := by
  unfold State.idleDown; (repeat' split) <;> simp
@[simp] theorem State.receiveDown_beat (l : List Byte) (n : Nat) : (s.receiveDown l n).beat = s.beat := by
  unfold State.receiveDown; split <;> simp [State.bytesDown_beat]
@[simp] theorem State.downCharacter_units : s.downCharacter.units = s.units := by
  unfold State.downCharacter; split <;> rfl
@[simp] theorem State.startDown_units (b : Byte) : (s.startDown b).units = s.units := rfl
@[simp] theorem State.routeDown_units (r : DownRun) (b : Byte) : (s.routeDown r b).units = s.units := by
  unfold State.routeDown; dsimp only; split <;> rfl
@[simp] theorem State.missDown_units (l : List Byte) (n : Nat) : (s.missDown l n).units = s.units := by
  unfold State.missDown; (repeat' split) <;> rfl
@[simp] theorem State.nextDown_units (r : DownRun) (b : Byte) : (s.nextDown r b).units = s.units := by
  unfold State.nextDown; dsimp only; (repeat' split) <;> first | rfl | simp
@[simp] theorem State.byteDown_units (b : Byte) : (s.byteDown b).units = s.units := by
  unfold State.byteDown; split <;> simp
theorem State.bytesDown_units (l : List Byte) : (l.foldl State.byteDown s).units = s.units := by
  induction l generalizing s with
  | nil => rfl
  | cons b l ih => rw [List.foldl_cons, ih]; simp
@[simp] theorem State.idleDown_units (n : Nat) : (s.idleDown n).units = s.units := by
  unfold State.idleDown; (repeat' split) <;> simp
@[simp] theorem State.receiveDown_units (l : List Byte) (n : Nat) : (s.receiveDown l n).units = s.units := by
  unfold State.receiveDown; split <;> simp [State.bytesDown_units]
@[simp] theorem State.downCharacter_scan : s.downCharacter.scan = s.scan := by
  unfold State.downCharacter; split <;> rfl
@[simp] theorem State.startDown_scan (b : Byte) : (s.startDown b).scan = s.scan := rfl
@[simp] theorem State.routeDown_scan (r : DownRun) (b : Byte) : (s.routeDown r b).scan = s.scan := by
  unfold State.routeDown; dsimp only; split <;> rfl
@[simp] theorem State.missDown_scan (l : List Byte) (n : Nat) : (s.missDown l n).scan = s.scan := by
  unfold State.missDown; (repeat' split) <;> rfl
@[simp] theorem State.nextDown_scan (r : DownRun) (b : Byte) : (s.nextDown r b).scan = s.scan := by
  unfold State.nextDown; dsimp only; (repeat' split) <;> first | rfl | simp
@[simp] theorem State.byteDown_scan (b : Byte) : (s.byteDown b).scan = s.scan := by
  unfold State.byteDown; split <;> simp
theorem State.bytesDown_scan (l : List Byte) : (l.foldl State.byteDown s).scan = s.scan := by
  induction l generalizing s with
  | nil => rfl
  | cons b l ih => rw [List.foldl_cons, ih]; simp
@[simp] theorem State.idleDown_scan (n : Nat) : (s.idleDown n).scan = s.scan := by
  unfold State.idleDown; (repeat' split) <;> simp
@[simp] theorem State.receiveDown_scan (l : List Byte) (n : Nat) : (s.receiveDown l n).scan = s.scan := by
  unfold State.receiveDown; split <;> simp [State.bytesDown_scan]
@[simp] theorem State.downCharacter_slots : s.downCharacter.slots = s.slots := by
  unfold State.downCharacter; split <;> rfl
@[simp] theorem State.startDown_slots (b : Byte) : (s.startDown b).slots = s.slots := rfl
@[simp] theorem State.routeDown_slots (r : DownRun) (b : Byte) : (s.routeDown r b).slots = s.slots := by
  unfold State.routeDown; dsimp only; split <;> rfl
@[simp] theorem State.missDown_slots (l : List Byte) (n : Nat) : (s.missDown l n).slots = s.slots := by
  unfold State.missDown; (repeat' split) <;> rfl
@[simp] theorem State.nextDown_slots (r : DownRun) (b : Byte) : (s.nextDown r b).slots = s.slots := by
  unfold State.nextDown; dsimp only; (repeat' split) <;> first | rfl | simp
@[simp] theorem State.byteDown_slots (b : Byte) : (s.byteDown b).slots = s.slots := by
  unfold State.byteDown; split <;> simp
theorem State.bytesDown_slots (l : List Byte) : (l.foldl State.byteDown s).slots = s.slots := by
  induction l generalizing s with
  | nil => rfl
  | cons b l ih => rw [List.foldl_cons, ih]; simp
@[simp] theorem State.idleDown_slots (n : Nat) : (s.idleDown n).slots = s.slots := by
  unfold State.idleDown; (repeat' split) <;> simp
@[simp] theorem State.receiveDown_slots (l : List Byte) (n : Nat) : (s.receiveDown l n).slots = s.slots := by
  unfold State.receiveDown; split <;> simp [State.bytesDown_slots]
@[simp] theorem State.downCharacter_contacts : s.downCharacter.contacts = s.contacts := by
  unfold State.downCharacter; split <;> rfl
@[simp] theorem State.startDown_contacts (b : Byte) : (s.startDown b).contacts = s.contacts := rfl
@[simp] theorem State.routeDown_contacts (r : DownRun) (b : Byte) : (s.routeDown r b).contacts = s.contacts := by
  unfold State.routeDown; dsimp only; split <;> rfl
@[simp] theorem State.missDown_contacts (l : List Byte) (n : Nat) : (s.missDown l n).contacts = s.contacts := by
  unfold State.missDown; (repeat' split) <;> rfl
@[simp] theorem State.nextDown_contacts (r : DownRun) (b : Byte) : (s.nextDown r b).contacts = s.contacts := by
  unfold State.nextDown; dsimp only; (repeat' split) <;> first | rfl | simp
@[simp] theorem State.byteDown_contacts (b : Byte) : (s.byteDown b).contacts = s.contacts := by
  unfold State.byteDown; split <;> simp
theorem State.bytesDown_contacts (l : List Byte) : (l.foldl State.byteDown s).contacts = s.contacts := by
  induction l generalizing s with
  | nil => rfl
  | cons b l ih => rw [List.foldl_cons, ih]; simp
@[simp] theorem State.idleDown_contacts (n : Nat) : (s.idleDown n).contacts = s.contacts := by
  unfold State.idleDown; (repeat' split) <;> simp
@[simp] theorem State.receiveDown_contacts (l : List Byte) (n : Nat) : (s.receiveDown l n).contacts = s.contacts := by
  unfold State.receiveDown; split <;> simp [State.bytesDown_contacts]
@[simp] theorem State.downCharacter_rotation : s.downCharacter.rotation = s.rotation := by
  unfold State.downCharacter; split <;> rfl
@[simp] theorem State.startDown_rotation (b : Byte) : (s.startDown b).rotation = s.rotation := rfl
@[simp] theorem State.routeDown_rotation (r : DownRun) (b : Byte) : (s.routeDown r b).rotation = s.rotation := by
  unfold State.routeDown; dsimp only; split <;> rfl
@[simp] theorem State.missDown_rotation (l : List Byte) (n : Nat) : (s.missDown l n).rotation = s.rotation := by
  unfold State.missDown; (repeat' split) <;> rfl
@[simp] theorem State.nextDown_rotation (r : DownRun) (b : Byte) : (s.nextDown r b).rotation = s.rotation := by
  unfold State.nextDown; dsimp only; (repeat' split) <;> first | rfl | simp
@[simp] theorem State.byteDown_rotation (b : Byte) : (s.byteDown b).rotation = s.rotation := by
  unfold State.byteDown; split <;> simp
theorem State.bytesDown_rotation (l : List Byte) : (l.foldl State.byteDown s).rotation = s.rotation := by
  induction l generalizing s with
  | nil => rfl
  | cons b l ih => rw [List.foldl_cons, ih]; simp
@[simp] theorem State.idleDown_rotation (n : Nat) : (s.idleDown n).rotation = s.rotation := by
  unfold State.idleDown; (repeat' split) <;> simp
@[simp] theorem State.receiveDown_rotation (l : List Byte) (n : Nat) : (s.receiveDown l n).rotation = s.rotation := by
  unfold State.receiveDown; split <;> simp [State.bytesDown_rotation]
@[simp] theorem State.downCharacter_pins : s.downCharacter.pins = s.pins := by
  unfold State.downCharacter; split <;> rfl
@[simp] theorem State.startDown_pins (b : Byte) : (s.startDown b).pins = s.pins := rfl
@[simp] theorem State.routeDown_pins (r : DownRun) (b : Byte) : (s.routeDown r b).pins = s.pins := by
  unfold State.routeDown; dsimp only; split <;> rfl
@[simp] theorem State.missDown_pins (l : List Byte) (n : Nat) : (s.missDown l n).pins = s.pins := by
  unfold State.missDown; (repeat' split) <;> rfl
@[simp] theorem State.nextDown_pins (r : DownRun) (b : Byte) : (s.nextDown r b).pins = s.pins := by
  unfold State.nextDown; dsimp only; (repeat' split) <;> first | rfl | simp
@[simp] theorem State.byteDown_pins (b : Byte) : (s.byteDown b).pins = s.pins := by
  unfold State.byteDown; split <;> simp
theorem State.bytesDown_pins (l : List Byte) : (l.foldl State.byteDown s).pins = s.pins := by
  induction l generalizing s with
  | nil => rfl
  | cons b l ih => rw [List.foldl_cons, ih]; simp
@[simp] theorem State.idleDown_pins (n : Nat) : (s.idleDown n).pins = s.pins := by
  unfold State.idleDown; (repeat' split) <;> simp
@[simp] theorem State.receiveDown_pins (l : List Byte) (n : Nat) : (s.receiveDown l n).pins = s.pins := by
  unfold State.receiveDown; split <;> simp [State.bytesDown_pins]
@[simp] theorem State.downCharacter_limits : s.downCharacter.limits = s.limits := by
  unfold State.downCharacter; split <;> rfl
@[simp] theorem State.startDown_limits (b : Byte) : (s.startDown b).limits = s.limits := rfl
@[simp] theorem State.routeDown_limits (r : DownRun) (b : Byte) : (s.routeDown r b).limits = s.limits := by
  unfold State.routeDown; dsimp only; split <;> rfl
@[simp] theorem State.missDown_limits (l : List Byte) (n : Nat) : (s.missDown l n).limits = s.limits := by
  unfold State.missDown; (repeat' split) <;> rfl
@[simp] theorem State.nextDown_limits (r : DownRun) (b : Byte) : (s.nextDown r b).limits = s.limits := by
  unfold State.nextDown; dsimp only; (repeat' split) <;> first | rfl | simp
@[simp] theorem State.byteDown_limits (b : Byte) : (s.byteDown b).limits = s.limits := by
  unfold State.byteDown; split <;> simp
theorem State.bytesDown_limits (l : List Byte) : (l.foldl State.byteDown s).limits = s.limits := by
  induction l generalizing s with
  | nil => rfl
  | cons b l ih => rw [List.foldl_cons, ih]; simp
@[simp] theorem State.idleDown_limits (n : Nat) : (s.idleDown n).limits = s.limits := by
  unfold State.idleDown; (repeat' split) <;> simp
@[simp] theorem State.receiveDown_limits (l : List Byte) (n : Nat) : (s.receiveDown l n).limits = s.limits := by
  unfold State.receiveDown; split <;> simp [State.bytesDown_limits]
@[simp] theorem State.downCharacter_reflex : s.downCharacter.reflex = s.reflex := by
  unfold State.downCharacter; split <;> rfl
@[simp] theorem State.startDown_reflex (b : Byte) : (s.startDown b).reflex = s.reflex := rfl
@[simp] theorem State.routeDown_reflex (r : DownRun) (b : Byte) : (s.routeDown r b).reflex = s.reflex := by
  unfold State.routeDown; dsimp only; split <;> rfl
@[simp] theorem State.missDown_reflex (l : List Byte) (n : Nat) : (s.missDown l n).reflex = s.reflex := by
  unfold State.missDown; (repeat' split) <;> rfl
@[simp] theorem State.nextDown_reflex (r : DownRun) (b : Byte) : (s.nextDown r b).reflex = s.reflex := by
  unfold State.nextDown; dsimp only; (repeat' split) <;> first | rfl | simp
@[simp] theorem State.byteDown_reflex (b : Byte) : (s.byteDown b).reflex = s.reflex := by
  unfold State.byteDown; split <;> simp
theorem State.bytesDown_reflex (l : List Byte) : (l.foldl State.byteDown s).reflex = s.reflex := by
  induction l generalizing s with
  | nil => rfl
  | cons b l ih => rw [List.foldl_cons, ih]; simp
@[simp] theorem State.idleDown_reflex (n : Nat) : (s.idleDown n).reflex = s.reflex := by
  unfold State.idleDown; (repeat' split) <;> simp
@[simp] theorem State.receiveDown_reflex (l : List Byte) (n : Nat) : (s.receiveDown l n).reflex = s.reflex := by
  unfold State.receiveDown; split <;> simp [State.bytesDown_reflex]
@[simp] theorem State.downCharacter_status : s.downCharacter.status = s.status := by
  unfold State.downCharacter; split <;> rfl
@[simp] theorem State.startDown_status (b : Byte) : (s.startDown b).status = s.status := rfl
@[simp] theorem State.routeDown_status (r : DownRun) (b : Byte) : (s.routeDown r b).status = s.status := by
  unfold State.routeDown; dsimp only; split <;> rfl
@[simp] theorem State.missDown_status (l : List Byte) (n : Nat) : (s.missDown l n).status = s.status := by
  unfold State.missDown; (repeat' split) <;> rfl
@[simp] theorem State.nextDown_status (r : DownRun) (b : Byte) : (s.nextDown r b).status = s.status := by
  unfold State.nextDown; dsimp only; (repeat' split) <;> first | rfl | simp
@[simp] theorem State.byteDown_status (b : Byte) : (s.byteDown b).status = s.status := by
  unfold State.byteDown; split <;> simp
theorem State.bytesDown_status (l : List Byte) : (l.foldl State.byteDown s).status = s.status := by
  induction l generalizing s with
  | nil => rfl
  | cons b l ih => rw [List.foldl_cons, ih]; simp
@[simp] theorem State.idleDown_status (n : Nat) : (s.idleDown n).status = s.status := by
  unfold State.idleDown; (repeat' split) <;> simp
@[simp] theorem State.receiveDown_status (l : List Byte) (n : Nat) : (s.receiveDown l n).status = s.status := by
  unfold State.receiveDown; split <;> simp [State.bytesDown_status]
@[simp] theorem State.downCharacter_service : s.downCharacter.service = s.service := by
  unfold State.downCharacter; split <;> rfl
@[simp] theorem State.startDown_service (b : Byte) : (s.startDown b).service = s.service := rfl
@[simp] theorem State.routeDown_service (r : DownRun) (b : Byte) : (s.routeDown r b).service = s.service := by
  unfold State.routeDown; dsimp only; split <;> rfl
@[simp] theorem State.missDown_service (l : List Byte) (n : Nat) : (s.missDown l n).service = s.service := by
  unfold State.missDown; (repeat' split) <;> rfl
@[simp] theorem State.nextDown_service (r : DownRun) (b : Byte) : (s.nextDown r b).service = s.service := by
  unfold State.nextDown; dsimp only; (repeat' split) <;> first | rfl | simp
@[simp] theorem State.byteDown_service (b : Byte) : (s.byteDown b).service = s.service := by
  unfold State.byteDown; split <;> simp
theorem State.bytesDown_service (l : List Byte) : (l.foldl State.byteDown s).service = s.service := by
  induction l generalizing s with
  | nil => rfl
  | cons b l ih => rw [List.foldl_cons, ih]; simp
@[simp] theorem State.idleDown_service (n : Nat) : (s.idleDown n).service = s.service := by
  unfold State.idleDown; (repeat' split) <;> simp
@[simp] theorem State.receiveDown_service (l : List Byte) (n : Nat) : (s.receiveDown l n).service = s.service := by
  unfold State.receiveDown; split <;> simp [State.bytesDown_service]
@[simp] theorem State.downCharacter_profile : s.downCharacter.profile = s.profile := by
  unfold State.downCharacter; split <;> rfl
@[simp] theorem State.startDown_profile (b : Byte) : (s.startDown b).profile = s.profile := rfl
@[simp] theorem State.routeDown_profile (r : DownRun) (b : Byte) : (s.routeDown r b).profile = s.profile := by
  unfold State.routeDown; dsimp only; split <;> rfl
@[simp] theorem State.missDown_profile (l : List Byte) (n : Nat) : (s.missDown l n).profile = s.profile := by
  unfold State.missDown; (repeat' split) <;> rfl
@[simp] theorem State.nextDown_profile (r : DownRun) (b : Byte) : (s.nextDown r b).profile = s.profile := by
  unfold State.nextDown; dsimp only; (repeat' split) <;> first | rfl | simp
@[simp] theorem State.byteDown_profile (b : Byte) : (s.byteDown b).profile = s.profile := by
  unfold State.byteDown; split <;> simp
theorem State.bytesDown_profile (l : List Byte) : (l.foldl State.byteDown s).profile = s.profile := by
  induction l generalizing s with
  | nil => rfl
  | cons b l ih => rw [List.foldl_cons, ih]; simp
@[simp] theorem State.idleDown_profile (n : Nat) : (s.idleDown n).profile = s.profile := by
  unfold State.idleDown; (repeat' split) <;> simp
@[simp] theorem State.receiveDown_profile (l : List Byte) (n : Nat) : (s.receiveDown l n).profile = s.profile := by
  unfold State.receiveDown; split <;> simp [State.bytesDown_profile]
@[simp] theorem State.downCharacter_answer : s.downCharacter.answer = s.answer := by
  unfold State.downCharacter; split <;> rfl
@[simp] theorem State.startDown_answer (b : Byte) : (s.startDown b).answer = s.answer := rfl
@[simp] theorem State.routeDown_answer (r : DownRun) (b : Byte) : (s.routeDown r b).answer = s.answer := by
  unfold State.routeDown; dsimp only; split <;> rfl
@[simp] theorem State.missDown_answer (l : List Byte) (n : Nat) : (s.missDown l n).answer = s.answer := by
  unfold State.missDown; (repeat' split) <;> rfl
@[simp] theorem State.nextDown_answer (r : DownRun) (b : Byte) : (s.nextDown r b).answer = s.answer := by
  unfold State.nextDown; dsimp only; (repeat' split) <;> first | rfl | simp
@[simp] theorem State.byteDown_answer (b : Byte) : (s.byteDown b).answer = s.answer := by
  unfold State.byteDown; split <;> simp
theorem State.bytesDown_answer (l : List Byte) : (l.foldl State.byteDown s).answer = s.answer := by
  induction l generalizing s with
  | nil => rfl
  | cons b l ih => rw [List.foldl_cons, ih]; simp
@[simp] theorem State.idleDown_answer (n : Nat) : (s.idleDown n).answer = s.answer := by
  unfold State.idleDown; (repeat' split) <;> simp
@[simp] theorem State.receiveDown_answer (l : List Byte) (n : Nat) : (s.receiveDown l n).answer = s.answer := by
  unfold State.receiveDown; split <;> simp [State.bytesDown_answer]
@[simp] theorem State.downCharacter_freeCount : s.downCharacter.freeCount = s.freeCount := by
  unfold State.downCharacter; split <;> rfl
@[simp] theorem State.startDown_freeCount (b : Byte) : (s.startDown b).freeCount = s.freeCount := rfl
@[simp] theorem State.routeDown_freeCount (r : DownRun) (b : Byte) : (s.routeDown r b).freeCount = s.freeCount := by
  unfold State.routeDown; dsimp only; split <;> rfl
@[simp] theorem State.missDown_freeCount (l : List Byte) (n : Nat) : (s.missDown l n).freeCount = s.freeCount := by
  unfold State.missDown; (repeat' split) <;> rfl
@[simp] theorem State.nextDown_freeCount (r : DownRun) (b : Byte) : (s.nextDown r b).freeCount = s.freeCount := by
  unfold State.nextDown; dsimp only; (repeat' split) <;> first | rfl | simp
@[simp] theorem State.byteDown_freeCount (b : Byte) : (s.byteDown b).freeCount = s.freeCount := by
  unfold State.byteDown; split <;> simp
theorem State.bytesDown_freeCount (l : List Byte) : (l.foldl State.byteDown s).freeCount = s.freeCount := by
  induction l generalizing s with
  | nil => rfl
  | cons b l ih => rw [List.foldl_cons, ih]; simp
@[simp] theorem State.idleDown_freeCount (n : Nat) : (s.idleDown n).freeCount = s.freeCount := by
  unfold State.idleDown; (repeat' split) <;> simp
@[simp] theorem State.receiveDown_freeCount (l : List Byte) (n : Nat) : (s.receiveDown l n).freeCount = s.freeCount := by
  unfold State.receiveDown; split <;> simp [State.bytesDown_freeCount]

/-! ## The end of a run on DOWN -/

/-- Everything the end of a run on DOWN does: no run is left, and the UP port stands as it was or as the end leaves it. -/
theorem Link.endDown_cases (l : Link) (port : PortState) :
    l.endDown port = { l with downRun := none } ∨ l.endDown port = { l with downRun := none, upPort := port } := by
  unfold Link.endDown
  split
  · rename_i h; left; rw [← h]
  · split
    · exact .inl rfl
    · exact .inr rfl

@[simp] theorem Link.endDown_downRun (l : Link) (port : PortState) : (l.endDown port).downRun = none := by
  rcases l.endDown_cases port with h | h <;> rw [h]
@[simp] theorem Link.endDown_upRun (l : Link) (port : PortState) : (l.endDown port).upRun = l.upRun := by
  rcases l.endDown_cases port with h | h <;> rw [h]
@[simp] theorem Link.endDown_downPort (l : Link) (port : PortState) : (l.endDown port).downPort = l.downPort := by
  rcases l.endDown_cases port with h | h <;> rw [h]
@[simp] theorem Link.endDown_staging (l : Link) (port : PortState) : (l.endDown port).staging = l.staging := by
  rcases l.endDown_cases port with h | h <;> rw [h]

end Sys2Proof.Machine
end

