-- ==== Sys2Proof/Laws/Units.lean ====
section
/-! SUPPORT. What a step can do to a pulse unit, said once: every unit property that the operations below keep holds after every
command and every step. -/

namespace Sys2Proof.Machine

/-- A property of a unit that every operation on a unit keeps. -/
structure UnitClosed (P : PulseUnit → Prop) : Prop where
  hold : ∀ x row h, P x → P (x.deliverHold row h)
  enable : ∀ x row h, P x → P (x.enableUnit row h)
  disable : ∀ x, P x → P x.disableUnit
  reset : ∀ x, P x → P x.resetUnit
  clearFold : ∀ x, P x → P x.clearFold
  fold : ∀ x row v, P x → P (x.foldResult row v)
  boundary : ∀ x row n w c, P x → P (x.boundary row n w c).1
  msTick : ∀ x row, P x → P (x.msTick row).1
  endPause : ∀ x row, P x → P (x.endPause row)
  startBrake : ∀ x, P x → P x.startBrake
  endBrake : ∀ x row, P x → P (x.endBrake row)
  startPulse : ∀ x, P x → P x.startPulse
  endPulse : ∀ x row, P x → P (x.endPulse row)
  endDead : ∀ x, P x → P x.endDead
  tickDead : ∀ x, P x → P x.tickDead
  pend : ∀ x sp, P x → P { x with pending := some sp }

/-- Every unit has a property. -/
def AllUnits (P : PulseUnit → Prop) (s : State) : Prop := ∀ u, P (s.units.get u)

theorem AllUnits.congr {P : PulseUnit → Prop} {s t : State} (e : t.units = s.units) (h : AllUnits P s) : AllUnits P t := by
  intro u; rw [e]; exact h u

variable {P : PulseUnit → Prop}

theorem AllUnits.settle (c : UnitClosed P) {s : State} (b : Bank Bool 31) (h : AllUnits P s) : AllUnits P (s.settle b) :=
  State.settle_units (fun _ => P) (fun _ x row k => c.hold x row k) s b h

theorem AllUnits.map {s t : State} (f : Fin 4 → PulseUnit → PulseUnit) (keep : ∀ u x, P x → P (f u x))
    (e : ∀ u, t.units.get u = f u (s.units.get u)) (h : AllUnits P s) : AllUnits P t := by
  intro u; rw [e]; exact keep u _ (h u)

theorem AllUnits.setUnit {s : State} (u : Fin 4) {x : PulseUnit} (h : AllUnits P s) (k : P x) : AllUnits P (s.setUnit u x) := by
  intro v
  rw [State.setUnit_units, Bank.get_set]
  split
  · exact k
  · exact h v

theorem AllUnits.applyIf {s : State} (b : Bool) (f : State → State) (k : AllUnits P s → AllUnits P (f s)) (h : AllUnits P s) :
    AllUnits P (s.applyIf b f) := by
  unfold State.applyIf; split
  · exact k h
  · exact h

/-! ## The result path -/

theorem AllUnits.storeResult (c : UnitClosed P) {s : State} (n : Fin 26) (v : Nat) (h : AllUnits P s) :
    AllUnits P (s.storeResult n v) := by
  unfold State.storeResult
  apply AllUnits.settle c
  intro u
  simp only [State.storeToUnits, Bank.get_mapIdx, State.storeToChecks_units, State.storeToLimits_units]
  split
  · exact c.fold _ _ _ (h u)
  · exact h u

theorem AllUnits.deliverSample (c : UnitClosed P) {s : State} (r : ScanRequest) (raw : BitVec 12) (h : AllUnits P s) :
    AllUnits P (s.deliverSample r raw) := by
  unfold State.deliverSample
  dsimp only
  split
  · unfold State.addSample
    dsimp only
    split
    · exact AllUnits.storeResult c _ _ (AllUnits.congr (by simp) h)
    · exact AllUnits.congr (by simp) h
  · exact AllUnits.storeResult c _ _ h
  · exact AllUnits.storeResult c _ _ h

theorem AllUnits.complete (c : UnitClosed P) {s : State} (raw : BitVec 12) (h : AllUnits P s) : AllUnits P (s.complete raw) := by
  unfold State.complete
  split
  · exact h
  · dsimp only
    split
    · exact AllUnits.congr (by simp) h
    · refine AllUnits.congr (State.takeNext_units _) (AllUnits.deliverSample c _ _ (AllUnits.congr (by simp) h))

/-! ## Boundaries -/

theorem AllUnits.takeSwaps (c : UnitClosed P) {s : State} (h : AllUnits P s) : AllUnits P s.takeSwaps := by
  intro u
  unfold State.takeSwaps State.applyIf
  dsimp only
  simp only [apply_ite State.units, State.decideRows_units, State.swapSafe_units, State.swapInputs_units,
    State.swapLimits_units, State.flush_units, State.takeMarks_units, ite_self]
  split
  · simp only [State.swapUnits, apply_ite State.units, State.swapLimits_units, State.flush_units, State.takeMarks_units,
      ite_self, Bank.get_map]
    exact c.clearFold _ (h u)
  · exact h u

theorem AllUnits.openBeat (c : UnitClosed P) {s : State} (b : Bank Bool 31) (h : AllUnits P s) : AllUnits P (s.openBeat b) := by
  unfold State.openBeat
  dsimp only
  refine AllUnits.congr (State.openScan_units _) (AllUnits.settle c _ ?_)
  have k := AllUnits.settle c b
    (s := { s.takeSwaps with beat := { s.takeSwaps.beat with position := 0, length := beatLength s.takeSwaps.tables.beatRow } })
    (AllUnits.congr rfl (AllUnits.takeSwaps c h))
  intro u
  simp only [State.computeUnits, State.latchIf_units, Bank.get_tabulate]
  exact c.boundary _ _ _ _ _ (k u)

theorem State.markAll_units (s : State) (l : List DueEvent) : (s.markAll l).units = s.units := by
  induction l generalizing s with
  | nil => rfl
  | cons e l ih => simp only [State.markAll, List.foldl_cons] at ih ⊢; rw [ih]; simp

theorem AllUnits.nextBeat (c : UnitClosed P) {s : State} (h : AllUnits P s) : AllUnits P s.nextBeat := by
  unfold State.nextBeat State.markStarving
  dsimp only
  exact AllUnits.congr (State.markFirst_units _ _) (AllUnits.openBeat c _ (AllUnits.congr rfl h))

theorem AllUnits.wakeUp (c : UnitClosed P) {s : State} (k : StartCause) (h : AllUnits P s) : AllUnits P (s.wakeUp k) := by
  unfold State.wakeUp
  exact AllUnits.openBeat c _ (AllUnits.congr rfl h)

theorem AllUnits.endLoad (c : UnitClosed P) {s : State} (k : Byte) (h : AllUnits P s) : AllUnits P (s.endLoad k) := by
  unfold State.endLoad
  split
  · dsimp only; split
    · unfold State.parkAfterLoad
      exact AllUnits.applyIf _ _ (fun k => AllUnits.congr (State.markDue_units _ _) k)
        (AllUnits.settle c _ (AllUnits.congr rfl h))
    · exact AllUnits.openBeat c _ (AllUnits.congr rfl h)
  · exact h

/-! ## Actions of a good frame end -/

theorem AllUnits.doClear (c : UnitClosed P) {s : State} (e w : Word16) (f : Byte) (h : AllUnits P s) :
    AllUnits P (s.doClear e w f) := by
  unfold State.doClear
  dsimp only
  refine AllUnits.applyIf _ _ (fun k => AllUnits.settle c _ (AllUnits.congr rfl k)) ?_
  unfold State.clearRows
  refine AllUnits.settle c _ (AllUnits.congr (State.latchIf_units _ _ _) ?_)
  refine AllUnits.congr (s := State.applyIf _ _ _) rfl ?_
  exact AllUnits.applyIf _ _ (fun k => AllUnits.congr rfl k) (AllUnits.congr rfl h)

theorem State.doSync_units (s : State) : s.doSync.units = s.units := by
  unfold State.doSync; dsimp only; (repeat' split) <;> first | rfl | exact State.markDue_units _ _

theorem State.doWake_units (s : State) : s.doWake.units = s.units := by
  unfold State.doWake State.applyIf; dsimp only; split <;> first | rfl | exact State.markDue_units _ _

theorem AllUnits.carryOut (c : UnitClosed P) {s : State} (a : Action) (h : AllUnits P s) : AllUnits P (s.carryOut a) := by
  unfold State.carryOut
  split
  · exact AllUnits.congr rfl h
  · exact AllUnits.congr rfl h
  · unfold State.doEnable
    refine AllUnits.settle c _ ?_
    intro u; simp only [Bank.get_mapIdx]; split
    · exact c.enable _ _ _ (h u)
    · exact h u
  · unfold State.doDisable
    refine AllUnits.settle c _ ?_
    intro u; simp only [State.requalify_units, Bank.get_mapIdx]; split
    · exact c.disable _ (h u)
    · exact h u
  · exact AllUnits.doClear c _ _ _ h
  · exact AllUnits.congr rfl h
  · split
    · exact h
    · exact AllUnits.congr (State.doSync_units s) h
  · exact AllUnits.congr rfl h
  · exact AllUnits.congr rfl h
  · split
    · exact AllUnits.congr (State.doWake_units s) h
    · exact h
  · intro u; simp only [State.doResetFull, Bank.get_map]; exact c.reset _ (h u)
  · unfold State.doResetUnits
    refine AllUnits.settle c _ ?_
    intro u; simp only [State.requalify_units, State.latch_units, State.passCauses, Bank.get_map]; exact c.reset _ (h u)

theorem AllUnits.carryOutAll (c : UnitClosed P) (l : List Action) {s : State} (h : AllUnits P s) :
    AllUnits P (l.foldl State.carryOut s) := by
  induction l generalizing s with
  | nil => exact h
  | cons a l ih => exact ih (AllUnits.carryOut c a h)

theorem AllUnits.serve (c : UnitClosed P) {s : State} (k p : Nat) (t : Byte) (ps : List Byte) (r : Nat) (h : AllUnits P s) :
    AllUnits P (s.serve k p t ps r) := by
  unfold State.serve
  split
  · dsimp only; split
    · exact AllUnits.carryOut c _ (AllUnits.congr rfl h)
    · exact AllUnits.congr rfl h
  · exact AllUnits.congr rfl h

/-! ## Frames -/

theorem AllUnits.goodEnd (c : UnitClosed P) {s : State} (p : Nat) (l : List Action) (h : AllUnits P s) :
    AllUnits P (s.goodEnd p l) := by
  unfold State.goodEnd
  apply AllUnits.carryOutAll c
  refine AllUnits.congr (s := s.commitStaging) ?_ ?_
  · unfold State.recordPosition State.restartTimer
    rw [State.latchIf_units]
    split
    · rw [State.latchIf_units]
    · rfl
  · intro u
    simp only [State.commitStaging, Bank.get_mapIdx]
    split
    · exact c.pend _ _ (h u)
    · exact h u

theorem AllUnits.receiveUp (c : UnitClosed P) {s : State} (l : List Byte) (n : Nat) (h : AllUnits P s) :
    AllUnits P (s.receiveUp l n) := by
  unfold State.receiveUp
  split
  · have k : AllUnits P (l.foldl State.byteUp s) := AllUnits.congr (State.bytesUp_units _ _) h
    unfold State.idleUp
    split
    · exact k
    · split
      · exact k
      · unfold State.endUp
        split
        · exact AllUnits.congr rfl k
        · split
          · exact AllUnits.congr rfl k
          · dsimp only; split
            · exact AllUnits.goodEnd c _ _ (AllUnits.congr rfl k)
            · exact AllUnits.congr rfl k
  · exact AllUnits.congr (State.missUp_units _ _ _) h

/-! ## Every command, every step -/

theorem AllUnits.restartBoundary (c : UnitClosed P) {s : State} (h : AllUnits P s) : AllUnits P s.restartBoundary := by
  unfold State.restartBoundary; split
  · exact AllUnits.nextBeat c (AllUnits.congr rfl h)
  · exact h

theorem exec_units (c : UnitClosed P) (i : Instr) {s t : State} (h : AllUnits P s) (e : exec i s = .next t) : AllUnits P t := by
  have get {x y : State} (k : (Host.Outcome.next x : Host.Outcome State Fault Refusal) = .next y) : x = y := by
    injection k
  cases i <;> (have e := get e; subst e)
  case powerUp => intro u; simp only [State.takeReset, Bank.get_map]; exact c.reset _ (h u)
  case resetPin => intro u; simp only [State.takeReset, Bank.get_map]; exact c.reset _ (h u)
  case profileLoadEnd => exact AllUnits.endLoad c _ h
  case naturalBeatBoundary =>
    unfold State.naturalBoundary; split
    · split
      · exact AllUnits.restartBoundary c (AllUnits.congr rfl h)
      · exact AllUnits.nextBeat c (AllUnits.congr rfl h)
    · exact AllUnits.congr rfl h
  case starvation =>
    unfold State.starve; split
    · exact AllUnits.settle c _ (AllUnits.congr rfl h)
    · exact AllUnits.congr rfl h
  case syncRestart => exact AllUnits.restartBoundary c (AllUnits.congr rfl h)
  case millisecondTick =>
    unfold State.msTick
    dsimp only
    refine AllUnits.congr (State.markFirst_units _ _) ?_
    intro u
    simp only [State.tickCounts, State.tickUnits, Bank.get_map, Bank.get_mapIdx]
    exact c.msTick _ _ (h u)
  case filteredChange =>
    unfold State.changeContact; split
    · dsimp only; split
      · exact AllUnits.congr (State.markDue_units _ _) (AllUnits.settle c _ (AllUnits.congr rfl h))
      · exact AllUnits.settle c _ (AllUnits.congr rfl h)
    · exact AllUnits.congr rfl h
  case reversalPauseEnd => exact AllUnits.setUnit _ (AllUnits.congr rfl h) (c.endPause _ _ (h _))
  case brakeOneShotStart => exact AllUnits.setUnit _ (AllUnits.congr rfl h) (c.startBrake _ (h _))
  case brakeEnd => exact AllUnits.settle c _ (AllUnits.setUnit _ (AllUnits.congr rfl h) (c.endBrake _ _ (h _)))
  case stall =>
    unfold State.stallInput; split
    · exact AllUnits.settle c _ (AllUnits.congr rfl h)
    · exact AllUnits.congr rfl h
  case linkTimerExpiry =>
    unfold State.expireLink; split
    · split
      · exact AllUnits.settle c _ (AllUnits.congr rfl h)
      · exact AllUnits.congr rfl h
    · exact AllUnits.congr rfl h
    · exact AllUnits.congr rfl h
  case wakeContact =>
    unfold State.wakeByContact; split
    · split
      · exact AllUnits.wakeUp c _ (AllUnits.congr rfl h)
      · exact AllUnits.congr rfl h
    · exact AllUnits.congr rfl h
  case wakeLinkStart =>
    unfold State.wakeScheduled; split
    · exact AllUnits.wakeUp c _ (AllUnits.congr rfl h)
    · exact AllUnits.congr rfl h
  case acceptedChange =>
    unfold State.acceptLevel; split
    · exact AllUnits.settle c _ (AllUnits.congr rfl h)
    · exact AllUnits.congr rfl h
  case triggerRaised =>
    unfold State.raiseTrigger; split
    · exact AllUnits.congr (State.raiseEntry_units _ _) h
    · exact AllUnits.congr rfl h
  case conversionComplete => exact AllUnits.complete c _ (AllUnits.congr rfl h)
  case sweepFrame => exact AllUnits.receiveUp c _ _ h
  case returnFrame => exact AllUnits.congr (State.receiveDown_units _ _ _) h
  case downDark => exact AllUnits.congr rfl h
  case profileBlockBegin => exact AllUnits.congr rfl h
  case profileBlockVerified =>
    unfold State.verifyBlock; split
    · exact AllUnits.congr rfl h
    · split
      · split
        · exact AllUnits.congr (State.latchIf_units _ _ _) (AllUnits.congr rfl h)
        · exact AllUnits.congr rfl h
      · exact AllUnits.congr rfl h
  case downLive => exact AllUnits.congr (State.downCharacter_units _) (AllUnits.congr rfl h)
  case rotationPinChange =>
    unfold State.driveRotation; split
    · exact h
    · unfold State.comparePin; split
      · dsimp only; split
        · exact AllUnits.congr (State.markDue_units _ _) (AllUnits.congr rfl h)
        · exact AllUnits.congr rfl h
      · exact AllUnits.congr rfl h
  case onTimeStart => exact AllUnits.setUnit _ (AllUnits.congr rfl h) (c.startPulse _ (h _))
  case onTimeEnd => exact AllUnits.setUnit _ (AllUnits.congr rfl h) (c.endPulse _ _ (h _))
  case deadTimeEnd => exact AllUnits.setUnit _ (AllUnits.congr rfl h) (c.endDead _ (h _))
  all_goals exact AllUnits.serve c _ _ _ _ _ h

/-- Everything the beat does at a core tick: its position moves and entries join the agenda. -/
theorem State.tickBeat_frame (s : State) :
    s.tickBeat = { s with due := s.tickBeat.due, beat := { s.beat with position := s.tickBeat.beat.position } } := by
  have mark (v : State) (e : DueEvent) : v.markDue e = { v with due := (v.markDue e).due } := by
    unfold State.markDue; split <;> rfl
  have advance : s.advanceBeat = { s with due := s.advanceBeat.due, beat := { s.beat with position := s.advanceBeat.beat.position } } := by
    unfold State.advanceBeat; split
    · rw [mark]
    · rfl
  unfold State.tickBeat State.applyIf
  split
  · split
    · dsimp only; rw [mark]
    · rfl
  · split
    · split
      · dsimp only [State.markFirst]; rw [advance]
      · exact advance
    · rfl

theorem State.tickBeat_units (s : State) : s.tickBeat.units = s.units := by rw [s.tickBeat_frame]

theorem State.comparePin_units (s : State) (r : Fin 3) : (s.comparePin r).units = s.units := by
  unfold State.comparePin; dsimp only; (repeat' split) <;> simp

theorem State.tickTimers_units (s : State) : s.tickLoad.tickDivider.tickConverter.units = s.units := by
  have a (v : State) : v.tickLoad.units = v.units := by unfold State.tickLoad; dsimp only; (repeat' split) <;> simp
  have b (v : State) : v.tickDivider.units = v.units := by unfold State.tickDivider; (repeat' split) <;> simp
  have d (v : State) : v.tickConverter.units = v.units := by unfold State.tickConverter; (repeat' split) <;> simp
  rw [d, b, a]

theorem AllUnits.tick (c : UnitClosed P) {s : State} (h : AllUnits P s) : AllUnits P s.tick := by
  have k (v : State) : v.tickDeadTimes.tickSilence.units = v.units.map PulseUnit.tickDead := by
    have d : v.tickDeadTimes.tickSilence.units = v.tickDeadTimes.units := by
      unfold State.tickSilence; dsimp only; (repeat' split) <;> simp
    rw [d]; unfold State.tickDeadTimes; dsimp only; rw [State.markAll_units]
  unfold State.tick
  dsimp only
  intro u
  rw [k, Bank.get_map]
  apply c.tickDead
  revert u
  have e (v : State) : ([0, 1, 2].foldl State.comparePin v).units = v.units := by
    simp [State.comparePin_units]
  have f : (List.finRange 3 : List (Fin 3)) = [0, 1, 2] := by decide
  rw [f]
  split
  · exact AllUnits.congr ((State.markAll_units _ _).trans
      ((e _).trans ((State.tickTimers_units _).trans (State.tickBeat_units _)))) h
  · exact AllUnits.congr ((e _).trans ((State.tickTimers_units _).trans (State.tickBeat_units _))) h

/-- A closed property of units holds after every step. -/
theorem step_units (c : UnitClosed P) {s t : State} (h : AllUnits P s) (e : step s = .next t) : AllUnits P t := by
  unfold step at e
  split at e
  · refine exec_units c _ ?_ e; exact AllUnits.congr rfl h
  · split at e
    · split at e
      · refine exec_units c _ ?_ e; exact AllUnits.congr rfl h
      · injection e with e; subst e; exact AllUnits.congr rfl h
    · injection e with e; subst e; exact AllUnits.tick c h

end Sys2Proof.Machine
end

