-- ==== Sys2Proof/WellFormed.lean ====
section
/-! DEFINITION. Which commands the line can carry: a record's lengths and position stay within the layouts of spec 09. The
other operands are in range by their types. -/

namespace Sys2Proof

/-- A record as the layouts of spec 09 allow it: position 1 to 4, parameter length and reply room at most 48. -/
def Request.wellFormed (r : Request) : Bool :=
  decide (1 ≤ r.position) && decide (r.position ≤ 4) && decide (r.params.length ≤ 48) && decide (r.room ≤ 48)

/-- A command the line or the part itself can produce. -/
def Instr.wellFormed : Instr → Bool
  | .identify r => r.wellFormed
  | .readState r => r.wellFormed
  | .tableWrite r => r.wellFormed
  | .tableRead r => r.wellFormed
  | .swap r => r.wellFormed
  | .enable r => r.wellFormed
  | .disable r => r.wellFormed
  | .clear r => r.wellFormed
  | .reportMask r => r.wellFormed
  | .sync r => r.wellFormed
  | .profileSave r => r.wellFormed
  | .standby r => r.wellFormed
  | .wake r => r.wellFormed
  | .resetFull p t room => Request.wellFormed { position := p, target := t, params := [0], room := room }
  | .resetUnits p t room => Request.wellFormed { position := p, target := t, params := [1], room := room }
  | .powerUp _ => true
  | .resetPin => true
  | .profileLoadEnd _ => true
  | .naturalBeatBoundary => true
  | .starvation _ => true
  | .syncRestart => true
  | .millisecondTick _ => true
  | .filteredChange _ => true
  | .reversalPauseEnd _ => true
  | .brakeOneShotStart _ => true
  | .brakeEnd _ => true
  | .stall _ => true
  | .linkTimerExpiry => true
  | .wakeContact => true
  | .wakeLinkStart => true
  | .acceptedChange _ => true
  | .triggerRaised _ => true
  | .conversionComplete _ => true
  | .sweepFrame _ _ => true
  | .returnFrame _ _ => true
  | .downDark => true
  | .profileBlockBegin => true
  | .profileBlockVerified _ => true
  | .downLive => true
  | .rotationPinChange _ _ => true
  | .onTimeStart _ => true
  | .onTimeEnd _ => true
  | .deadTimeEnd _ => true

end Sys2Proof
end

