-- ==== Sys2Proof/Tests/Slice0.lean ====
section
/-! SUPPORT. Tests: ill-formed commands refused, the worked examples of the spec, one step of each kind of command on small states,
and for every statement with hypotheses a concrete state and operands that meet them. -/

set_option Elab.async false

namespace Sys2Proof.Machine.Tests

/-! ## Small states -/

/-- The state after a command, where it completes. -/
def after (i : Instr) (s : State) : State :=
  match exec i s with
  | .next t => t
  | .fault _ => s
  | .refused _ => s

/-- The part with its beat running and everything else as after reset. -/
def live : State := { State.reset with phase := .run }

/-- A unit in RUN at half duty, its pulse over or not yet begun, decay SLOW. -/
def driven : PulseUnit :=
  { PulseUnit.atReset with
    state := .run
    target := 500
    demand := 500
    dirMemory := some .fwd
    applied := 500
    onTime := 800
    drive := .brake
    lines := ⟨false, true, false, true⟩ }

/-- Unit 0 driven, the part settled. -/
def driving : State := live.setUnit 0 driven

/-- The state with one row of an active table replaced. -/
def withRow (s : State) (id : TableId) (i : Nat) (row : Row) : State :=
  { s with service := { s.service with active := s.service.active.set id ((s.service.active.get id).set i row) } }

/-- A record for position 1 with room for any reply. -/
def rec1 (params : List Byte) : Request := { position := 1, target := 1, params := params, room := 48 }

/-- A settled state, in a form that can be decided. -/
theorem settled_of (s : State) (h : (∀ n, (s.reflex.rows.get n).agrees (s.tables.reflexRow n)
      (s.sourceActive (reflexSource (s.tables.reflexRow n))) = true) ∧
    (∀ u, (s.units.get u).obeys (s.holdOf u) = true ∧ s.reflex.hold.get u = s.holdOf u ∧ s.reflex.cap.get u = s.capOf u) ∧
    (∀ n, (s.limits.rows.get n).qualified = s.limitQualified n ∧
      (s.limitQualified n = false → s.limits.rows.get n = LimitRow.atReset)) ∧
    ∀ r, (s.rotation.get r).stallTimer.isSome = s.stallQualified r ∧
      (s.stallQualified r = false → (s.rotation.get r).stalled = false)) : s.Settled where
  rows := h.1
  holds := ⟨fun u => (h.2.1 u).1, fun u => (h.2.1 u).2.1, fun u => (h.2.1 u).2.2⟩
  qualified := fun n => (h.2.2.1 n).1
  unqualified := fun n => (h.2.2.1 n).2
  timed := fun r => (h.2.2.2 r).1
  untimed := fun r => (h.2.2.2 r).2

theorem live_settled : live.Settled := settled_of _ (by decide)

theorem driving_settled : driving.Settled := settled_of _ (by decide)

/-- Gate lines as R14 to R16 have them, in a form that can be decided. -/
theorem gates_sound (s : State) (h : ∀ u, (s.units.get u).lines.meet (s.units.get u).drive.called = (s.units.get u).lines ∧
    (s.units.get u).lines = (s.units.get u).drive.called ∧ ((s.units.get u).state = .off → (s.units.get u).drive = .coast) ∧
    ((s.units.get u).state = .heldCoast → (s.units.get u).drive = .coast) ∧
    ((s.units.get u).state = .heldBrake → (s.units.get u).drive = .brake)) (u : Fin 4) : (s.units.get u).GatesSound :=
  ⟨(h u).1, fun _ => (h u).2.1, (h u).2.2.1, (h u).2.2.2.1, (h u).2.2.2.2⟩

theorem driving_gates : ∀ u, (driving.units.get u).GatesSound := gates_sound driving (by decide)

/-! ## Ill-formed commands -/

theorem test_wf_sound : (Instr.identify (rec1 [])).wellFormed = true := by decide
theorem test_wf_position_zero : (Instr.swap { position := 0, target := 1, params := [0, 0], room := 0 }).wellFormed = false := by decide
theorem test_wf_position_five : (Instr.resetFull 5 5 0).wellFormed = false := by decide
theorem test_wf_params_long :
    (Instr.tableWrite { position := 1, target := 1, params := List.replicate 49 0, room := 0 }).wellFormed = false := by decide
theorem test_wf_room_large : (Instr.readState { position := 1, target := 1, params := [0], room := 49 }).wellFormed = false := by decide

/-! ## The check (R134, spec 09 worked example) -/

theorem test_crc_start : crcOf [0xD5] = 0x82FD#16 := by decide +kernel
theorem test_crc_header : crcOf [0xD5, 0, 0, 0, 0, 0, 0, 0] = 0xD2D3#16 := by decide +kernel
theorem test_crc_frame : crcOf [0xD5, 0, 0, 0, 0, 0, 0, 0, 0, 0] = 0xEEE6#16 := by decide +kernel
theorem test_crc_inverse : ~~~(crcOf [0xD5, 0, 0, 0, 0, 0, 0, 0, 0, 0]) = 0x1119#16 := by decide +kernel

/-! ## The drive computation (spec 03 worked examples) -/

theorem test_ramp_step : rampStep 50 333 250 (some .fwd) = 300 := by decide
theorem test_ramp_arrives : rampStep 50 333 300 (some .fwd) = 333 := by decide
theorem test_ramp_stops_at_zero : rampStep 0 (-300) 400 (some .fwd) = 0 := by decide
theorem test_folded : foldedDemand 333 2 = 249 ∧ foldedDemand (-300) 1 = -262 := by decide
theorem test_cap : capFor true 600 (some 200) = 200 ∧ appliedDuty 249 200 = 200 := by decide
theorem test_on_time_rounds : roundedOnTime 225 1600 = 360 ∧ roundedOnTime 333 1500 = 500 ∧ roundedOnTime (-262) 1600 = 419 := by decide
theorem test_on_time_clamps :
    onTimeFor (factoryUnitRow 0 0 0) 1000 1600 = 1568 ∧ onTimeFor (factoryUnitRow 0 0 0) 20 1600 = 32 ∧
      onTimeFor (factoryUnitRow 0 0 0) (-15) 1600 = 0 := by decide
theorem test_pulse_wraps :
    inOnTime 800 1000 1600 199 = true ∧ inOnTime 800 1000 1600 200 = false ∧ inOnTime 1599 400 1600 398 = true ∧
      inOnTime 1599 400 1600 399 = false := by decide

/-- Fold-back to exhaustion (spec 3.6): level 7, exhaust run 3, one more result above the limit. -/
theorem test_fold_exhausts :
    ({ driven with foldLevel := 7, exhaustRun := 3 }.foldAbove 4).exhausted = true ∧
      ({ driven with foldLevel := 7, releaseRun := 2, exhausted := true }.foldBelow 3).foldLevel = 6 ∧
      ({ driven with foldLevel := 7, releaseRun := 2, exhausted := true }.foldBelow 3).exhausted = false := by decide

/-! ## Results and limits (spec 05, 07 worked examples) -/

theorem test_calibrate : calibrate (-3) 1203 = 1200 ∧ calibrate 127 3975 = 4095 := by decide

/-- Kind ABOVE, high 40000, hysteresis 2000, trip count 3, release count 2. -/
def bladeRow : Row := [0x01, 4, 0, 0, 0x9C, 0x40, 0x07, 0xD0, 0x23, 0xFF, 0, 0, 0, 0, 0, 0]

theorem test_blade_judged :
    judgeResult bladeRow 41000 = .tripping ∧ judgeResult bladeRow 39000 = .deadBand ∧ judgeResult bladeRow 38000 = .releasing := by decide
theorem test_blade_trips :
    (({ LimitRow.atReset with tripRun := 2, qualified := true } : LimitRow).judge bladeRow .tripping).1.active = true := by decide

/-- Anchored triggers at B = 1600 with phase 800 (spec 4.2). -/
theorem test_anchors :
    anchorPosition .onCenter 800 1000 1600 = some 1300 ∧ anchorPosition .offCenter 800 1000 1600 = some 2100 ∧
      anchorPosition .offCenter 800 1600 1600 = none ∧ anchorPosition .onCenter 800 0 1600 = none := by decide

/-! ## Inputs (spec 06 worked examples) -/

theorem test_debounce :
    (({ Contact.atReset with filtered := true, hold := some 2 } : Contact).sample false 3).2 = true ∧
      (({ Contact.atReset with filtered := true, hold := some 1 } : Contact).sample false 3).2 = false := by decide
theorem test_interval : intervalBetween 8000 48000 = 1250 ∧ intervalBetween 48000 89616 = 1300 := by decide

/-! ## One step of each kind of command -/

theorem test_power_up : (after (.powerUp true) driving).strap = true ∧ (after (.powerUp true) driving).phase = .loading := by decide +kernel
theorem test_reset_pin_units_off : ((after .resetPin driving).units.get 0).state = .off ∧
    ((after .resetPin driving).units.get 0).lines = ⟨false, false, false, false⟩ := by decide +kernel
/-- After reset with the three writable sections of the store torn. -/
def torn : State := { State.reset with profile := { State.reset.profile with torn := ⟨true, true, true, true⟩ } }

theorem test_load_end_falls_back : (after (.profileLoadEnd 0xFF) torn).phase = .run ∧
    (after (.profileLoadEnd 0xFF) torn).profile.fallback.safe = true ∧
    ((after (.profileLoadEnd 0xFF) torn).contacts.get 7).filtered = true := by decide +kernel
theorem test_boundary_keeps_half_duty : ((after .naturalBeatBoundary driving).units.get 0).onTime = 800 ∧
    ((after .naturalBeatBoundary driving).units.get 0).lines = ⟨false, false, false, true⟩ := by decide +kernel
theorem test_boundary_number : (after .naturalBeatBoundary { driving with beat := { driving.beat with number := 65535 } }).beat.number = 0 := by
  decide +kernel
theorem test_sync_restart : (after .syncRestart { driving with beat := { driving.beat with restart := some 5, position := 9 } }).beat =
    { number := 1, position := 0, length := 1600, restart := none, divider := 0 } := by decide +kernel

/-- A natural boundary at the instant of a pending restart is the restart's, and the only one (R8). -/
theorem test_boundary_at_restart : (after .naturalBeatBoundary { driving with beat := { driving.beat with restart := some 0 } }).beat =
    { number := 1, position := 0, length := 1600, restart := none, divider := 0 } := by decide +kernel
/-- A restart put off at the tick it has come to costs the beat no tick: its position has moved on (R1, R7). -/
theorem test_restart_put_off :
    let s : State := { withRow live .beat 0 [0x06, 0x40, 40, 0] with beat := { live.beat with position := 9, restart := some 1 } }
    s.tick.due = [.restart] ∧ (after (.sync (rec1 [])) s.tick).beat.restart = some 41 ∧
      (after (.sync (rec1 [])) s.tick).beat.position = 10 ∧ (after (.sync (rec1 [])) s.tick).stillDue .restart = false := by decide +kernel

/-- The hub in standby, contact 2 a wake source whose level has left its latch. -/
def asleep : State :=
  { live.setContact 2 { Contact.atReset with filtered := true, latch := some false } with
    phase := .standby
    beat := { live.beat with number := 77, restart := some 3 } }

theorem test_wake_link : (after .wakeLinkStart asleep).cause = .wakeLink ∧ (after .wakeLinkStart asleep).beat.number = 0 := by decide +kernel
theorem test_wake_contact : (after .wakeContact asleep).cause = .wakeContact 2 ∧ (after .wakeContact asleep).phase = .run := by decide +kernel
theorem test_millisecond_tick : (after (.millisecondTick 0x01) live).pins.contacts = 1 ∧
    ((after (.millisecondTick 0x01) live).contacts.get 0).hold = some 0 := by decide +kernel
theorem test_filtered_change : ((after (.filteredChange 3) live).contacts.get 3).changed = true ∧
    ((after (.filteredChange 3) live).contacts.get 3).filtered = true := by decide +kernel

/-- Unit 1 at rest in PAUSE, its memory to clear. -/
def pausing : State := live.setUnit 1 { driven with
  state := .pause
  target := -300
  demand := 0
  applied := 0
  onTime := 0
  zeroCount := some 5 }

/-- Unit 1 in BRAKE. -/
def braking (k : BrakeCount) (d : Drive) : State :=
  live.setUnit 1 { driven with
    state := .brake
    target := 0
    demand := 0
    applied := 0
    onTime := 0
    brakeCount := k
    drive := d
    lines := d.called }

theorem test_reversal_pause_end : ((after (.reversalPauseEnd 1) pausing).units.get 1).dirMemory = none := by decide +kernel
theorem test_brake_start : ((after (.brakeOneShotStart 1) (braking (.waiting 20) .coast)).units.get 1).brakeCount = .running 20 ∧
    ((after (.brakeOneShotStart 1) (braking (.waiting 20) .coast)).units.get 1).dead = some 8 := by decide +kernel
theorem test_brake_end : ((after (.brakeEnd 1) (braking (.running 1) .brake)).units.get 1).state = .run := by decide +kernel

/-- Rotation input 0 watches unit 0 for a stall, window 20 ms, duty 150; an unlatched reflex row coasts the unit (spec 06). -/
def stalling : State :=
  (withRow (withRow driving .input 8 [0x00, 0, 20, 0x00, 0x96, 0]) .reflex 0 [0x01, 24, 0x02, 0, 0, 0, 0, 0]).setRotation 0
    { Rotation.atReset with stallTimer := some 20 }

theorem stalling_settled : stalling.Settled := settled_of _ (by decide +kernel)

theorem test_stall_fires_row : ((after (.stall 0) stalling).reflex.rows.get 0).fired = true ∧
    (after (.stall 0) stalling).status.events.getLsbD 9 = true := by
  have atEnd : (stalling.rotation.get 0).atWindow (rotationStallWindow (stalling.tables.rotationRow 0)) = true := by decide +kernel
  have due : stalling.clearDue (.stall 0) = stalling := rfl
  have run : after (.stall 0) stalling =
      (stalling.setRotation 0 { stalling.rotation.get 0 with stalled := true }).settle stalling.sources := by
    simp only [after, exec, execStall, due, State.stallInput, atEnd, if_true]
  rw [run]
  have fires := State.settle_fires (stalling.setRotation 0 { stalling.rotation.get 0 with stalled := true }) stalling.sources 0
    (by decide +kernel) (by decide +kernel) (by decide +kernel)
  exact ⟨fires.1, fires.2.1⟩
/-- The millisecond tick that brings the timer to the window has its stall before an edge already due (R100). -/
theorem test_stall_before_edge :
    (after (.millisecondTick 0) { stalling.setRotation 0 { Rotation.atReset with stallTimer := some 19 } with due := [.accepted 0] }).due =
      [.stall 0, .accepted 0] := by decide +kernel
theorem test_link_timer_expiry : (after .linkTimerExpiry { driving with link := { driving.link with timer := .running 50 } }).reflex.link = true ∧
    ((after .linkTimerExpiry { driving with link := { driving.link with timer := .running 50 } }).units.get 0).state = .heldBrake := by
  decide +kernel

/-- The pin of rotation input 0 stands HIGH, its accepted level LOW, one edge seen at instant 8000. -/
def turning : State :=
  { (withRow live .input 8 [0x02, 0, 0, 0x00, 0xC8, 0]).setRotation 0 { Rotation.atReset with edgeTime := some 8000, edgesSeen := 1, count := 32767 } with
    now := 48000
    pins := { live.pins with rotation := 1 } }

theorem test_accepted_change : ((after (.acceptedChange 0) turning).rotation.get 0).count = 0x8000 ∧
    ((after (.acceptedChange 0) turning).rotation.get 0).interval = 1250 := by decide +kernel
theorem test_rotation_pin_change : ((after (.rotationPinChange 1 true) live).rotation.get 1).persistence = some 1 := by decide +kernel

/-- Scan entry 5 enabled: input 6, average 4, result slot 5, planned in this beat. -/
def scanning : State :=
  (withRow live .scan 5 [0x01, 0x16, 0, 0, 0, 200, 60, 5]).setEntry 5 { ScanEntry.atReset with planned := some 200 }

theorem test_trigger_raised : (after (.triggerRaised 5) scanning).scan.converter =
    some { request := { source := .entry 5, input := 6, raised := 0, late := 60 }, started := 0, discard := false } := by decide +kernel

/-- A conversion of entry 5 under way, three samples gathered (spec 05 worked example), row 6 of CAL at −3. -/
def converting : State :=
  { (withRow scanning .cal 6 [0xFD]).setEntry 5 { ScanEntry.atReset with sum := 3602, samples := 3 } with
    scan := { entries := scanning.scan.entries.set 5 { ScanEntry.atReset with sum := 3602, samples := 3 }
              queue := []
              converter := some { request := { source := .entry 5, input := 6, raised := 0, late := 60 }, started := 0, discard := false } } }

theorem test_conversion_complete : (after (.conversionComplete 1205) converting).slots.get 5 = { value := 19216, fresh := true, age := 0 } := by
  decide +kernel
/-- A boundary that brings a count to its limit has its starvation before a conversion already due (R111). -/
theorem test_starvation_before_store :
    ({ (withRow live .limit 9 [0x01, 3, 0, 0, 0xC3, 0x50, 3, 0xE8, 0x11, 0xFF, 0, 0, 2, 0, 0, 0]).setLimit 9
      { LimitRow.atReset with qualified := true, starve := some 32 } with due := [.conversion] }.markStarving [9]).due =
      [.starvation 9, .conversion] := by decide +kernel
theorem test_starvation : (after (.starvation 9) { (withRow live .limit 9 [0x01, 3, 0, 0, 0xC3, 0x50, 3, 0xE8, 0x11, 0xFF, 0, 0, 2, 0, 0, 0]).setLimit 9
    { LimitRow.atReset with qualified := true, starve := some 32 } with answer := [] }).status.events = 0x800 := by decide +kernel

/-! ## Frames and ports -/

/-- The chain controller's empty frame (spec 09 worked example). -/
def emptyFrame : List Byte := [0xD5, 0, 0, 0, 0, 0, 0, 0, 0, 0, 0xEE, 0xE6]

theorem test_frame_turns_round : (after (.sweepFrame emptyFrame 2) live).link.upSent.take 10 = [0xD5, 1, 0, 1, 0, 0, 0, 0, 1, 0] ∧
    (after (.sweepFrame emptyFrame 2) live).link.position = 1 ∧ (after (.sweepFrame emptyFrame 2) live).link.timer = .running 0 := by decide +kernel
theorem test_frame_bad_check : (after (.sweepFrame (emptyFrame.take 11 ++ [0xE7]) 2) live).link.frameErrors = 1 := by decide +kernel
theorem test_return_frame : (after (.returnFrame [0xD5, 1, 9, 9] 2) live).link.upSent = [0xD5, 1, 9, 9] := by decide +kernel
theorem test_down_live : (after .downLive live).link.downLive = true ∧ (after .downDark (after .downLive live)).link.downLive = false := by
  decide +kernel

/-- Silence cuts a RETURN frame off: DOWN is DARK and the next OUT frame turns here, on a free port (R133). -/
theorem test_dark_ends_run : (after .downDark (after (.returnFrame [0xD5, 1, 9] 0) live)).link.upPort = .free ∧
    (after (.sweepFrame [0xD5, 0] 0) (after .downDark (after (.returnFrame [0xD5, 1, 9] 0) live))).link.upSent = [0xD5, 1] := by
  decide +kernel
/-- A RETURN frame that strays onto UP holds no port: one from DOWN beside it goes up (R133). -/
theorem test_stray_return : (after (.returnFrame [0xD5, 1, 9] 2) (after (.sweepFrame [0xD5, 1] 0) live)).link.upSent = [0xD5, 1, 9] := by
  decide +kernel
/-- A frame that begins while the ports are silent is lost whole, its tail included (R142). -/
theorem test_lost_tail : (after (.sweepFrame [0xD5, 0] 0) State.reset).link.upRun = some (Pass.lost 0) ∧
    (after (.sweepFrame [0xD5, 0, 0] 1) { live with link := (after (.sweepFrame [0xD5, 0] 0) State.reset).link }).link.frameErrors = 0 ∧
    (after (.sweepFrame [0xD5, 0, 0] 1) live).link.frameErrors = 1 := by decide +kernel

/-! ## Records -/

theorem test_identify : (after (.identify (rec1 [])) live).answer.take 6 = [some 0, some 15, some 0x3A, some 0x71, some 0x04, some 0x20] := by
  decide +kernel
theorem test_read_units : (after (.readState (rec1 [0])) driving).answer.take 7 = [some 0, some 40, some 1, some 1, some 0xF4, some 1, some 0xF4] := by
  decide +kernel
theorem test_table_write_clamped : (after (.tableWrite (rec1 [6, 0, 1, 0x02, 0xBC, 40, 0])) live).answer = [some 2, some 1, some 0] ∧
    (after (.tableWrite (rec1 [6, 0, 1, 0x02, 0xBC, 40, 0])) live).service.shadow.beat = [[0x03, 0x20, 40, 0]] := by decide +kernel
/-- NO_ROOM for the row number, and the clamped row is written all the same (R143, R144). -/
theorem test_table_write_no_room :
    (after (.tableWrite { rec1 [6, 0, 1, 0x02, 0xBC, 40, 0] with room := 0 }) live).answer = [some 9, some 0] ∧
    (after (.tableWrite { rec1 [6, 0, 1, 0x02, 0xBC, 40, 0] with room := 0 }) live).service.shadow.beat = [[0x03, 0x20, 40, 0]] := by
  decide +kernel
/-- The 15 bytes of IDENTIFY in a room of 14, and ten slots in the largest room (R143, R147). -/
theorem test_replies_no_room :
    (after (.identify { rec1 [] with room := 14 }) live).answer.take 3 = [some 9, some 14, some 0x3A] ∧
    (after (.identify { rec1 [] with room := 14 }) live).answer.length = 16 ∧
    (after (.readState (rec1 [1, 0, 10])) live).answer.take 2 = [some 9, some 48] ∧
    (after (.readState (rec1 [1, 0, 10])) live).answer.length = 50 := by decide +kernel
theorem test_table_read : (after (.tableRead (rec1 [6, 0, 0, 1])) live).answer = [some 0, some 4, some 6, some 0x40, some 0, some 0] := by decide +kernel
theorem test_swap : (after (.swap (rec1 [0, 0x40])) live).service.marks = 0x40 ∧
    (after .naturalBeatBoundary (after (.swap (rec1 [0, 0x40])) live)).status.events = 0x2000 := by decide +kernel
theorem test_enable : ((after (.enable (rec1 [0x02])) live).units.get 1).state = .run ∧
    ((after (.enable (rec1 [0x02])) { live with reflex := { live.reflex with link := true } }).units.get 1).state = .heldBrake := by decide +kernel
/-- Unit 1 HELD for fold-back exhaustion of unit 0 (row 0, BRAKE) and for limit row 2, which unit 0 qualifies (row 1, COAST). -/
def crossed : State :=
  let a := withRow (withRow (withRow live .limit 2 ((bladeRow.set 9 0).set 11 100)) .reflex 0 [0x01, 27, 0x0C, 0, 0, 0, 0, 0])
    .reflex 1 [0x01, 2, 0x08, 0, 0, 0, 0, 0]
  let b := ((a.setUnit 0 { driven with foldLevel := 7, exhausted := true }).setUnit 1
    { driven with state := .heldBrake, target := 0, demand := 0, applied := 0, onTime := 0 }).setLimit 2 ⟨0, 0, true, true, none, false⟩
  { b with reflex := { b.reflex with
      rows := (b.reflex.rows.set 0 ⟨true, true⟩).set 1 ⟨true, true⟩
      hold := Bank.tabulate fun u => if u = 1 then .brake else .none } }
theorem test_disable : ((after (.disable (rec1 [0x01])) driving).units.get 0).lines = ⟨false, false, false, false⟩ := by decide +kernel
/-- Unit 0's DISABLE ends at once the row that brakes unit 1 (FX0) and the one that lets it coast (LM2): its lines stay (R120). -/
theorem test_disable_single_change : (after (.disable (rec1 [0x01])) crossed).units.get 1 =
    { crossed.units.get 1 with state := .run } := by decide +kernel
theorem test_clear : (after (.clear (rec1 [0x00, 0x08, 0, 0, 1])) { live with
    status := { live.status with events := 0x0808 }
    reflex := { live.reflex with link := true } }).status.events = 0x0800 ∧
  (after (.clear (rec1 [0x00, 0x08, 0, 0, 1])) { live with reflex := { live.reflex with link := true } }).reflex.link = false := by decide +kernel
theorem test_report_mask : (after (.reportMask (rec1 [0x12, 0x34])) live).status.mask = 0x1234 := by decide +kernel
theorem test_sync : (after (.sync (rec1 [])) (withRow live .beat 0 [0x06, 0x40, 40, 0])).beat.restart = some 40 := by decide +kernel
/-- A SYNC of lag 0 at a tick whose boundary has been taken makes no second one (R8). -/
theorem test_sync_meets_boundary : (after (.sync (rec1 [])) live).beat.restart = none ∧ (after (.sync (rec1 [])) live).due = [] := by
  decide +kernel
/-- A WAKE whose hub has been woken meanwhile has nothing to carry out (R157). -/
theorem test_wake_already_woken : live.carryOut .wake = live := by decide +kernel
/-- A STANDBY behind a RESET FULL enters standby, the reload going on (R156). -/
theorem test_standby_after_reset : ((live.carryOut .resetFull).carryOut .standby).phase = .standbyReload ∧
    (after (.profileLoadEnd 0) ((torn.carryOut .resetFull).carryOut .standby)).phase = .standby := by decide +kernel
theorem test_standby : (after (.standby (rec1 [])) live).phase = .standby ∧ (after (.standby (rec1 [])) driving).answer = [some 4, some 0] := by
  decide +kernel
theorem test_wake : (after (.wake (rec1 [])) asleep).due = [.wakeStart] ∧ (after (.wake (rec1 [])) live).answer = [some 0, some 0] := by decide +kernel
theorem test_reset_full : (after (.resetFull 1 1 0) driving).phase = .reloading ∧ (after (.resetFull 1 1 0) driving).cause = .softFull := by
  decide +kernel
theorem test_reset_units : ((after (.resetUnits 1 1 0) driving).units.get 0).state = .off ∧ (after (.resetUnits 1 1 0) driving).status.events = 1 := by
  decide +kernel
theorem test_profile_save : (after (.profileSave (rec1 [3])) live).profile.remaining = 2 := by decide +kernel

/-- A save with its last block, the SAFE section, begun or due. -/
def saving (writing : Option Nat) : State :=
  { live with profile := { live.profile with
      save := .busy
      remaining := 1
      writing := writing
      job := [⟨.safe, 0, sectionImage .safe factoryTables⟩] } }

theorem test_block_begin : (after .profileBlockBegin (saving none)).profile.torn.safe = true := by decide +kernel
theorem test_block_verified : (after (.profileBlockVerified true) (saving (some 4))).status.events = 0x4000 ∧
    (after (.profileBlockVerified false) (saving (some 4))).profile.save = .failed := by decide +kernel

/-! ## Pulses -/

theorem test_on_time_start : ((after (.onTimeStart 0) driving).units.get 0).drive = .fwd ∧
    ((after (.onTimeStart 0) driving).units.get 0).lines = ⟨false, false, false, true⟩ := by decide +kernel
theorem test_on_time_end : ((after (.onTimeEnd 0) (after (.onTimeStart 0) driving)).units.get 0).lines = ⟨false, false, false, true⟩ := by
  decide +kernel
theorem test_dead_time_end : ((after (.deadTimeEnd 0) (after (.onTimeStart 0) driving)).units.get 0).lines = ⟨true, false, false, true⟩ := by
  decide +kernel

/-! ## Witnesses: for each statement a state and operands that meet its hypotheses, clause by clause -/

/-- The state with a command in front of its queue. -/
def queued (c : Instr) (s : State) : State := { s with pending := c :: s.pending }

/-- Unit 0 HELD for the safe cause LINK, whose safe action of every factory unit but the last is BRAKE. -/
def held : State :=
  { live.setUnit 0 { driven with
      state := .heldBrake
      target := 0
      demand := 0
      applied := 0
      onTime := 0 } with
    reflex := { live.reflex with
      link := true
      hold := (Bank.all 4 .brake).set 3 .coast } }

/-- Unit 0 with a pending setpoint of 0 that asks for a brake, one ramp step from rest. -/
def arriving : State := live.setUnit 0 { driven with
  target := 20
  demand := 20
  applied := 20
  onTime := 32
  pending := some { target := 0, flags := 1 } }

/-- Four entries and one housekeeping request wait while entry 5 converts. -/
def crowded : State :=
  { live with scan :=
    { entries := live.scan.entries
      queue := [⟨.entry 1, 1, 0, 0⟩, ⟨.entry 2, 2, 0, 0⟩, ⟨.entry 3, 3, 0, 60⟩, ⟨.temp, 15, 0, 0⟩, ⟨.entry 0, 0, 7, 0⟩]
      converter := some ⟨⟨.entry 5, 6, 0, 0⟩, 0, false⟩ } }

theorem pausing_settled : pausing.Settled := settled_of _ (by decide +kernel)
theorem braking_settled : (braking (.running 1) .brake).Settled := settled_of _ (by decide +kernel)
theorem held_settled : held.Settled := settled_of _ (by decide +kernel)
theorem arriving_settled : arriving.Settled := settled_of _ (by decide +kernel)
theorem asleep_settled : asleep.Settled := settled_of _ (by decide +kernel)
theorem live_gates : ∀ u, (live.units.get u).GatesSound := gates_sound live (by decide)
theorem pausing_gates : ∀ u, (pausing.units.get u).GatesSound := gates_sound pausing (by decide)
theorem braking_gates : ∀ u, ((braking (.running 1) .brake).units.get u).GatesSound := gates_sound _ (by decide)
theorem held_gates : ∀ u, (held.units.get u).GatesSound := gates_sound held (by decide)
theorem arriving_gates : ∀ u, (arriving.units.get u).GatesSound := gates_sound arriving (by decide)
theorem driving_lawful (u : Fin 4) : (driving.units.get u).Lawful := by constructor <;> revert u <;> decide +kernel

theorem witness_GateLinesNeverShort :
    (∀ u, ((queued (.onTimeStart 0) driving).units.get u).GatesSound) ∧ ∃ t, step (queued (.onTimeStart 0) driving) = .next t :=
  ⟨driving_gates, _, rfl⟩
theorem witness_UnitLawKept :
    (∀ u, ((queued .naturalBeatBoundary driving).units.get u).Lawful) ∧ ∃ t, step (queued .naturalBeatBoundary driving) = .next t :=
  ⟨driving_lawful, _, rfl⟩
theorem witness_OnTimeLawKept :
    (queued .naturalBeatBoundary driving).OnTimesLawful ∧ ∃ t, step (queued .naturalBeatBoundary driving) = .next t :=
  ⟨⟨by decide +kernel, by decide⟩, _, rfl⟩
theorem witness_ConditionsSettledKept : (queued (.stall 0) stalling).Settled ∧ ∃ t, step (queued (.stall 0) stalling) = .next t :=
  ⟨⟨stalling_settled.1, ⟨stalling_settled.2.1, stalling_settled.2.2, stalling_settled.2.3⟩, stalling_settled.3, stalling_settled.4,
    stalling_settled.5, stalling_settled.6⟩, _, rfl⟩
theorem crowded_lawful : QueueLawful crowded.scan.queue := by constructor <;> decide +kernel
theorem witness_QueueLawKept :
    QueueLawful (queued (.triggerRaised 5) crowded).scan.queue ∧ ∃ t, step (queued (.triggerRaised 5) crowded) = .next t :=
  ⟨crowded_lawful, _, rfl⟩
theorem witness_ResultLawKept :
    (queued (.conversionComplete 0xFFF) converting).ResultsLawful ∧ ∃ t, step (queued (.conversionComplete 0xFFF) converting) = .next t :=
  ⟨by constructor <;> decide +kernel, _, rfl⟩
theorem witness_BadFrameTakesNoEffect : live.link.upRun = none ∧ live.forwarding = true ∧
    [0xEE#8, 0xE7#8] ≠ wordBytes (crcOf (emptyFrame.take 10)) ∧ live.service.marks.getLsbD 0 = false := by decide +kernel
/-- Every latched event, a fired row and every safe cause set. -/
def alarmed : State :=
  { driving with
    status := { driving.status with events := 0xFFFF }
    reflex := { driving.reflex with
      rows := driving.reflex.rows.set 3 ⟨false, true⟩
      link := true
      thermal := true
      supply := true } }
theorem witness_LatchedStaysLatched : (∃ t, exec (.disable (rec1 [0x0F])) alarmed = .next t) ∧ (alarmed.reflex.rows.get 3).fired = true ∧
    alarmed.status.events.getLsbD 15 = true ∧ alarmed.reflex.link = true ∧ alarmed.reflex.thermal = true ∧
    alarmed.reflex.supply = true := ⟨⟨_, rfl⟩, by decide⟩
/-- The millisecond divider at a value. -/
def divided (n : Nat) : State := { live with beat := { live.beat with divider := n } }
theorem witness_DividerSetByNothingElse : (∃ t, exec (.millisecondTick 0) live = .next t) ∧
    (∃ t, step (divided 31998) = .next t) ∧ (∃ t, step (divided 31999) = .next t) ∧
    (divided 31999).pending = [] ∧ (divided 31999).due = [] := ⟨⟨_, rfl⟩, ⟨_, rfl⟩, ⟨_, rfl⟩, rfl, rfl⟩
theorem witness_ResetTaken : ∀ u, (driving.units.get u).GatesSound := driving_gates
theorem witness_LoadEndStarts : live.phase = .run ∧ asleep.phase = .standby ∧ State.reset.phase = .loading ∧
    ({ State.reset with phase := .reloading } : State).phase = .reloading ∧ (State.reset.units.get 3).state = .off ∧
    ({ asleep with phase := .standbyReload } : State).beat.restart = some 3 := by decide
/-- Table rows unpacked from zero bytes leave what follows to the next table. -/
theorem unpackRows_zeros (id : TableId) (n : Nat) (h : ∀ i, (storedBytes id i).length = n) (k i : Nat) (rest : List Byte) :
    unpackRows id i k (List.replicate (n * k) 0 ++ rest) = ((unpackRows id i k (List.replicate (n * k) 0)).1, rest) := by
  induction k generalizing i with
  | zero => simp [unpackRows]
  | succ k ih =>
    have e : List.replicate (n * (k + 1)) (0 : Byte) = List.replicate n 0 ++ List.replicate (n * k) 0 := by
      rw [List.replicate_append_replicate, Nat.mul_succ, Nat.add_comm]
    have l : n = (List.replicate n (0 : Byte)).length := by simp
    unfold unpackRows
    simp only [h, e, List.append_assoc]
    rw [List.take_left' (by simp), List.drop_left' (by simp), List.take_left' (by simp), List.drop_left' (by simp), ih]

/-- Zero bytes leave a check of 0 as it is. -/
theorem crc_zeros (n : Nat) : (List.replicate n (0 : Byte)).foldl crcByte 0 = 0 := by
  induction n with
  | zero => rfl
  | succ n ih => rw [List.replicate_succ, List.foldl_cons, show crcByte 0 0 = 0 by decide]; exact ih

/-- A section of zeros about a core that ends in its own check has a good check of 0. -/
theorem sectionCheckGood_about (front core back : List Byte) (f : crcOf front = 0) (h : crcOf core = 0)
    (g : crcOf back = 0) : sectionCheckGood (front ++ (core ++ back) ++ [0, 0]) = true := by
  have c : crcOf (front ++ (core ++ back)) = 0 := by
    unfold crcOf at f g h ⊢
    rw [List.foldl_append, List.foldl_append, f, h, g]
  generalize front ++ (core ++ back) = body at c ⊢
  simp [sectionCheckGood, c, wordBytes]

/-- What a store keeps of the first three tables of TABLES, all zero, before reflex row 0 on contact 3. -/
def storedFront : List Byte := List.replicate (4 * 8) 0 ++ (List.replicate (8 * 24) 0 ++ List.replicate (13 * 16) 0)

/-- That row's first two bytes and a check of their own, which leaves the whole section's at 0. -/
def storedCore : List Byte := [0x03, 19] ++ wordBytes (crcOf [0x03, 19])

/-- A store whose TABLES section enables reflex row 0 on contact 3, and whose IDENTITY holds the serial number 1234h. -/
def stored : State :=
  { State.reset with profile := { State.reset.profile with
      identity := [] ++ ([0, 0, 0x12, 0x34] ++ wordBytes (crcOf [0, 0, 0x12, 0x34]) ++ List.replicate 56 0) ++ [0, 0]
      tables := storedFront ++ (storedCore ++ List.replicate 266 0) ++ [0, 0]
      torn := ⟨false, true, true, false⟩ } }

theorem stored_identity : sectionCheckGood stored.profile.identity = true :=
  sectionCheckGood_about [] ([0, 0, 0x12, 0x34] ++ wordBytes (crcOf [0, 0, 0x12, 0x34])) _ rfl (by decide +kernel) (crc_zeros 56)

theorem stored_check : sectionCheckGood stored.profile.tables = true :=
  sectionCheckGood_about _ _ _
    (by unfold storedFront crcOf; rw [List.foldl_append, List.foldl_append, crc_zeros, crc_zeros, crc_zeros])
    (by decide +kernel) (crc_zeros 266)

theorem stored_sections (t : Tables) : 
    (stored.profile.sectionTables .tables t).slot = (unpackRows .slot 0 8 (List.replicate (4 * 8) 0)).1 ∧
    (stored.profile.sectionTables .tables t).scan = (unpackRows .scan 0 24 (List.replicate (8 * 24) 0)).1 ∧
    (stored.profile.sectionTables .tables t).reflexRow 0 = clampRow .reflex 0 (unpackRow .reflex 0 [0x03, 19, 0x8A, 0x69, 0]) := by
  have b : stored.profile.bytesOf .tables = List.replicate (4 * 8) 0 ++ (List.replicate (8 * 24) 0 ++ (List.replicate (13 * 16) 0 ++
      ((storedCore ++ List.replicate 266 0) ++ [0, 0]))) := by
    show storedFront ++ (storedCore ++ List.replicate 266 0) ++ [0, 0] = _
    unfold storedFront; simp only [List.append_assoc]
  have r : ((storedCore ++ List.replicate 266 0) ++ [0, 0]).take 5 = [0x03, 19, 0x8A, 0x69, 0] := by decide +kernel
  unfold Profile.sectionTables unpackTables
  rw [b]
  simp only [Section.tableIds, List.foldl_cons, List.foldl_nil, TableId.rows]
  rw [unpackRows_zeros .slot 4 (fun _ => rfl)]
  dsimp only
  rw [unpackRows_zeros .scan 8 (fun _ => rfl)]
  dsimp only
  rw [unpackRows_zeros .limit 13 (fun _ => rfl)]
  dsimp only
  refine ⟨rfl, rfl, ?_⟩
  rw [← r]
  generalize storedCore ++ List.replicate 266 0 ++ [0, 0] = rest
  rfl

theorem stored_loads (t : Tables) : stored.profile.loads .tables t = true := by
  have k := stored_sections t
  unfold Profile.loads Profile.checkGood
  rw [show sectionCheckGood (stored.profile.bytesOf .tables) = true from stored_check]
  dsimp only
  unfold structurallySound
  rw [k.1, k.2.1]
  decide +kernel

theorem stored_starts (pins : Byte) : (after (.profileLoadEnd pins) stored).tables.reflexRow 0 =
    clampRow .reflex 0 (unpackRow .reflex 0 [0x03, 19, 0x8A, 0x69, 0]) := by
  show (State.endLoad stored pins).tables.reflexRow 0 = _
  rw [State.endLoad_tables stored pins (.inl rfl) rfl]
  obtain ⟨t, e⟩ := State.loadProfile_tables stored stored_loads
  rw [e]
  exact (stored_sections t).2.2
theorem stored_row (pins : Byte) : reflexEnabled ((after (.profileLoadEnd pins) stored).tables.reflexRow 0) = true ∧
    (reflexSource ((after (.profileLoadEnd pins) stored).tables.reflexRow 0)).val = 16 + (3 : Fin 8).val := by
  rw [stored_starts]; decide +kernel
theorem stored_polarity (pins : Byte) (b : Bool) (k : contactPolarity (stored.loadProfile.tables.contactRow 3) = b) :
    contactPolarity ((after (.profileLoadEnd pins) stored).tables.contactRow 3) = b := by
  have all : (State.endLoad stored pins).tables = stored.loadProfile.tables := State.endLoad_tables stored pins (.inl rfl) rfl
  exact (congrArg (fun T : Tables => contactPolarity (T.contactRow 3)) all).trans k
theorem witness_LoadEndStarts_rows : ∃ pins : Byte, stored.phase = .loading ∧ sectionCheckGood stored.profile.identity = true ∧
    reflexEnabled ((after (.profileLoadEnd pins) stored).tables.reflexRow 0) = true ∧
    (reflexSource ((after (.profileLoadEnd pins) stored).tables.reflexRow 0)).val = 16 + (3 : Fin 8).val ∧
    contactPolarity ((after (.profileLoadEnd pins) stored).tables.contactRow 3) = pins.getLsbD (3 : Fin 8) := by
  rcases Bool.eq_false_or_eq_true (contactPolarity (stored.loadProfile.tables.contactRow 3)) with k | k
  · exact ⟨0x08, rfl, stored_identity, (stored_row 0x08).1, (stored_row 0x08).2, stored_polarity 0x08 _ k⟩
  · exact ⟨0x00, rfl, stored_identity, (stored_row 0x00).1, (stored_row 0x00).2, stored_polarity 0x00 _ k⟩
theorem test_serial_read : stored.profile.readSerial = 0x1234 := by
  unfold Profile.readSerial
  rw [stored_identity]
  decide
theorem witness_PulseEdgesTurnDrive : (driving.units.get 0).state = .run ∧ 0 < (driving.units.get 0).onTime ∧
    ¬((driving.units.get 1).state = .run ∧ 0 < (driving.units.get 1).onTime) := by decide
/-- Unit 2 with dead time running. -/
def waiting (k : Nat) : State := live.setUnit 2 { PulseUnit.atReset with dead := some k }
theorem witness_DeadTimeRunsOut : (waiting 8).pending = [] ∧ (waiting 8).due = [] ∧ ((waiting 8).units.get 2).dead = some (7 + 1) ∧
    ((waiting 1).units.get 2).dead = some (0 + 1) ∧ ((waiting 8).units.get 1).dead = none := by decide
theorem witness_RunUnitComputesItsBeat : driving.Settled ∧ (∀ v, (driving.units.get v).GatesSound) ∧ driving.phase = .run ∧
    driving.service.marks &&& 0x1FE = 0 ∧ (driving.units.get 0).state = .run :=
  ⟨driving_settled, driving_gates, by decide⟩
theorem witness_RunUnitComputesItsBeat_brakes : arriving.Settled ∧ (∀ v, (arriving.units.get v).GatesSound) ∧ arriving.phase = .run ∧
    (arriving.units.get 0).state = .run ∧ rampStep (unitRampStep (arriving.tables.unitRow 0)) 0 (arriving.units.get 0).demand
      (arriving.units.get 0).dirMemory = 0 ∧ 0 < unitBrakeTime (arriving.tables.unitRow 0) :=
  ⟨arriving_settled, arriving_gates, by decide⟩
theorem witness_IdleUnitsAtBoundary : (live.units.get 0).state = .off ∧ (pausing.units.get 1).state = .pause ∧
    (pausing.units.get 1).dirMemory = some .fwd ∧ (pausing.units.get 1).target < 0 ∧
    ((braking (.running 1) .brake).units.get 1).state = .brake ∧ (held.units.get 0).state.held = true ∧
    pausing.Settled ∧ (braking (.running 1) .brake).Settled ∧ held.Settled ∧ (∀ v, (pausing.units.get v).GatesSound) ∧
    (∀ v, ((braking (.running 1) .brake).units.get v).GatesSound) ∧ ∀ v, (held.units.get v).GatesSound :=
  ⟨by decide, by decide, by decide, by decide, by decide, by decide, pausing_settled, braking_settled, held_settled, pausing_gates,
    braking_gates, held_gates⟩
/-- Unit 1 in PAUSE with a pending setpoint. -/
def redirected (target : BitVec 16) : State :=
  pausing.setUnit 1 { pausing.units.get 1 with pending := some { target := target, flags := 1 } }
theorem witness_IdleUnitsAtBoundary_setpoint : (redirected 1200).Settled ∧ (redirected 0xFED4).Settled ∧
    (∀ v, ((redirected 1200).units.get v).GatesSound) ∧ ((redirected 1200).units.get 1).state = .pause ∧
    ((redirected 1200).units.get 1).demand = 0 ∧ ((redirected 0xFED4).units.get 1).dirMemory = some .fwd ∧
    (0xFED4 : Word16).toInt < 0 := by
  exact ⟨settled_of _ (by decide +kernel), settled_of _ (by decide +kernel), gates_sound _ (by decide), by decide +kernel⟩
/-- Unit 0 watches slot 7 with limit 40000; level, release run and exhaustion run as given. -/
def folding (level release exhaust : Nat) : State :=
  (withRow live .unit 0 ((factoryUnitRow 0x06 0 0).set 9 7 |>.set 10 0x9C |>.set 11 0x40)).setUnit 0
    { driven with foldLevel := level, releaseRun := release, exhaustRun := exhaust }
theorem witness_FoldBackFollowsResults : unitCurrentSlot ((folding 6 0 0).tables.unitRow 0) = some 7 ∧
    ((folding 6 0 0).units.get 0).state = .run ∧ unitCurrentLimit ((folding 6 0 0).tables.unitRow 0) = 40000 ∧
    ((folding 6 0 0).units.get 0).foldLevel < 7 ∧ 7 ≤ ((folding 7 0 0).units.get 0).foldLevel ∧
    ((folding 7 6 0).units.get 0).releaseRun + 1 < unitReleaseCount ((folding 7 6 0).tables.unitRow 0) ∧
    unitReleaseCount ((folding 7 7 0).tables.unitRow 0) ≤ ((folding 7 7 0).units.get 0).releaseRun + 1 := by decide +kernel
theorem witness_PauseAndBrakeTimersEnd : (pausing.units.get 1).demand = 0 ∧ (pausing.units.get 1).zeroCount = some 5 ∧
    unitReversalPause (pausing.tables.unitRow 1) ≤ 5 ∧ ((braking (.waiting 20) .coast).units.get 1).brakeCount = .waiting 20 ∧
    ((braking (.running 1) .brake).units.get 1).brakeCount = .running 1 ∧ (braking (.running 1) .brake).Settled :=
  ⟨by decide, by decide, by decide, by decide, by decide, braking_settled⟩
/-- The beat with a number. -/
def numbered (n : Word16) : State := { live with beat := { live.beat with number := n } }
theorem witness_NaturalBoundaryOpensBeat : asleep.phase ≠ .run ∧ (numbered 63).phase = .run ∧
    housekeepingWaiting (numbered 63).scan.queue = [] ∧ ((numbered 63).beat.number + 1).toNat % 64 = 0 ∧
    ((numbered 31).beat.number + 1).toNat % 64 = 32 ∧ (live.units.get 0).state = .off ∧ (numbered 63).beat.restart = none := by
  decide +kernel
theorem witness_NaturalBoundaryOpensBeat_restart :
    let s : State := { driving with beat := { driving.beat with restart := some 0 } }
    s.phase = .run ∧ s.beat.restart = some 0 ∧ 0 ≤ s.now := by decide
/-- Marks of two recorded sets, the second waiting for SLOT as well. -/
def marked : State := { live with service := { live.service with marks := 0x1FF, swaps := [0x1FE, 0x001] } }
theorem witness_SwapMarksTakeEffect : marked.phase = .run ∧ marked.forwarding = true ∧ marked.link.upRun = none ∧
    marked.service.marks.getLsbD 0 = true ∧ live.service.marks.getLsbD 0 = false ∧
    (marked.service.marks &&& 0x1FE).getLsbD 1 = true ∧ (marked.service.marks &&& 0x1FE).getLsbD 2 = true ∧
    (marked.service.marks &&& 0x1FE).getLsbD 4 = true ∧ (marked.service.marks &&& 0x1FE).getLsbD 5 = true := by decide
theorem witness_SwapMarksTakeEffect_flush : ({ crowded with service := marked.service } : State).phase = .run ∧
    (marked.service.marks &&& 0x1FE).getLsbD 1 = true ∧ crowded.scan.converter = some ⟨⟨.entry 5, 6, 0, 0⟩, 0, false⟩ ∧
    marked.scan.converter = none := by decide
/-- A crowded sequencer with a restart pending. -/
def resynced : State := { crowded with beat := { crowded.beat with restart := some 5, position := 9 } }
theorem witness_SyncRestartCutsBeat : resynced.phase = .run ∧ resynced.beat.restart ≠ none ∧ live.beat.restart = none ∧
    resynced.scan.converter = some ⟨⟨.entry 5, 6, 0, 0⟩, 0, false⟩ := by decide
theorem witness_WakeStartsBeat : asleep.phase = .standby ∧ asleep.beat.restart ≠ none ∧ (asleep.contacts.get 2).wakes = true ∧
    (∀ k < (2 : Fin 8), (asleep.contacts.get k).wakes = false) ∧ live.phase ≠ .standby := by decide
theorem witness_WakeStartsBeat_marks : ({ asleep with service := marked.service } : State).phase = .standby ∧
    marked.service.marks.getLsbD TableId.beat.code = true ∧ live.service.marks.getLsbD TableId.beat.code = false ∧
    (0x1FE#9) &&& ~~~(marked.service.marks &&& 0x1FE) = 0 ∧ (0x001#9) &&& ~~~(marked.service.marks &&& 0x1FE) ≠ 0 := by decide
/-- The beat at a position. -/
def placed (p : Nat) (restart : Option Nat) : State := { live with beat := { live.beat with position := p, restart := restart } }
theorem witness_CoreTickMovesTime : live.pending = [] ∧ live.due = [] ∧ asleep.phase ≠ .run ∧ (placed 9 (some 1)).phase = .run ∧
    (placed 1599 none).beat.length ≤ (placed 1599 none).beat.position + 1 ∧
    (placed 1598 none).beat.position + 1 < (placed 1598 none).beat.length ∧ (placed 9 (some 1)).beat.restart = some 1 ∧
    (driving.units.get 0).state = .run ∧ driving.beat.position + 1 < driving.beat.length ∧ driving.due = [] := by decide
/-- Contact 0 held for `h` milliseconds under debounce time 15; contact 1 with debounce time 0. -/
def bouncing (h : Option Nat) : State :=
  (withRow (withRow live .input 0 [0xF0, 0, 0, 0, 0, 0]) .input 1 [0x00, 0, 0, 0, 0, 0]).setContact 0
    { Contact.atReset with hold := h }
theorem witness_MillisecondTickCounts : live.due = [] ∧ (bouncing (some 14)).phase = .run ∧
    ((bouncing (some 14)).contacts.get 0).hold = some 14 ∧ ((bouncing none).contacts.get 0).hold = none ∧
    contactDebounce ((bouncing none).tables.contactRow 0) = 15 ∧ contactDebounce ((bouncing none).tables.contactRow 1) = 0 ∧
    (1 : Byte).getLsbD 0 ≠ ((bouncing none).contacts.get 0).filtered ∧ State.reset.phase = .loading ∧
    (saving none).profile.writing = none ∧ (saving (some 3)).profile.save = .busy ∧ (saving (some 3)).profile.writing = some 3 ∧
    (saving none).due = [] ∧ live.link.timer = .stopped := by decide +kernel
theorem witness_FilteredChangeTaken : State.reset.phase = .loading ∧ live.Settled ∧ live.phase = .run ∧ asleep.Settled ∧
    asleep.phase = .standby := ⟨rfl, live_settled, rfl, asleep_settled, rfl⟩
/-- An enabled latched row watches contact 3, whose filtered level is about to take its polarity. -/
def watching : State :=
  withRow (withRow live .reflex 4 [0x03, 19, 0, 0, 0, 0, 0, 0]) .input 3 [0x51, 0, 0, 0, 0, 0]
theorem watching_settled : watching.Settled := settled_of _ (by decide +kernel)
/-- Row 4 watches contact 3, whose polarity an INPUT swap turns over at the boundary of a REFLEX swap. -/
def polarized : State :=
  { watching with service := { watching.service with
      marks := 0x28
      shadow := { watching.service.active with
        input := watching.service.active.input.set 3 [0x50, 0, 0, 0, 0, 0]
        reflex := watching.service.active.reflex.set 5 [0x01, 3, 0, 0, 0, 0, 0, 0] } } }
theorem witness_SwapMarksTakeEffect_rows : polarized.Settled ∧ polarized.phase = .run ∧
    reflexEnabled (polarized.tables.reflexRow 4) = true ∧ (reflexSource (polarized.tables.reflexRow 4)).val = 16 + (3 : Fin 8).val ∧
    (polarized.contacts.get 3).filtered ≠ contactPolarity (polarized.tables.contactRow 3) := by
  exact ⟨settled_of _ (by decide +kernel), by decide +kernel⟩
theorem witness_FilteredChangeTaken_fires : watching.Settled ∧ reflexEnabled (watching.tables.reflexRow 4) = true ∧
    (reflexSource (watching.tables.reflexRow 4)).val = 16 + (3 : Fin 8).val ∧
    (!(watching.contacts.get 3).filtered) = contactPolarity (watching.tables.contactRow 3) :=
  ⟨watching_settled, by decide +kernel⟩
/-- The same input with no row to watch it, its stall declared or not. -/
def standing (stalled : Bool) : State :=
  (withRow driving .input 8 [0x00, 0, 20, 0x00, 0x96, 0]).setRotation 0 { Rotation.atReset with stallTimer := some 20, stalled := stalled }
theorem standing_settled : (standing false).Settled ∧ (standing true).Settled :=
  ⟨settled_of _ (by decide +kernel), settled_of _ (by decide +kernel)⟩
theorem witness_StallsAndEdgesTaken : stalling.Settled ∧ (standing false).Settled ∧ (standing true).Settled ∧
    0 < rotationStallWindow (stalling.tables.rotationRow 0) ∧
    (stalling.rotation.get 0).stallTimer = some (rotationStallWindow (stalling.tables.rotationRow 0)) ∧
    (stalling.rotation.get 0).stalled = false ∧ reflexEnabled (stalling.tables.reflexRow 0) = true ∧
    (reflexSource (stalling.tables.reflexRow 0)).val = 24 ∧ rotationStallWindow (live.tables.rotationRow 0) = 0 ∧
    ((standing true).rotation.get 0).stallTimer = some 20 ∧ rotationStallWindow ((standing true).tables.rotationRow 0) = 20 ∧
    ∀ n, reflexEnabled ((standing false).tables.reflexRow n) = false :=
  ⟨stalling_settled, standing_settled.1, standing_settled.2, by decide +kernel⟩
/-- A stall already declared, in a settled part with sound gate lines. -/
theorem witness_StallsAndEdgesTaken_declared : (standing true).Settled ∧ (∀ u, ((standing true).units.get u).GatesSound) ∧
    0 < rotationStallWindow ((standing true).tables.rotationRow 0) ∧
    ((standing true).rotation.get 0).stallTimer = some (rotationStallWindow ((standing true).tables.rotationRow 0)) ∧
    ((standing true).rotation.get 0).stalled = true :=
  ⟨standing_settled.2, gates_sound _ (by decide), by decide +kernel⟩
/-- Unit 0 driving with the link timer at a count. -/
def timed (c : Nat) : State := { driving with link := { driving.link with timer := .running c } }
theorem timed_settled (c : Nat) : (timed c).Settled :=
  ⟨driving_settled.1, ⟨driving_settled.2.1, driving_settled.2.2, driving_settled.2.3⟩, driving_settled.3, driving_settled.4,
    driving_settled.5, driving_settled.6⟩
theorem witness_LinkTimerExpires : (timed 50).Settled ∧ (timed 50).link.timer = .running 50 ∧
    safeLinkTimeout ((timed 50).tables.row .safe 0) = 50 ∧ (timed 49).link.timer = .running 49 ∧ live.link.timer = .stopped :=
  ⟨timed_settled 50, by decide⟩
/-- The link timer at its timeout with unit 0 driving and unit 1 HELD. -/
def crossedTimed : State := { crossed with link := { crossed.link with timer := .running 50 } }
theorem witness_LinkTimerExpires_units : crossedTimed.Settled ∧ (∀ u, (crossedTimed.units.get u).GatesSound) ∧
    (crossedTimed.units.get 0).state.driving = true ∧ (crossedTimed.units.get 1).state.held = true ∧
    (crossedTimed.units.get 2).state = .off ∧ crossedTimed.link.timer = .running 50 ∧
    safeLinkTimeout (crossedTimed.tables.row .safe 0) = 50 :=
  ⟨settled_of _ (by decide +kernel), gates_sound _ (by decide), by decide +kernel⟩
/-- Rotation input 1 with filter code 1 (4 ticks) and a persistence count; input 2 with no filter. -/
def filtering (p : Option Nat) : State :=
  (withRow (withRow live .input 9 [0x01, 1, 0, 0, 0xC8, 0]) .input 10 [0x00, 2, 0, 0, 0xC8, 0]).setRotation 1
    { Rotation.atReset with persistence := p }
/-- Rotation pins 1 and 2 HIGH, rotation pin 0 LOW. -/
def levelled (p : Option Nat) : State := { filtering p with pins := { live.pins with rotation := 6 } }
theorem witness_CoreTickMovesTime_compares : (levelled none).pending = [] ∧ (levelled none).due = [] ∧ (levelled none).phase = .run ∧
    (levelled none).pins.rotation.getLsbD 0 = ((levelled none).rotation.get 0).accepted ∧
    (levelled none).pins.rotation.getLsbD 1 ≠ ((levelled none).rotation.get 1).accepted ∧
    rotationFilter ((levelled none).tables.rotationRow 1) = 4 ∧ ((levelled (some 3)).rotation.get 1).persistence = some 3 ∧
    (levelled none).pins.rotation.getLsbD 2 ≠ ((levelled none).rotation.get 2).accepted ∧
    ((levelled none).rotation.get 2).persistence = none ∧ rotationFilter ((levelled none).tables.rotationRow 2) = 0 := by decide +kernel
theorem witness_RotationPinCompared : live.pins.rotation.getLsbD 1 = false ∧ live.phase = .run ∧ State.reset.phase = .loading ∧
    (filtering none).phase = .run ∧ ((filtering none).rotation.get 1).accepted ≠ true ∧
    rotationFilter ((filtering none).tables.rotationRow 1) = 4 ∧ rotationFilter ((filtering none).tables.rotationRow 2) = 0 ∧
    ((filtering (some 3)).rotation.get 1).persistence = some 3 ∧ ((filtering none).rotation.get 1).persistence = none ∧
    (filtering none).due.count (.accepted 1) ≤ 1 ∧ ((filtering (some 2)).rotation.get 1).persistence = some 2 ∧ 2 + 1 < 4 ∧
    (levelled (some 2)).pins.rotation.getLsbD 1 ≠ false ∧ false = ((levelled (some 2)).rotation.get 1).accepted := by decide +kernel
theorem turning_settled : turning.Settled := settled_of _ (by decide +kernel)
theorem witness_StallsAndEdgesTaken_edges : turning.Settled ∧ turning.phase = .run ∧
    turning.pins.rotation.getLsbD 0 ≠ (turning.rotation.get 0).accepted ∧
    rotationEdge (turning.tables.rotationRow 0) = .rising ∧ turning.pins.rotation.getLsbD 0 = true ∧
    1 ≤ (turning.rotation.get 0).edgesSeen ∧ (turning.rotation.get 0).edgeTime = some 8000 ∧
    turning.pins.rotation.getLsbD 1 = (turning.rotation.get 1).accepted :=
  ⟨turning_settled, by decide +kernel⟩
/-- The same input with edge select FALLING: its change to HIGH is no qualifying edge. -/
def turningUnseen : State := withRow turning .input 8 [0x06, 0, 0, 0x00, 0xC8, 0]
theorem witness_StallsAndEdgesTaken_unseen : turningUnseen.Settled ∧ (∀ u, (turningUnseen.units.get u).GatesSound) ∧
    turningUnseen.phase = .run ∧ turningUnseen.pins.rotation.getLsbD 0 ≠ (turningUnseen.rotation.get 0).accepted ∧
    rotationEdge (turningUnseen.tables.rotationRow 0) = .falling ∧ turningUnseen.pins.rotation.getLsbD 0 = true :=
  ⟨settled_of _ (by decide +kernel), gates_sound _ (by decide), by decide +kernel⟩
/-- The crowded sequencer with entries 3 (already waiting) and 9 planned. -/
def crowdedPlanned : State := (crowded.setEntry 3 { ScanEntry.atReset with planned := some 40 }).setEntry 9
  { ScanEntry.atReset with planned := some 40, drops := 255 }
/-- Entry 9 planned while one other entry converts and nothing waits. -/
def planned9 (c : Option Conversion) : State :=
  { live with scan := ⟨live.scan.entries.set 9 { ScanEntry.atReset with planned := some 40 }, [], c⟩ }
theorem witness_TriggerRaisesRequest : QueueLawful (planned9 none).scan.queue ∧ crowdedPlanned.phase = .run ∧ (crowdedPlanned.scan.entries.get 3).planned ≠ none ∧
    (crowdedPlanned.scan.entries.get 9).planned ≠ none ∧
    4 ≤ (crowdedPlanned.scan.queue.filter fun q => q.source.isEntry).length ∧ ((planned9 none).scan.entries.get 9).planned ≠ none ∧
    (planned9 none).scan.queue = [] ∧ (planned9 (some ⟨⟨.temp, 15, 0, 0⟩, 0, false⟩)).scan.converter ≠ none ∧
    (live.scan.entries.get 9).planned = none :=
  ⟨by constructor <;> decide, by decide +kernel⟩
/-- A conversion of entry 5 to be discarded, with requests waiting, at instant 61. -/
def discarding (q : List ScanRequest) : State :=
  { live with
    now := 61
    scan := ⟨live.scan.entries, q, some ⟨⟨.entry 5, 6, 0, 0⟩, 0, true⟩⟩ }
theorem witness_ConverterTakesHead : live.scan.converter = none ∧
    (discarding []).scan.converter = some ⟨⟨.entry 5, 6, 0, 0⟩, 0, true⟩ ∧ (discarding []).phase = .run ∧
    (discarding [⟨.entry 1, 1, 1, 60⟩]).now - 1 ≤ 60 ∧ (discarding [⟨.entry 1, 1, 1, 60⟩]).scan.queue = [⟨.entry 1, 1, 1, 60⟩] ∧
    60 < (discarding [⟨.entry 1, 1, 0, 60⟩, ⟨.entry 2, 2, 1, 60⟩]).now - 0 ∧
    (discarding [⟨.entry 1, 1, 0, 60⟩, ⟨.entry 2, 2, 1, 60⟩]).scan.queue = [⟨.entry 1, 1, 0, 60⟩, ⟨.entry 2, 2, 1, 60⟩] ∧
    crowded.scan.converter = some ⟨⟨.entry 5, 6, 0, 0⟩, 0, false⟩ ∧ crowded.scan.queue ≠ [] := by decide
theorem witness_ConversionDeliversSample :
    converting.scan.converter = some { request := { source := .entry 5, input := 6, raised := 0, late := 60 }, started := 0, discard := false } ∧
    converting.scan.queue = [] ∧ (converting.scan.entries.get 5).samples + 1 = scanAverage (converting.tables.scanRow 5) ∧
    (live.scan.entries.get 5).samples + 1 ≠ scanAverage (converting.tables.scanRow 5) := by decide +kernel
theorem witness_ConversionDeliversSample_reads : driving.Settled ∧ (driving.storeResult 24 0).safeActive = false ∧
    ∀ k, reflexEnabled (driving.tables.reflexRow k) = true →
      reflexAction (driving.tables.reflexRow k) 0 ≠ .coast ∧ reflexAction (driving.tables.reflexRow k) 0 ≠ .brake :=
  ⟨driving_settled, by decide +kernel, by decide +kernel⟩
theorem witness_TimedTriggerPlanned_boundaries : live.OpensBeat .naturalBeatBoundary ∧ resynced.OpensBeat .syncRestart ∧
    State.reset.OpensBeat (.profileLoadEnd 0) ∧ asleep.OpensBeat .wakeLinkStart ∧ asleep.OpensBeat .wakeContact :=
  ⟨.inl ⟨rfl, rfl⟩, .inr (.inl ⟨rfl, rfl, by decide⟩), .inr (.inr (.inl ⟨⟨0, rfl⟩, .inl rfl⟩)),
    .inr (.inr (.inr (.inl ⟨rfl, rfl, by decide⟩))), .inr (.inr (.inr (.inr ⟨rfl, rfl, 2, by decide⟩)))⟩
/-- Entry 5 with offset 0: its trigger is raised at the boundary. -/
def opening : State := withRow live .scan 5 [0x01, 0x16, 0, 0, 0, 0, 60, 5]
theorem witness_TimedTriggerPlanned_raised : opening.OpensBeat .naturalBeatBoundary ∧ opening.scan.queue = [] ∧
    scanEnabled (opening.tables.scanRow 5) = true ∧ scanAnchored (opening.tables.scanRow 5) = false ∧
    (opening.beat.number + 1).toNat % scanDivider (opening.tables.scanRow 5) = scanPhase (opening.tables.scanRow 5) ∧
    min (scanTimedOffset (opening.tables.scanRow 5)) (beatLength (opening.tables.row .beat 0) - 1) = 0 :=
  ⟨.inl ⟨rfl, rfl⟩, by decide +kernel⟩
theorem witness_TimedTriggerPlanned : scanning.OpensBeat .naturalBeatBoundary ∧ scanEnabled (scanning.tables.scanRow 5) = true ∧
    scanAnchored (scanning.tables.scanRow 5) = false ∧
    (scanning.beat.number + 1).toNat % scanDivider (scanning.tables.scanRow 5) = scanPhase (scanning.tables.scanRow 5) ∧
    scanEnabled (scanning.tables.scanRow 4) = false ∧ scanning.scan.queue = [] := ⟨.inl ⟨rfl, rfl⟩, by decide +kernel⟩
/-- Entry 5 anchored to unit 0 of the driving part. -/
def anchored (point : Byte) : State := withRow driving .scan 5 [0x03 ||| (point <<< 4), 0x06, 0, 0, 0, 200, 60, 5]
theorem witness_AnchoredTriggerPlanned : (anchored 0).OpensBeat .naturalBeatBoundary ∧ scanEnabled ((anchored 1).tables.scanRow 5) = true ∧
    scanAnchored ((anchored 1).tables.scanRow 5) = true ∧ scanAnchorPoint ((anchored 0).tables.scanRow 5) = .onStart ∧
    scanAnchorPoint ((anchored 1).tables.scanRow 5) = .onCenter ∧ scanAnchorPoint ((anchored 2).tables.scanRow 5) = .offCenter ∧
    ((anchored 0).beat.number + 1).toNat % scanDivider ((anchored 0).tables.scanRow 5) = scanPhase ((anchored 0).tables.scanRow 5) ∧
    (anchored 0).scan.queue = [] := ⟨.inl ⟨rfl, rfl⟩, by decide +kernel⟩
/-- Limit row 2 is the blade row without a qualifier unit, with runs and state as given. -/
def limiting (trip release : Nat) (active : Bool) : State :=
  (withRow live .limit 2 bladeRow).setLimit 2 ⟨trip, release, active, true, none, false⟩
theorem limiting_settled : (limiting 2 0 false).Settled ∧ (limiting 1 0 false).Settled ∧ (limiting 0 1 true).Settled ∧
    (limiting 0 0 true).Settled :=
  have each (t r : Nat) (a : Bool) (h : (t, r, a) ∈ [(2, 0, false), (1, 0, false), (0, 1, true), (0, 0, true)]) : (limiting t r a).Settled := by
    simp at h; rcases h with h | h | h | h <;> (obtain ⟨rfl, rfl, rfl⟩ := h; exact settled_of _ (by decide +kernel))
  ⟨each _ _ _ (by simp), each _ _ _ (by simp), each _ _ _ (by simp), each _ _ _ (by simp)⟩
theorem witness_LimitRowCountsRuns : (limiting 2 0 false).Settled ∧ (limiting 0 1 true).Settled ∧ live.conditionerRunning = true ∧
    limitEnabled bladeRow = true ∧ limitQualifier bladeRow = none ∧ limitSource bladeRow = 4 ∧ limitTripCount bladeRow ≤ 2 + 1 ∧
    1 + 1 < limitTripCount bladeRow ∧ limitReleaseCount bladeRow ≤ 1 + 1 ∧ 0 + 1 < limitReleaseCount bladeRow ∧
    judgeResult bladeRow 40001 = .tripping ∧ judgeResult bladeRow 38000 = .releasing ∧ judgeResult bladeRow 38001 = .deadBand :=
  ⟨limiting_settled.1, limiting_settled.2.2.1, by decide⟩
/-- Limit row 2 is the blade row for qualifier unit 0 with minimum duty 100, the unit in RUN with an applied duty. -/
def judging (applied : Int) (x : LimitRow) : State :=
  ((withRow live .limit 2 ((bladeRow.set 9 0).set 11 100)).setUnit 0 { driven with applied := applied }).setLimit 2 x
theorem judging_settled : (judging 500 ⟨2, 0, false, true, none, false⟩).Settled ∧ (judging 99 LimitRow.atReset).Settled :=
  ⟨settled_of _ (by decide +kernel), settled_of _ (by decide +kernel)⟩
theorem witness_LimitRowCountsRuns_qualifier : (judging 500 ⟨2, 0, false, true, none, false⟩).Settled ∧
    (judging 99 LimitRow.atReset).Settled ∧ limitQualifier ((bladeRow.set 9 0).set 11 100) = some 0 ∧
    limitMinDuty ((bladeRow.set 9 0).set 11 100) = 100 ∧ limitEnabled ((bladeRow.set 9 0).set 11 100) = true ∧
    ((judging 500 ⟨2, 0, false, true, none, false⟩).storeResult 4 41000).safeActive = false ∧
    (∀ k, reflexEnabled ((judging 500 LimitRow.atReset).tables.reflexRow k) = false) ∧
    (judging 99 LimitRow.atReset).phase = .run ∧ (judging 99 LimitRow.atReset).service.marks &&& 0x1FE = 0 :=
  ⟨judging_settled.1, judging_settled.2, by decide +kernel⟩
/-- A boundary raises the applied duty of a unit in RUN above the minimum duty, or keeps it there. -/
theorem witness_LimitRowCountsRuns_begins :
    100 ≤ ((after .naturalBeatBoundary (judging 99 LimitRow.atReset)).units.get 0).applied.natAbs ∧
    ((after .naturalBeatBoundary (judging 99 LimitRow.atReset)).units.get 0).state = .run := by decide +kernel
/-- Unit 0 in HELD by row 0, which follows limit row 3; a releasing result in slot 4 lets it go, and limit row 2 begins. -/
def releasingHold : State :=
  let a := (withRow (withRow (withRow live .limit 2 ((bladeRow.set 9 0).set 11 0)) .limit 3 (bladeRow.set 8 0x11)) .reflex 0
    [0x01, 3, 0x03, 0, 0, 0, 0, 0])
  let b := (a.setLimit 3 ⟨0, 0, true, true, none, false⟩).setUnit 0 (held.units.get 0)
  { b with reflex := { b.reflex with rows := b.reflex.rows.set 0 ⟨true, true⟩, hold := Bank.tabulate fun u => if u = 0 then .brake else .none } }
theorem witness_LimitRowCountsRuns_released : releasingHold.Settled ∧ limitQualifier (releasingHold.tables.limitRow 2) = some 0 ∧
    limitMinDuty (releasingHold.tables.limitRow 2) = 0 ∧ (releasingHold.units.get 0).state = .heldBrake ∧
    ((releasingHold.storeResult 4 38000).units.get 0).state = .run := ⟨settled_of _ (by decide +kernel), by decide +kernel⟩

/-- Limit row 9 starving: limit 32 beats, count as given. -/
def starving (c : Nat) : State :=
  (withRow live .limit 9 [0x01, 3, 0, 0, 0xC3, 0x50, 3, 0xE8, 0x11, 0xFF, 0, 0, 2, 0, 0, 0]).setLimit 9
    { LimitRow.atReset with qualified := true, starve := some c }
theorem starving_settled : (starving 32).Settled ∧ (starving 31).Settled :=
  ⟨settled_of _ (by decide +kernel), settled_of _ (by decide +kernel)⟩
theorem witness_StarvationDeclared : (starving 32).Settled ∧ (starving 31).Settled ∧
    limitStarvation ((starving 32).tables.limitRow 9) = 32 ∧ ((starving 32).limits.rows.get 9).starve = some 32 ∧
    ((starving 31).limits.rows.get 9).starve = some 31 ∧ limitQualifier ((starving 31).tables.limitRow 9) = none ∧
    (starving 31).phase = .run ∧ (starving 31).service.marks &&& 0x1FE = 0 ∧ limitStarvation (live.tables.limitRow 9) = 0 ∧
    ((starving 32).limits.rows.get 9).active = false ∧ ((starving 32).limits.rows.get 9).declared = false ∧
    (((starving 32).limits.rows.get 9).starved 32).declared = true :=
  ⟨starving_settled.1, starving_settled.2, by decide +kernel⟩
theorem rec1_addressed (ps : List Byte) : addressedHere (rec1 ps) := ⟨rfl, Nat.le_refl 1, (by decide : (1 : Nat) ≤ 4)⟩
theorem witness_RecordsTurnedAway : recordOf (.sync (rec1 [])) = some (0x0A, rec1 []) ∧ State.reset.phase = .loading ∧
    live.phase ≠ .loading ∧ addressedHere (rec1 []) ∧ asleep.phase = .standby ∧
    (∃ v, parseAsk 0x0A [1] = .error v) ∧ (∃ a, parseAsk 0x0A [] = .ok a ∧ a ≠ .wake) ∧ parseAsk 0x0D [] = .ok .wake ∧
    ((live.carryOut .resetFull).carryOut .standby).phase = .standbyReload :=
  ⟨rfl, rfl, by decide, rec1_addressed [], rfl, ⟨_, rfl⟩, ⟨_, rfl, by decide⟩, rfl, rfl⟩
theorem witness_EnableAndDisableVerdicts : (live.judgedState []).phase = .run ∧ (asleep.judgedState []).phase = .standby ∧
    ((live.judgedState []).units.get 0).state = .off ∧ ((driving.judgedState []).units.get 0).state ≠ .off ∧
    (({ asleep with phase := .standbyReload } : State).judgedState []).phase = .standbyReload ∧ (0x0F#8).toNat < 16 ∧ (0x01#8).getLsbD 0 = true := by decide +kernel
theorem witness_EnableAndDisableVerdicts_afterReset : (driving.judgedState [.resetFull]).phase = .reloading ∧
    Action.resetFull ∈ [Action.resetFull] ∧ ((driving.judgedState [.resetFull]).units.get 0).state = .off := by decide +kernel
theorem witness_EnableTakesUnitsOutOfOff : driving.Settled ∧ (∀ u, (driving.units.get u).GatesSound) ∧ driving.phase = .run ∧
    addressedHere (rec1 [0x0F]) ∧ (0x0F#8).toNat < 16 ∧ (0x0F#8).getLsbD 3 = true ∧ (driving.units.get 3).state = .off ∧
    (driving.units.get 0).state ≠ .off :=
  ⟨driving_settled, driving_gates, rfl, rec1_addressed _, by decide⟩
theorem witness_DisablePutsUnitsOff : driving.Settled ∧ driving.phase = .run ∧ addressedHere (rec1 [0x01]) ∧
    (0x01#8).getLsbD 0 = true ∧ (driving.units.get 0).state ≠ .off :=
  ⟨driving_settled, rfl, rec1_addressed _, by decide⟩
theorem crossed_settled : crossed.Settled := settled_of _ (by decide +kernel)
theorem crossed_gates : ∀ u, (crossed.units.get u).GatesSound := gates_sound crossed (by decide)
theorem witness_DisablePutsUnitsOff_others : crossed.Settled ∧ (∀ u, (crossed.units.get u).GatesSound) ∧ crossed.phase = .run ∧
    (0x01#8).getLsbD 1 = false ∧ (crossed.units.get 1).state.held = true ∧
    (after (.disable (rec1 [0x01])) crossed).holdOf 1 = .none ∧
    (after (.disable (rec1 [0x04])) (crossed.setUnit 2 driven)).holdOf 1 = .brake :=
  ⟨crossed_settled, crossed_gates, by decide +kernel⟩
/-- Row 4 latched active and fired on contact 3, whose level is not its polarity any more, or still is. -/
def latched (level : Bool) : State :=
  { watching.setContact 3 { Contact.atReset with filtered := level } with
    reflex := { live.reflex with rows := live.reflex.rows.set 4 ⟨true, true⟩ } }
theorem latched_settled : (latched true).Settled ∧ (latched false).Settled :=
  ⟨settled_of _ (by decide +kernel), settled_of _ (by decide +kernel)⟩
theorem witness_ClearCarriedOut : (latched true).Settled ∧ (latched false).Settled ∧ (latched true).phase = .run ∧
    addressedHere (rec1 [0, 0, 0, 0x10, 3]) ∧ (wordOf 0 0x10).getLsbD 4 = true ∧ ((latched true).reflex.rows.get 4).active = true ∧
    reflexLatched ((latched true).tables.reflexRow 4) = true ∧
    (latched true).sourceActive (reflexSource ((latched true).tables.reflexRow 4)) = true ∧
    (latched false).sourceActive (reflexSource ((latched false).tables.reflexRow 4)) = false :=
  ⟨latched_settled.1, latched_settled.2, by decide, rec1_addressed _, by decide +kernel⟩
theorem witness_ClearCarriedOut_unfired : (latched true).Settled ∧ (wordOf 0 0x30).getLsbD 5 = true ∧
    ((latched true).reflex.rows.get 5).active = false := ⟨latched_settled.1, by decide +kernel⟩
theorem witness_ClearCarriedOut_units : held.Settled ∧ (∀ u, (held.units.get u).GatesSound) ∧ (held.units.get 0).state.held = true ∧
    (after (.clear (rec1 [0, 0, 0, 0, 1])) held).holdOf 0 = .none ∧ (after (.clear (rec1 [0, 0, 0, 0, 0])) held).holdOf 0 ≠ .none ∧
    wordOf 0 0 = 0 := ⟨held_settled, held_gates, by decide +kernel⟩
theorem witness_TableWriteStoresShadow : live.phase = .run ∧ addressedHere (rec1 [6, 0, 1, 0x02, 0xBC, 40, 0]) ∧
    BitVec.ofNat 8 TableId.beat.code = 6#8 ∧ (0#8).toNat + (1#8).toNat ≤ TableId.beat.rows ∧
    [0x02#8, 0xBC, 40, 0].length = (1#8).toNat * TableId.beat.rowSize ∧ live.service.marks.getLsbD TableId.beat.code = false ∧
    marked.service.marks.getLsbD TableId.beat.code = true ∧
    addressedHere { rec1 [6, 0, 1, 0x02, 0xBC, 40, 0] with room := 0 } ∧
    clampRow .beat 0 [0x02, 0xBC, 40, 0] ≠ [0x02#8, 0xBC, 40, 0] :=
  ⟨by decide, rec1_addressed _, by decide, by decide, by decide, by decide, by decide, ⟨rfl, by decide, by decide⟩, by decide⟩
theorem witness_TableWriteStoresShadow_clamps (id : TableId) : ∀ row ∈ factoryTables.get id, row.length = id.rowSize := by
  cases id <;> decide +kernel
theorem witness_TableReadReplies : live.phase = .run ∧ addressedHere (rec1 [8, 1, 0, 1]) ∧
    (8#8) = BitVec.ofNat 8 TableId.safe.code ∧ TableId.safe.rows < (1#8).toNat + (1#8).toNat ∧
    (1#8).toNat + (0#8).toNat ≤ TableId.safe.rows := ⟨by decide, rec1_addressed _, by decide⟩
theorem witness_SwapMarksTables : live.phase = .run ∧ addressedHere (rec1 [1, 0xFF]) ∧ (1#8).toNat < 2 ∧
    (∀ id : TableId, structuralFailure id (live.service.shadow.get id) = none) :=
  ⟨by decide, rec1_addressed _, by decide, fun id => by cases id <;> decide +kernel⟩
/-- TABLE_READ's parameter lists at their bounds (R149): the last row of SAFE; a copy byte of 2; a range beyond; an id of 9. -/
theorem test_table_read_arguments : (∃ a, parseAsk 0x04 [8, 1, 0, 1] = .ok a) ∧ parseAsk 0x04 [8, 2, 0, 1] = .error .badArg ∧
    parseAsk 0x04 [8, 1, 1, 1] = .error .badArg ∧ parseAsk 0x04 [9, 0, 0, 0] = .error .badArg := ⟨⟨_, rfl⟩, by decide⟩
/-- Two enabled scan rows of one result slot. -/
def sharedRows : List Row := [[0x01, 0, 0, 0, 0, 0, 0, 7], [0x00, 0, 0, 0, 0, 0, 0, 7], [0x01, 0, 0, 0, 0, 0, 0, 7]]
theorem witness_SwapMarksTables_fails : structuralFailure .scan sharedRows = some 2 := by decide
theorem witness_StateReadOut : live.phase = .run ∧ addressedHere (rec1 [1, 17, 9]) ∧ (rec1 []).room = 48 ∧ 48 < 5 * (10#8).toNat ∧
    (16#8).toNat + (10#8).toNat ≤ 26 ∧ (17#8).toNat + (9#8).toNat ≤ 26 ∧ (live.rotation.get 0).stallTimer = none ∧ (stalling.rotation.get 0).stallTimer = some 20 :=
  ⟨by decide, rec1_addressed _, by decide⟩
theorem witness_MaskSyncAndWakeExecute : addressedHere (rec1 []) ∧ live.phase = .run ∧ asleep.phase = .standby ∧
    live.now + beatSyncLag (live.tables.row .beat 0) = live.now ∧
    (withRow live .beat 0 [0x06, 0x40, 40, 0]).now + beatSyncLag ((withRow live .beat 0 [0x06, 0x40, 40, 0]).tables.row .beat 0) = 40 ∧
    live.beat.position = 0 ∧ (placed 9 none).beat.position ≠ 0 :=
  ⟨rec1_addressed _, by decide⟩
theorem witness_StandbyEntered : live.phase = .run ∧ addressedHere (rec1 []) ∧ (∀ u, (live.units.get u).state = .off) ∧
    live.profile.save ≠ .busy ∧ (saving none).profile.save = .busy ∧ (driving.units.get 0).state ≠ .off :=
  ⟨by decide, rec1_addressed _, by decide⟩
theorem witness_ProfileSaveBegins : live.phase = .run ∧ addressedHere (rec1 [7]) ∧ (7#8).toNat < 8 ∧ live.strap = false ∧
    live.profile.save ≠ .busy ∧ (saving none).profile.save = .busy := ⟨by decide, rec1_addressed _, by decide⟩
theorem witness_ProfileSaveBegins_packing (id : TableId) : (factoryTables.get id).length = id.rows ∧
    ∀ row ∈ factoryTables.get id, row.length = id.rowSize := by cases id <;> decide +kernel
theorem witness_ProfileBlocksWritten : (saving none).profile.save = .busy ∧ (saving none).profile.writing = none ∧
    (∃ b rest, (saving none).profile.job = b :: rest) ∧ (saving (some 4)).profile.writing = some 4 :=
  ⟨rfl, rfl, ⟨_, _, rfl⟩, rfl⟩
theorem witness_SoftResetsExecute : driving.phase = .run ∧ (4#8).toNat = 4 := by decide
/-- The pass of a whole empty frame with a check as its last two bytes, waiting for the idle character that ends it. -/
def wholePass (check : List Byte) : Pass where
  toUp := true
  dropped := false
  started := 0
  blocked := false
  received := emptyFrame.take 10 ++ check
  position := 1
  error := false
  crcIn := 0
  crcOut := 0
  checkGood := decide (check = [0xEE, 0xE6])
  slotRow := none
  overlay := []
  recordAt := 10
  recordNo := 0
  accepted := []
/-- That pass in progress. -/
def passing (check : List Byte) : State := { live with link := { live.link with upRun := some (wholePass check) } }
theorem witness_FrameEndCommits : (passing [0xEE, 0xE6]).forwarding = true ∧
    (passing [0xEE, 0xE6]).link.upRun = some (wholePass [0xEE, 0xE6]) ∧ (wholePass [0xEE, 0xE6]).dropped = false ∧
    (wholePass [0xEE, 0xE6]).received.length =
      8 + 8 * rowNat (wholePass [0xEE, 0xE6]).received 4 + rowWordNat (wholePass [0xEE, 0xE6]).received 6 + 4 ∧
    (wholePass [0xEE, 0xE6]).received.length ≤ 508 ∧ (wholePass [0xEE, 0xE6]).error = false ∧
    (wholePass [0xEE, 0xE6]).checkGood = true ∧ (wholePass [0xEE, 0xE7]).checkGood = false := by decide
theorem witness_EmptyFrameForwarded : live.forwarding = true ∧ live.link.upRun = none ∧ live.link.upPort = .free ∧
    live.link.downPort = .free ∧ live.service.marks.getLsbD 0 = false ∧ (3#8).toNat ≤ 3 ∧ [0xEE#8, 0xE6].length = 2 := by decide
theorem witness_ReturnTrafficAndDownState : live.forwarding = true ∧ live.link.downRun = none ∧ live.link.upRun = none ∧
    live.link.upPort = .free ∧ live.link.downPort = .free ∧ live.pending = [] ∧ live.due = [] ∧
    (after .downLive live).phase ≠ .loading ∧ (after .downLive live).link.downLive = true ∧
    (after (.sweepFrame [0xD5, 0] 0) live).link.upPort = .sending true live.now ∧
    (after (.sweepFrame [0xD5, 0] 0) live).link.downRun = none ∧
    (after (.returnFrame [0xD5, 1, 9] 0) live).link.upPort = .sending false 0 := by decide +kernel
/-- A frame of four segments and two records on its way: its header and some of its segments have passed. -/
def midway (received : List Byte) : Pass where
  toUp := true
  dropped := false
  started := 0
  blocked := false
  received := received
  position := 1
  error := false
  crcIn := 0
  crcOut := 0
  checkGood := false
  slotRow := none
  overlay := []
  recordAt := 40
  recordNo := 0
  accepted := []
/-- The four contents enabled, one for each segment: DRIVE_PAIR of units 0 and 1, SAMPLES from slot 4, MOTION of input 1, STATUS. -/
def giving (received : List Byte) : State :=
  let rows : List Row := [[0x01, 0, 0, 1], [0x03, 1, 4, 0], [0x05, 2, 1, 0], [0x07, 3, 0, 0]]
  let s := { live with service := { live.service with active := live.service.active.store .slot 0 rows } }
  { s with link := { s.link with upRun := some (midway received) } }
/-- The bytes before segment k. -/
def before (k : Nat) : List Byte := [0xD5, 0, 0, 0, 4, 1, 0, 8] ++ List.replicate (8 * k) 0
theorem witness_PassTakesGivesAndAnswers : (giving (before 0)).forwarding = true ∧
    (giving (before 0)).link.upRun = some (midway (before 0)) ∧ 8 ≤ (before 3).length ∧ (before 3).length % 8 = 0 ∧
    (before 3).length < 8 + 8 * rowNat (before 3) 4 ∧
    (∀ k < 4, ∃ row ∈ (giving (before 0)).tables.slot, slotEnabled row = true ∧ slotSegment row = k ∧
      ∀ other ∈ (giving (before 0)).tables.slot, slotEnabled other = true → slotSegment other = k → other = row) ∧
    (giving (before 0)).tables.slot.map slotKind =
      [.drivePair, .samples, .motion, .status, .drivePair, .drivePair, .drivePair, .drivePair] := by decide +kernel
theorem witness_PassTakesGivesAndAnswers_record : (giving (before 4)).link.upRun = some (midway (before 4)) ∧
    (before 4).length = (midway (before 4)).recordAt ∧ 8 + 8 * rowNat (before 4) 4 ≤ 40 ∧ 0 < rowNat (before 4) 5 ∧
    40 + 6 + [1#8].length + [0#8].length ≤ 8 + 8 * rowNat (before 4) 4 + rowWordNat (before 4) 6 := by decide +kernel
/-- Whether a byte shows a format error is a question of arithmetic. -/
def decideErrs (p : Pass) (b : Byte) : Decidable (p.ErrsAt b) := by unfold Pass.ErrsAt; dsimp only; infer_instance
def errs (p : Pass) (b : Byte) : Bool := @decide _ (decideErrs p b)
theorem errs_iff (p : Pass) (b : Byte) : errs p b = true ↔ p.ErrsAt b :=
  ⟨@of_decide_eq_true _ (decideErrs p b), @decide_eq_true _ (decideErrs p b)⟩
/-- A frame on its way whose header shows a format error with its next byte, or does not. -/
theorem witness_PassTakesGivesAndAnswers_errors : (midway [0xD5, 0, 0]).ErrsAt 4 ∧ ¬(midway [0xD5, 0, 0]).ErrsAt 3 ∧
    (midway [0xD5, 0, 0, 0]).ErrsAt 33 ∧ ¬(midway [0xD5, 0, 0, 0]).ErrsAt 32 ∧ (midway [0xD5, 0, 0, 0, 4]).ErrsAt 9 ∧
    ¬(midway [0xD5, 0, 0, 0, 4]).ErrsAt 8 := by
  simp only [← errs_iff]; decide +kernel
/-- One whose records show it, or do not. -/
theorem witness_PassTakesGivesAndAnswers_records : (midway (before 4 ++ [1, 3])).ErrsAt 49 ∧ ¬(midway (before 4 ++ [1, 3])).ErrsAt 48 ∧
    (midway (before 4 ++ [1, 3, 2])).ErrsAt 1 ∧ ¬(midway (before 4 ++ [1, 3, 2])).ErrsAt 0 ∧ (midway (before 5)).ErrsAt 0 := by
  simp only [← errs_iff]; decide +kernel
/-- A hop count of 4 passes as received, and the check behind it is inverted. -/
theorem test_hop_count_too_high :
    (after (.sweepFrame [0xD5, 0, 0, 4, 0, 0, 0, 0, 0, 0, 0, 0] 2) live).link.upSent.take 10 = [0xD5, 1, 0, 4, 0, 0, 0, 0, 0, 0] ∧
    (after (.sweepFrame [0xD5, 0, 0, 4, 0, 0, 0, 0, 0, 0, 0, 0] 2) live).link.frameErrors = 1 := by decide +kernel

end Sys2Proof.Machine.Tests
end

section
/-! The limit watch (spec 7): the judgement of a result by a row in integers, and what the fixed checks leave of a store. -/

namespace Sys2Proof.Machine

/-! ## Judging in integers (R106) -/

/-- The tripping column of R106, in integers, where no sum or difference wraps. -/
def LimitKind.Trips (k : LimitKind) (lo hi v : Int) : Prop :=
  match k with
  | .above => v > hi
  | .below => v < lo
  | .outside => v > hi ∨ v < lo
  | .inside => lo ≤ v ∧ v ≤ hi

/-- The releasing column of R106, in integers. -/
def LimitKind.Releases (k : LimitKind) (lo hi h v : Int) : Prop :=
  match k with
  | .above => v ≤ max (hi - h) 0
  | .below => v ≥ lo + h
  | .outside => lo + h ≤ v ∧ v ≤ hi - h
  | .inside => v < lo - h ∨ v > hi + h

/-- The model's comparison of naturals is R106's tripping column. -/
theorem tripping_iff (k : LimitKind) (lo hi v : Nat) : tripping k lo hi v = true ↔ k.Trips lo hi v := by
  cases k <;> simp [tripping, LimitKind.Trips]

/-- The model's comparison of naturals is R106's releasing column: truncation is the 0 of ABOVE, and the other bounds are moved to
the side where they are sums. -/
theorem releasing_iff (k : LimitKind) (lo hi h v : Nat) : releasing k lo hi h v = true ↔ k.Releases lo hi h v := by
  cases k with
  | above => simp only [releasing, LimitKind.Releases, decide_eq_true_eq]; omega
  | below => simp only [releasing, LimitKind.Releases, decide_eq_true_eq]; omega
  | outside => simp only [releasing, LimitKind.Releases, Bool.and_eq_true, decide_eq_true_eq]; omega
  | inside => simp only [releasing, LimitKind.Releases, Bool.or_eq_true, decide_eq_true_eq]; omega

/-- No result is tripping and releasing at once. -/
theorem LimitKind.not_trips_of_releases (k : LimitKind) {lo hi h v : Nat} (r : k.Releases lo hi h v) : ¬k.Trips lo hi v := by
  cases k <;> simp only [LimitKind.Trips, LimitKind.Releases] at r ⊢ <;> omega

/-- Without hysteresis there is no dead band, but for an OUTSIDE row whose thresholds are crossed. -/
theorem LimitKind.releases_iff_not_trips (k : LimitKind) {lo hi h v : Nat} (flat : (h : Int) = 0)
    (ordered : k ≠ .outside ∨ (lo : Int) ≤ hi) : k.Releases lo hi h v ↔ ¬k.Trips lo hi v := by
  cases k with
  | above => simp only [LimitKind.Trips, LimitKind.Releases]; omega
  | below => simp only [LimitKind.Trips, LimitKind.Releases]; omega
  | outside =>
    have ordered : (lo : Int) ≤ hi := ordered.resolve_left (· rfl)
    simp only [LimitKind.Trips, LimitKind.Releases]; omega
  | inside => simp only [LimitKind.Trips, LimitKind.Releases]; omega

/-- Every value is tripping for an OUTSIDE row whose thresholds are crossed. -/
theorem LimitKind.trips_of_outside_crossed {k : LimitKind} {lo hi v : Int} (crossed : hi < lo) (kind : k = .outside) :
    k.Trips lo hi v := by
  subst kind; simp only [LimitKind.Trips]; omega

/-- No value is tripping for an INSIDE row whose thresholds are crossed. -/
theorem LimitKind.not_trips_of_inside_crossed {k : LimitKind} {lo hi v : Int} (crossed : hi < lo) (kind : k = .inside) :
    ¬k.Trips lo hi v := by
  subst kind; simp only [LimitKind.Trips]; omega

section
variable (row : Row) (v : Nat)

theorem judgeResult_eq_tripping_iff :
    judgeResult row v = .tripping ↔ (limitKind row).Trips (limitLow row) (limitHigh row) v := by
  rw [← tripping_iff, judgeResult]
  split
  · simp [*]
  · split <;> simp [*]

/-- The model tests tripping first; that hides no releasing result, as none is both. -/
theorem judgeResult_eq_releasing_iff : judgeResult row v = .releasing ↔
    (limitKind row).Releases (limitLow row) (limitHigh row) (limitHysteresis row) v := by
  unfold judgeResult
  split
  next trips =>
    have trips := (tripping_iff _ _ _ _).1 trips
    exact ⟨nofun, fun releases => (LimitKind.not_trips_of_releases _ releases trips).elim⟩
  next =>
    rw [← releasing_iff]
    split <;> simp [*]

theorem judgeResult_eq_deadBand_iff : judgeResult row v = .deadBand ↔
    ¬(limitKind row).Trips (limitLow row) (limitHigh row) v ∧
    ¬(limitKind row).Releases (limitLow row) (limitHigh row) (limitHysteresis row) v := by
  rw [← judgeResult_eq_tripping_iff, ← judgeResult_eq_releasing_iff]
  cases judgeResult row v <;> simp

end

/-- Settles O37: R106's two columns in integers are the model's comparisons, and the rest are their consequences. -/
theorem resultsJudgedByKind : Obligations.ResultsJudgedByKind := by
  unfold Obligations.ResultsJudgedByKind
  refine ⟨fun row v => ⟨?exclusive, judgeResult_eq_tripping_iff row v, judgeResult_eq_releasing_iff row v,
    judgeResult_eq_deadBand_iff row v, ?noDeadBand, ?outside, ?inside⟩, fun _ _ _ => rfl⟩
  case exclusive => exact fun ⟨trips, releases⟩ => LimitKind.not_trips_of_releases _ releases trips
  case noDeadBand => exact LimitKind.releases_iff_not_trips (limitKind row)
  case outside => exact LimitKind.trips_of_outside_crossed
  case inside => exact LimitKind.not_trips_of_inside_crossed

/-! ## Events latched under a condition -/

section
variable (s : State)

@[simp] theorem State.latchIf_self (b : Bool) (e : EventId) :
    (s.latchIf b e).status.events.getLsbD e.bit = (s.status.events.getLsbD e.bit || b) := by
  cases b
  · simp [State.latchIf]
  · simp [State.latchIf, State.latch_self]

theorem State.latchIf_other (b : Bool) (e : EventId) (i : Nat) (h : i ≠ e.bit) :
    (s.latchIf b e).status.events.getLsbD i = s.status.events.getLsbD i := by
  cases b
  · rfl
  · exact s.latch_other e i h

/-! ## What a store leaves of the fixed checks' state -/

@[simp] theorem State.storeToLimits_tables (n : Fin 26) (v : Nat) : (s.storeToLimits n v).tables = s.tables := by
  simp [State.tables]

@[simp] theorem State.storeToLimits_warnLive (n : Fin 26) (v : Nat) :
    (s.storeToLimits n v).limits.warnLive = s.limits.warnLive := by simp [State.storeToLimits]

@[simp] theorem State.storeToLimits_supplyLow (n : Fin 26) (v : Nat) :
    (s.storeToLimits n v).limits.supplyLow = s.limits.supplyLow := by simp [State.storeToLimits]

/-- The limit rows set no event but LIMIT_TRIPPED. -/
theorem State.storeToLimits_events (n : Fin 26) (v i : Nat) (h : i ≠ EventId.limitTripped.bit) :
    (s.storeToLimits n v).status.events.getLsbD i = s.status.events.getLsbD i := by
  rw [State.storeToLimits, State.latchIf_other _ _ _ _ h]

/-! ## The thermal checks (R114, R115) -/

/-- The temperature has reached the shutdown threshold (R115). -/
def State.overheats (v : Nat) : Bool := decide (safeShutdownThreshold s.tables.safeRow ≤ v)

/-- A TEMP store writes the warning's live state and the shutdown cause, and sets their two events; nothing else. -/
theorem State.checkTemp_eq (v : Nat) :
    let live := warnAfter s.tables.safeRow s.limits.warnLive v
    s.checkTemp v = ({ s with
      limits := { s.limits with warnLive := live }
      reflex := { s.reflex with thermal := s.reflex.thermal || s.overheats v } }.latchIf
        (live && !s.limits.warnLive) .thermalWarn).latchIf (s.overheats v) .thermalShutdown := by
  intro live
  by_cases hot : safeShutdownThreshold s.tables.safeRow ≤ v
  · simp only [State.checkTemp, State.overheats, hot, if_true, decide_true, Bool.or_true]
    cases live && !s.limits.warnLive <;> rfl
  · simp only [State.checkTemp, State.overheats, hot, if_false, decide_false, Bool.or_false]
    rfl

@[simp] theorem State.checkTemp_limits (v : Nat) : (s.checkTemp v).limits =
    { s.limits with warnLive := warnAfter s.tables.safeRow s.limits.warnLive v } := by simp [s.checkTemp_eq]

@[simp] theorem State.checkTemp_reflex (v : Nat) : (s.checkTemp v).reflex =
    { s.reflex with thermal := s.reflex.thermal || s.overheats v } := by simp [s.checkTemp_eq]

theorem State.checkTemp_warnEvent (v : Nat) : (s.checkTemp v).status.events.getLsbD EventId.thermalWarn.bit =
    (s.status.events.getLsbD EventId.thermalWarn.bit ||
      (warnAfter s.tables.safeRow s.limits.warnLive v && !s.limits.warnLive)) := by
  rw [s.checkTemp_eq, State.latchIf_other _ _ _ _ (by decide), State.latchIf_self]

theorem State.checkTemp_shutdownEvent (v : Nat) : (s.checkTemp v).status.events.getLsbD EventId.thermalShutdown.bit =
    (s.status.events.getLsbD EventId.thermalShutdown.bit || s.overheats v) := by
  rw [s.checkTemp_eq, State.latchIf_self, State.latchIf_other _ _ _ _ (by decide)]

/-- THERMAL_WARN begins at the threshold (R114). -/
theorem warnAfter_begins (row : Row) (live : Bool) (v : Nat) :
    (warnAfter row live v && !live) = (!live && decide (safeWarnThreshold row ≤ v)) := by
  cases live <;> simp [warnAfter]

/-- R114's bound, taken as 0 where the difference would be negative, is the model's truncated difference. -/
theorem warnAfter_eq (row : Row) (live : Bool) (v : Nat) : warnAfter row live v =
    if live then !decide ((v : Int) < max ((safeWarnThreshold row : Int) - safeThermalHysteresis row) 0)
    else decide (safeWarnThreshold row ≤ v) := by
  have bound : v < safeWarnThreshold row - safeThermalHysteresis row ↔
      (v : Int) < max ((safeWarnThreshold row : Int) - safeThermalHysteresis row) 0 := by omega
  simp only [warnAfter, bound]

/-! ## The undervoltage check (R116) -/

/-- The value is the second one or a later one in a row below the undervoltage threshold. -/
def State.staysLow (v : Nat) : Bool := decide (v < safeUndervoltage s.tables.safeRow) && decide (1 ≤ s.limits.supplyLow)

/-- A SUPPLY store writes the run, and sets the cause and the event where the run is 2 after it; nothing else. -/
theorem State.checkSupply_eq (v : Nat) : s.checkSupply v = { s with
      limits := { s.limits with
        supplyLow := if v < safeUndervoltage s.tables.safeRow then min (s.limits.supplyLow + 1) 2 else 0 }
      reflex := { s.reflex with supply := s.reflex.supply || s.staysLow v } }.latchIf (s.staysLow v) .undervoltage := by
  by_cases low : v < safeUndervoltage s.tables.safeRow
  · have second : min (s.limits.supplyLow + 1) 2 = 2 ↔ 1 ≤ s.limits.supplyLow := by omega
    simp only [State.checkSupply, State.staysLow, low, second, if_true, decide_true, Bool.true_and]
    by_cases run : 1 ≤ s.limits.supplyLow
    · simp only [run, if_true, decide_true, Bool.or_true]; rfl
    · simp only [run, if_false, decide_false, Bool.or_false]; rfl
  · simp only [State.checkSupply, State.staysLow, low, if_false, decide_false, Bool.false_and, Bool.or_false]
    rfl

@[simp] theorem State.checkSupply_limits (v : Nat) : (s.checkSupply v).limits = { s.limits with
    supplyLow := if v < safeUndervoltage s.tables.safeRow then min (s.limits.supplyLow + 1) 2 else 0 } := by
  simp [s.checkSupply_eq]

@[simp] theorem State.checkSupply_reflex (v : Nat) :
    (s.checkSupply v).reflex = { s.reflex with supply := s.reflex.supply || s.staysLow v } := by
  simp [s.checkSupply_eq]

theorem State.checkSupply_event (v : Nat) : (s.checkSupply v).status.events.getLsbD EventId.undervoltage.bit =
    (s.status.events.getLsbD EventId.undervoltage.bit || s.staysLow v) := by
  rw [s.checkSupply_eq, State.latchIf_self]

/-! ## The fixed checks within a whole store (R84) -/

/-- The slot written and the limit rows served: the state the fixed checks find at a store. -/
def State.beforeChecks (slot : Fin 26) (v : Nat) : State :=
  { s with slots := s.slots.set slot (Slot.stored slot v) }.storeToLimits slot v

@[simp] theorem State.beforeChecks_tables (n : Fin 26) (v : Nat) : (s.beforeChecks n v).tables = s.tables := by
  simp [State.beforeChecks, State.tables]
@[simp] theorem State.beforeChecks_reflex (n : Fin 26) (v : Nat) : (s.beforeChecks n v).reflex = s.reflex := by
  simp [State.beforeChecks]
@[simp] theorem State.beforeChecks_warnLive (n : Fin 26) (v : Nat) :
    (s.beforeChecks n v).limits.warnLive = s.limits.warnLive := by simp [State.beforeChecks]
@[simp] theorem State.beforeChecks_supplyLow (n : Fin 26) (v : Nat) :
    (s.beforeChecks n v).limits.supplyLow = s.limits.supplyLow := by simp [State.beforeChecks]
@[simp] theorem State.beforeChecks_overheats (n : Fin 26) (v : Nat) :
    (s.beforeChecks n v).overheats v = s.overheats v := by simp [State.overheats]
@[simp] theorem State.beforeChecks_staysLow (n : Fin 26) (v : Nat) :
    (s.beforeChecks n v).staysLow v = s.staysLow v := by simp [State.staysLow]
theorem State.beforeChecks_events (n : Fin 26) (v i : Nat) (h : i ≠ EventId.limitTripped.bit) :
    (s.beforeChecks n v).status.events.getLsbD i = s.status.events.getLsbD i := by
  rw [State.beforeChecks, State.storeToLimits_events _ _ _ _ h]

/-- A TEMP store is the thermal checks, then the units and the course of its consequences. -/
theorem State.storeResult_temp (v : Nat) :
    s.storeResult 24 v = (((s.beforeChecks 24 v).checkTemp v).storeToUnits 24 v).settle s.sources := rfl

/-- A SUPPLY store is the undervoltage check, then the units and the course of its consequences. -/
theorem State.storeResult_supply (v : Nat) :
    s.storeResult 25 v = (((s.beforeChecks 25 v).checkSupply v).storeToUnits 25 v).settle s.sources := rfl

/-- Of the events, the units and the course touch REFLEX_FIRED alone. -/
theorem State.settle_storeToUnits_events (b : Bank Bool 31) (n : Fin 26) (v i : Nat) (h : i ≠ 9) :
    ((s.storeToUnits n v).settle b).status.events.getLsbD i = s.status.events.getLsbD i := by
  rw [State.settle_events _ _ _ h, State.storeToUnits_status]

theorem State.storeTemp_warnEvent (v : Nat) : (s.storeResult 24 v).status.events.getLsbD 5 =
    (s.status.events.getLsbD 5 || (!s.limits.warnLive && decide (safeWarnThreshold s.tables.safeRow ≤ v))) := by
  have found := (s.beforeChecks 24 v).checkTemp_warnEvent v
  rw [s.beforeChecks_events 24 v _ (by decide), warnAfter_begins, s.beforeChecks_tables, s.beforeChecks_warnLive] at found
  rw [s.storeResult_temp, State.settle_storeToUnits_events _ _ _ _ _ (by decide)]
  exact found

theorem State.storeTemp_shutdownEvent (v : Nat) : (s.storeResult 24 v).status.events.getLsbD 6 =
    (s.status.events.getLsbD 6 || s.overheats v) := by
  have found := (s.beforeChecks 24 v).checkTemp_shutdownEvent v
  rw [s.beforeChecks_events 24 v _ (by decide), s.beforeChecks_overheats] at found
  rw [s.storeResult_temp, State.settle_storeToUnits_events _ _ _ _ _ (by decide)]
  exact found

theorem State.storeSupply_event (v : Nat) : (s.storeResult 25 v).status.events.getLsbD 7 =
    (s.status.events.getLsbD 7 || s.staysLow v) := by
  have found := (s.beforeChecks 25 v).checkSupply_event v
  rw [s.beforeChecks_events 25 v _ (by decide), s.beforeChecks_staysLow] at found
  rw [s.storeResult_supply, State.settle_storeToUnits_events _ _ _ _ _ (by decide)]
  exact found

end

/-- Settles O39: each check's fields stand after the course of the store as the check left them, and the units, the limit rows and
the reflex rows set no event of its own. -/
theorem fixedChecksJudgeStores : Obligations.FixedChecksJudgeStores := by
  unfold Obligations.FixedChecksJudgeStores
  intro s v
  refine ⟨⟨_, rfl, ?warnLive, s.storeTemp_warnEvent v, ?thermal, s.storeTemp_shutdownEvent v, ?supplyAlone, ?runAlone⟩,
    ⟨_, rfl, ?run, ?supply, s.storeSupply_event v, ?thermalAlone, ?warnAlone⟩, ?recovered⟩
  case warnLive => rw [s.storeResult_temp]; simp [warnAfter_eq, Tables.safeRow]
  case thermal => rw [s.storeResult_temp]; simp [State.overheats, Tables.safeRow]
  case supplyAlone => rw [s.storeResult_temp]; simp
  case runAlone => rw [s.storeResult_temp]; simp
  case run => rw [s.storeResult_supply]; simp [Tables.safeRow]
  case supply => rw [s.storeResult_supply]; simp [State.staysLow, Tables.safeRow]
  case thermalAlone => rw [s.storeResult_supply]; simp
  case warnAlone => rw [s.storeResult_supply]; simp
  case recovered => exact decide_eq_true_iff

end Sys2Proof.Machine
end

section
/-! Gate lines (spec 2.1) and the law of a unit: two properties that every operation on a unit keeps. -/

namespace Sys2Proof.Machine

/-! ## Gate lines (R14, R15) -/

@[simp] theorem Lines.meet_self (a : Lines) : a.meet a = a := by simp [Lines.meet]

@[simp] theorem Lines.meet_meet_right (a b : Lines) : (a.meet b).meet b = a.meet b := by
  simp [Lines.meet]

/-- Lines that are all called for by one drive state never short a side. -/
theorem Lines.not_short_of_called {l : Lines} {d : Drive} (h : l.meet d.called = l) : l.shortsSide = false := by
  rw [← h]; cases d <;> simp [Lines.meet, Drive.called, Lines.shortsSide]

/-- What the gate lines of a unit and its drive state agree on, whatever its state (R14, R15). -/
def PulseUnit.LinesSound (u : PulseUnit) : Prop :=
  u.lines.meet u.drive.called = u.lines ∧ (u.dead = none → u.lines = u.drive.called)

/-- A drive state presented leaves sound lines (R15). -/
theorem PulseUnit.LinesSound.present {u : PulseUnit} (h : u.LinesSound) (d : Drive) : (u.present d).LinesSound := by
  by_cases same : u.drive = d
  · rwa [PulseUnit.present_same _ _ same]
  · refine ⟨?_, ?_⟩
    · rw [PulseUnit.present_lines _ _ same, PulseUnit.present_drive, Lines.meet_meet_right]
    · rw [PulseUnit.present_dead _ _ same, PulseUnit.present_lines _ _ same, PulseUnit.present_drive]
      split <;> simp [*]

/-- The drive state that OFF and HELD prescribe (R16). -/
def UnitState.fixedDrive : UnitState → Option Drive
  | .off | .heldCoast => some .coast
  | .heldBrake => some .brake
  | .run | .pause | .brake => none

/-- Sound gates are sound lines and the drive state that OFF and HELD prescribe. -/
theorem PulseUnit.gatesSound_iff (u : PulseUnit) :
    u.GatesSound ↔ u.LinesSound ∧ ∀ d, u.state.fixedDrive = some d → u.drive = d := by
  constructor
  · intro h
    refine ⟨⟨h.called, h.settled⟩, fun d fixed => ?_⟩
    cases e : u.state <;> simp only [e, UnitState.fixedDrive, Option.some.injEq, reduceCtorEq] at fixed <;> subst fixed
    · exact h.off e
    · exact h.heldCoast e
    · exact h.heldBrake e
  · rintro ⟨⟨called, settled⟩, fixed⟩
    exact ⟨called, settled, fun e => fixed _ (by rw [e]; rfl), fun e => fixed _ (by rw [e]; rfl),
      fun e => fixed _ (by rw [e]; rfl)⟩

/-- A unit whose lines are sound has sound gates once it presents what its state prescribes. -/
theorem PulseUnit.LinesSound.present_gates {u : PulseUnit} (h : u.LinesSound) {d : Drive}
    (fixed : ∀ e, u.state.fixedDrive = some e → d = e) : (u.present d).GatesSound := by
  refine (PulseUnit.gatesSound_iff _).2 ⟨h.present d, fun e he => ?_⟩
  rw [PulseUnit.present_drive]
  exact fixed e (by rwa [PulseUnit.present_state] at he)

theorem PulseUnit.GatesSound.linesSound {u : PulseUnit} (h : u.GatesSound) : u.LinesSound := ⟨h.called, h.settled⟩

/-- A unit with the drive state, lines and dead time of one with sound gates has sound gates once it presents what its state
prescribes. -/
theorem PulseUnit.GatesSound.present {x u : PulseUnit} (g : x.GatesSound) (drive : u.drive = x.drive) (lines : u.lines = x.lines)
    (dead : u.dead = x.dead) {d : Drive} (fixed : ∀ e, u.state.fixedDrive = some e → d = e) : (u.present d).GatesSound := by
  refine PulseUnit.LinesSound.present_gates ?_ fixed
  simpa [PulseUnit.LinesSound, drive, lines, dead] using g.linesSound

/-- Sound gates are a matter of state, drive state, lines and dead time alone. -/
theorem PulseUnit.GatesSound.congr {u v : PulseUnit} (h : u.GatesSound) (state : v.state = u.state) (drive : v.drive = u.drive)
    (lines : v.lines = u.lines) (dead : v.dead = u.dead) : v.GatesSound := by
  obtain ⟨called, settled, off, coast, brake⟩ := h
  constructor <;> simpa [state, drive, lines, dead]

/-- The drive state called for at a position is the one OFF and HELD prescribe. -/
theorem PulseUnit.driveAt_fixed (u : PulseUnit) (row : Row) (length position : Nat) (e : Drive)
    (h : u.state.fixedDrive = some e) : u.driveAt row length position = e := by
  unfold PulseUnit.driveAt
  cases k : u.state <;> simp_all [UnitState.fixedDrive]

/-- Nothing driven in the beat that opens: demand, applied duty and on-time 0 (R28, R30, R50). -/
def PulseUnit.idleBeat (u : PulseUnit) : PulseUnit := { u with demand := 0, applied := 0, onTime := 0 }

/-- A unit at a boundary before it presents the drive state of position 0: the reaction of its state (R24, R28, R30, R38, R50). -/
def PulseUnit.reckoned (u : PulseUnit) (row : Row) (length : Nat) (warnLive : Bool) (cap : Option Nat) : PulseUnit :=
  match u.state with
  | .off | .heldCoast | .heldBrake => { u with pending := none }.idleBeat
  | .run => u.applyPending.1.compute row length warnLive cap
  | .pause => if u.applyPending.1.pauseOver then u.applyPending.1.compute row length warnLive cap else u.applyPending.1.idleBeat
  | .brake => u.applyPending.1.idleBeat

/-- A boundary is the reaction of the unit's state, then the drive state of position 0 presented. -/
theorem PulseUnit.boundary_fst (u : PulseUnit) (row : Row) (n : Nat) (w : Bool) (c : Option Nat) :
    (u.boundary row n w c).1 = (u.reckoned row n w c).present ((u.reckoned row n w c).driveAt row n 0) := by
  unfold PulseUnit.boundary PulseUnit.reckoned PulseUnit.idleBeat
  cases state : u.state with
  | pause => dsimp only; split <;> rfl
  | off | run | brake | heldCoast | heldBrake => rfl

/-- What holds of an idle unit, of one that computes and of one that does not holds of the reaction to a boundary. -/
theorem PulseUnit.reckoned_cases {P : PulseUnit → Prop} (u : PulseUnit) (row : Row) (n : Nat) (w : Bool) (c : Option Nat)
    (silent : u.state = .off ∨ u.state.held = true → P { u with pending := none }.idleBeat)
    (computes : u.state = .run ∨ u.state = .pause → P (u.applyPending.1.compute row n w c))
    (idles : u.state = .pause ∨ u.state = .brake → P u.applyPending.1.idleBeat) : P (u.reckoned row n w c) := by
  unfold PulseUnit.reckoned
  split
  · exact silent (.inl ‹_›)
  · exact silent (.inr (by rw [‹u.state = _›]; rfl))
  · exact silent (.inr (by rw [‹u.state = _›]; rfl))
  · exact computes (.inl ‹_›)
  · split
    · exact computes (.inr ‹_›)
    · exact idles (.inl ‹_›)
  · exact idles (.inr ‹_›)

/-- The drive computation leaves drive state, lines and dead time (R38). -/
theorem PulseUnit.compute_lines (u : PulseUnit) (row : Row) (n : Nat) (w : Bool) (c : Option Nat) :
    (u.compute row n w c).drive = u.drive ∧ (u.compute row n w c).lines = u.lines ∧ (u.compute row n w c).dead = u.dead := by
  unfold PulseUnit.compute PulseUnit.place PulseUnit.rampAndDecide
  dsimp only
  (repeat' split) <;> simp

/-- Up to the drive state of position 0 a boundary leaves drive state, lines and dead time. -/
theorem PulseUnit.reckoned_lines (u : PulseUnit) (row : Row) (n : Nat) (w : Bool) (c : Option Nat) :
    (u.reckoned row n w c).drive = u.drive ∧ (u.reckoned row n w c).lines = u.lines ∧ (u.reckoned row n w c).dead = u.dead := by
  obtain ⟨t, f, pend⟩ := u.applyPending_frame
  refine PulseUnit.reckoned_cases (P := fun y => y.drive = u.drive ∧ y.lines = u.lines ∧ y.dead = u.dead) u row n w c ?_ ?_ ?_
  · exact fun _ => ⟨rfl, rfl, rfl⟩
  · intro _
    obtain ⟨drive, lines, dead⟩ := u.applyPending.1.compute_lines row n w c
    rw [drive, lines, dead, pend]
    exact ⟨rfl, rfl, rfl⟩
  · intro _
    rw [pend]
    exact ⟨rfl, rfl, rfl⟩

/-- The state a unit leaves OFF for under a hold action (R21). -/
def Hold.enabledState : Hold → UnitState
  | .none => .run
  | .coast => .heldCoast
  | .brake => .heldBrake

/-- The drive state a unit that leaves OFF presents (R21). -/
def Hold.enabledDrive (row : Row) : Hold → Drive
  | .none => offTimeDrive row
  | .coast => .coast
  | .brake => .brake

/-- A unit in OFF as an ENABLE sets it up, before it presents its drive state (R21). -/
def PulseUnit.enabled (u : PulseUnit) (row : Row) (h : Hold) : PulseUnit :=
  { u with state := h.enabledState, kind := unitKind row, target := 0, stopFlag := false, demand := 0, applied := 0, onTime := 0,
           dirMemory := none, zeroCount := none, countDir := if unitKind row = .unidir then .fwd else u.countDir }

/-- An ENABLE executed on a unit in OFF (R21). -/
theorem PulseUnit.enableUnit_off {u : PulseUnit} (off : u.state = .off) (row : Row) (h : Hold) :
    u.enableUnit row h = (u.enabled row h).present (h.enabledDrive row) := by
  unfold PulseUnit.enableUnit
  rw [if_pos off]
  cases h <;> rfl

/-- An ENABLE executed on a unit not in OFF leaves it (R20). -/
theorem PulseUnit.enableUnit_on {u : PulseUnit} (on : u.state ≠ .off) (row : Row) (h : Hold) : u.enableUnit row h = u := by
  unfold PulseUnit.enableUnit
  rw [if_neg on]

/-- Every operation on a unit keeps its gates sound. -/
theorem gatesSound_closed : UnitClosed PulseUnit.GatesSound where
  hold x row h g := by
    unfold PulseUnit.deliverHold
    cases e : x.state <;> cases h <;> dsimp only <;> try exact g
    all_goals
      refine g.present (by simp) (by simp) (by simp) ?_
      simp [UnitState.fixedDrive, Hold.heldState, Hold.drive]
  enable x row h g := by
    by_cases off : x.state = .off
    · rw [PulseUnit.enableUnit_off off]
      refine g.present (by rfl) (by rfl) (by rfl) ?_
      cases h <;> simp [PulseUnit.enabled, Hold.enabledState, Hold.enabledDrive, UnitState.fixedDrive]
    · rwa [PulseUnit.enableUnit_on off]
  disable x g := by
    unfold PulseUnit.disableUnit
    split
    · exact g
    · exact g.present (by rfl) (by rfl) (by rfl) (by simp [UnitState.fixedDrive])
  reset x g := by
    have off : x.toOff.GatesSound := g.present (by rfl) (by rfl) (by rfl) (by simp [UnitState.fixedDrive])
    exact off.congr rfl rfl rfl rfl
  clearFold x g := g.congr rfl rfl rfl rfl
  fold x row v g := by
    unfold PulseUnit.foldResult PulseUnit.foldAbove PulseUnit.foldBelow
    (repeat' split) <;> first | exact g | exact g.congr rfl rfl rfl rfl
  boundary x row n w c g := by
    obtain ⟨drive, lines, dead⟩ := x.reckoned_lines row n w c
    rw [PulseUnit.boundary_fst]
    exact g.present drive lines dead (PulseUnit.driveAt_fixed _ row n 0)
  msTick x row g := by
    unfold PulseUnit.msTick PulseUnit.brakeTick PulseUnit.zeroTick
    dsimp only
    (repeat' split) <;> first | exact g | exact g.congr rfl rfl rfl rfl
  endPause x row g := by
    unfold PulseUnit.endPause
    (repeat' split) <;> first | exact g | exact g.congr rfl rfl rfl rfl
  startBrake x g := by
    unfold PulseUnit.startBrake
    split
    · rename_i state _
      exact g.present (by rfl) (by rfl) (by rfl) (by simp [UnitState.fixedDrive, state])
    · exact g
  endBrake x row g := by
    unfold PulseUnit.endBrake
    split
    · split
      · exact g.present (by rfl) (by rfl) (by rfl) (by simp [UnitState.fixedDrive])
      · exact g
    · exact g
  startPulse x g := by
    unfold PulseUnit.startPulse
    split
    · rename_i pulsing
      have run : x.state = .run := by simp [PulseUnit.pulsing] at pulsing; exact pulsing.1
      exact g.present (by rfl) (by rfl) (by rfl) (by simp [UnitState.fixedDrive, run])
    · exact g
  endPulse x row g := by
    unfold PulseUnit.endPulse
    split
    · rename_i pulsing
      have run : x.state = .run := by simp [PulseUnit.pulsing] at pulsing; exact pulsing.1
      exact g.present (by rfl) (by rfl) (by rfl) (by simp [UnitState.fixedDrive, run])
    · exact g
  endDead x g := by
    unfold PulseUnit.endDead
    split
    · exact g
    · exact ⟨Lines.meet_self _, fun _ => rfl, g.off, g.heldCoast, g.heldBrake⟩
  tickDead x g := ⟨g.called, fun h => g.settled (by simpa [PulseUnit.tickDead] using h), g.off, g.heldCoast, g.heldBrake⟩
  pend x sp g := g.congr rfl rfl rfl rfl

/-- Settles O1: sound gates are closed under every unit operation, and called lines never short a side. -/
theorem gateLinesNeverShort : Obligations.GateLinesNeverShort := by
  unfold Obligations.GateLinesNeverShort
  intro s t sound next u
  have after := step_units gatesSound_closed sound next u
  exact ⟨after, Lines.not_short_of_called after.called⟩

end Sys2Proof.Machine
end

section
/-! The law of a unit (R13, R24, R25, R40, R41, R44, R46, R53): arithmetic of the drive computation, then every operation. -/

namespace Sys2Proof.Machine

/-! ## Arithmetic of the drive computation -/

/-- A step of the demand stays within the bounds of target and demand (R39 to R41). -/
theorem rampStep_bounds {lo hi T D : Int} (step : Nat) (m : Option Dir) (zero : lo ≤ 0 ∧ 0 ≤ hi) (target : lo ≤ T ∧ T ≤ hi)
    (demand : lo ≤ D ∧ D ≤ hi) : lo ≤ rampStep step T D m ∧ rampStep step T D m ≤ hi := by
  unfold rampStep rampToward
  (repeat' split) <;> omega

/-- Fold-back lowers the magnitude of the demand and never turns it (R42). -/
theorem foldedDemand_bounds (d : Int) {level : Nat} (le : level ≤ 7) :
    (0 ≤ d → 0 ≤ foldedDemand d level ∧ foldedDemand d level ≤ d) ∧ (d ≤ 0 → d ≤ foldedDemand d level ∧ foldedDemand d level ≤ 0) := by
  have product (d : Int) (pos : 0 ≤ d) : 0 ≤ d * (8 - (level : Int)) ∧ d * (8 - (level : Int)) ≤ d * 8 :=
    ⟨mul_nonneg pos (by omega), mul_le_mul_of_nonneg_left (by omega) pos⟩
  constructor
  · intro pos
    obtain ⟨low, high⟩ := product d pos
    rw [foldedDemand, Int.tdiv_eq_ediv_of_nonneg low]
    omega
  · intro neg
    obtain ⟨low, high⟩ := product (-d) (by omega)
    have e : foldedDemand d level = -((-d * (8 - (level : Int))) / 8) := by
      rw [foldedDemand, ← Int.tdiv_eq_ediv_of_nonneg low, ← Int.neg_tdiv]; congr 1; ring
    rw [e]
    omega

/-- The applied duty lies between 0 and the folded demand (R44). -/
theorem appliedDuty_bounds (a : Int) (cap : Nat) :
    (0 ≤ a → 0 ≤ appliedDuty a cap ∧ appliedDuty a cap ≤ a) ∧ (a ≤ 0 → a ≤ appliedDuty a cap ∧ appliedDuty a cap ≤ 0) := by
  unfold appliedDuty
  split <;> omega

/-- The applied duty of a demand, after fold-back and cap, lies between 0 and the demand (R42 to R44). -/
theorem applied_bounds (d : Int) {level : Nat} (le : level ≤ 7) (cap : Nat) :
    let a := appliedDuty (foldedDemand d level) cap
    (0 ≤ d → 0 ≤ a ∧ a ≤ d) ∧ (d ≤ 0 → d ≤ a ∧ a ≤ 0) := by
  have folded := foldedDemand_bounds d le
  have applied := appliedDuty_bounds (foldedDemand d level) cap
  dsimp only
  omega

/-- No applied duty, no on-time (R45, R46). -/
@[simp] theorem onTimeFor_zero (row : Row) (length : Nat) : onTimeFor row 0 length = 0 := by
  have zero : roundedOnTime 0 length = 0 := by simp [roundedOnTime]
  unfold onTimeFor clampMinOn clampMinOff
  (repeat' split) <;> omega

/-- A target as clamped lies within ±1000, and at or above 0 for UNIDIR (R24). -/
theorem clampTarget_bounds (kind : Kind) (t : Int) :
    (clampTarget kind t).natAbs ≤ 1000 ∧ (kind = .unidir → 0 ≤ clampTarget kind t) := by
  unfold clampTarget
  cases kind <;> simp <;> (repeat' split) <;> omega

/-! ## Lawful units -/

/-- A drive state presented keeps the law where FWD and REV belong to a pulse (R16). -/
theorem PulseUnit.Lawful.present {u : PulseUnit} {d : Drive} (h : { u with drive := .coast }.Lawful)
    (driven : d = .fwd ∨ d = .rev → u.state = .run ∧ u.onTime ≠ 0 ∧ d = u.driveDir.drive) : (u.present d).Lawful := by
  constructor <;> simp only [PulseUnit.present_state, PulseUnit.present_kind, PulseUnit.present_target, PulseUnit.present_demand,
    PulseUnit.present_dirMemory, PulseUnit.present_countDir, PulseUnit.present_foldLevel, PulseUnit.present_exhausted,
    PulseUnit.present_applied, PulseUnit.present_onTime, PulseUnit.present_driveDir, PulseUnit.present_brakeCount,
    PulseUnit.present_drive]
  exacts [h.target, h.demand, h.unidir, h.memory, h.magnitude, h.sign, h.level, h.idle, h.still, h.forgotten, h.waiting, h.pulse,
    driven]

/-- The off-time state is neither FWD nor REV (R16). -/
theorem offTimeDrive_ne (row : Row) {d : Drive} (h : d = .fwd ∨ d = .rev) : offTimeDrive row ≠ d := by
  unfold offTimeDrive
  split <;> rcases h with rfl | rfl <;> simp

/-- The drive state called for at a position is FWD or REV only within a pulse (R16). -/
theorem PulseUnit.driveAt_driven (u : PulseUnit) (row : Row) (length position : Nat)
    (h : u.driveAt row length position = .fwd ∨ u.driveAt row length position = .rev) :
    u.state = .run ∧ u.onTime ≠ 0 ∧ u.driveAt row length position = u.driveDir.drive := by
  unfold PulseUnit.driveAt at h ⊢
  have off := offTimeDrive_ne row h
  cases state : u.state <;> simp only [state, reduceCtorEq, or_self] at h off ⊢
  case run =>
    split at h
    · rename_i inside
      simp only [inside, if_true, and_true, true_and]
      simp only [inOnTime, decide_eq_true_eq] at inside
      omega
    · simp_all
  case pause => exact (off rfl).elim
  case brake => split at h <;> simp_all

/-- A unit that drives nothing and keeps nothing is lawful (R53). -/
theorem PulseUnit.lawful_of_rest {u : PulseUnit} (target : u.target = 0) (demand : u.demand = 0)
    (applied : u.applied = 0) (onTime : u.onTime = 0) (fold : u.foldLevel = 0 ∧ u.exhausted = false)
    (kind : u.kind = .unidir → u.dirMemory ≠ some .rev ∧ u.countDir = .fwd) (forgotten : u.state = .off → u.dirMemory = none)
    (waiting : u.brakeCount = .idle) (drive : u.drive = .coast) : u.Lawful := by
  constructor <;> simp_all

/-- The direction memory after a demand that became 0 is the one before or none (R26). -/
theorem PulseUnit.memoryAfterZero_dirMemory (u : PulseUnit) (row : Row) :
    (u.memoryAfterZero row).dirMemory = u.dirMemory ∨ (u.memoryAfterZero row).dirMemory = none := by
  unfold PulseUnit.memoryAfterZero
  split <;> simp

/-- The unit law is kept where a unit enters HELD (R33). -/
theorem PulseUnit.Lawful.enterHeld {u : PulseUnit} (h : u.Lawful) (row : Row) (k : Hold) : (u.enterHeld row k).Lawful := by
  have memory := u.memoryAfterZero_dirMemory row
  have unidir := h.unidir
  unfold PulseUnit.enterHeld
  refine PulseUnit.Lawful.present ?_ (by cases k <;> simp [Hold.drive])
  refine PulseUnit.lawful_of_rest rfl rfl rfl rfl ⟨rfl, rfl⟩ ?_ ?_ rfl rfl
  · rcases memory with memory | memory <;> simp_all [PulseUnit.clearFold]
  · cases k <;> simp [PulseUnit.clearFold, Hold.heldState]

/-- A held unit with another state among RUN and HELD, its target and demand 0, is lawful (R34, R35). -/
theorem PulseUnit.Lawful.fromHeld {u : PulseUnit} (h : u.Lawful) (held : u.state.held = true) {v : UnitState} {f : Bool}
    (next : v = .run ∨ v.held = true) {t d : Int} (target : t = 0) (demand : d = 0) :
    { u with state := v, target := t, stopFlag := f, demand := d, drive := .coast }.Lawful := by
  have still := h.still (.inr held)
  have idle := h.idle (by rintro e; simp [e, UnitState.held] at held)
  have waiting := h.waiting (by rintro e; simp [e, UnitState.held] at held)
  have unidir := h.unidir
  refine PulseUnit.lawful_of_rest target demand idle.2.1 idle.2.2 still.2 (fun k => (unidir k).2.2) ?_ waiting rfl
  rintro rfl
  simp [UnitState.held] at next

/-- The five things a delivered hold action can do to a unit (R32 to R35). -/
theorem PulseUnit.deliverHold_cases {P : PulseUnit → Prop} (u : PulseUnit) (row : Row) (h : Hold) (off : u.state = .off → P u)
    (keep : u.state.driving = true → h = .none → P u) (enter : u.state.driving = true → h ≠ .none → P (u.enterHeld row h))
    (leave : u.state.held = true → h = .none → P (u.leaveHeld row))
    (stay : u.state.held = true → h ≠ .none → P ({ u with state := h.heldState }.present h.drive)) : P (u.deliverHold row h) := by
  unfold PulseUnit.deliverHold
  cases state : u.state <;> rw [state] at keep enter leave stay
  case off => exact off state
  all_goals
    cases h
    case none => first | exact keep rfl rfl | exact leave rfl rfl
    all_goals first | exact enter rfl nofun | exact stay rfl nofun

theorem PulseUnit.Lawful.deliverHold {u : PulseUnit} (h : u.Lawful) (row : Row) (k : Hold) : (u.deliverHold row k).Lawful := by
  have follow (held : u.state.held = true) (c : Hold) : ({ u with state := c.heldState }.present c.drive).Lawful := by
    refine PulseUnit.Lawful.present ?_ (by cases c <;> simp [Hold.drive])
    have idle := h.idle (by rintro e; simp [e, UnitState.held] at held)
    have still := h.still (.inr held)
    exact h.fromHeld held (.inr (by cases c <;> rfl)) still.1 idle.1
  have leave (held : u.state.held = true) : (u.leaveHeld row).Lawful :=
    PulseUnit.Lawful.present (h.fromHeld held (.inl rfl) rfl rfl) (fun d => (offTimeDrive_ne row d rfl).elim)
  exact u.deliverHold_cases row k (fun _ => h) (fun _ _ => h) (fun _ _ => h.enterHeld row k) (fun held _ => leave held)
    (fun held _ => follow held k)

/-! ## A boundary -/

/-- The drive state left out of account, the law holds as before. -/
theorem PulseUnit.Lawful.coasting {u : PulseUnit} (h : u.Lawful) : { u with drive := .coast }.Lawful := by
  obtain ⟨target, demand, unidir, memory, magnitude, sign, level, idle, still, forgotten, waiting, pulse, -⟩ := h
  exact ⟨target, demand, unidir, memory, magnitude, sign, level, idle, still, forgotten, waiting, pulse, by simp⟩

/-- A pending target applied outside OFF and HELD keeps the law (R24). -/
theorem PulseUnit.Lawful.applyPending {u : PulseUnit} (h : u.Lawful) (drives : u.state.driving = true) :
    u.applyPending.1.Lawful := by
  have quiet : ¬(u.state = .off ∨ u.state.held = true) := by
    cases state : u.state <;> simp_all [UnitState.driving, UnitState.held]
  unfold PulseUnit.applyPending
  split
  · exact h
  · rename_i sp _
    obtain ⟨bound, unidir⟩ := clampTarget_bounds u.kind sp.target.toInt
    obtain ⟨-, demand, one, memory, magnitude, sign, level, idle, -, forgotten, waiting, pulse, driven⟩ := h
    exact ⟨bound, demand, fun k => ⟨unidir k, (one k).2⟩, memory, magnitude, sign, level, idle, fun q => (quiet q).elim, forgotten,
      waiting, pulse, driven⟩

/-- An idle beat keeps the law (R28, R30, R50). -/
theorem PulseUnit.Lawful.idleBeat {u : PulseUnit} (h : u.Lawful) (idle : u.state ≠ .run) : u.idleBeat.Lawful := by
  obtain ⟨target, -, unidir, -, -, -, level, -, still, forgotten, waiting, -, driven⟩ := h
  exact ⟨target, by simp [PulseUnit.idleBeat], fun k => ⟨(unidir k).1, le_rfl, (unidir k).2.2⟩, fun d => (d rfl).elim, le_rfl,
    .inl rfl, level, fun _ => ⟨rfl, rfl, rfl⟩, still, forgotten, waiting, fun d => (d rfl).elim, fun d => (idle (driven d).1).elim⟩

/-- What the law asks of a unit between the ramp and its pulse (R25 to R29, R38). -/
structure PulseUnit.Ramped (u : PulseUnit) : Prop where
  target : u.target.natAbs ≤ 1000
  demand : u.demand.natAbs ≤ 1000
  unidir : u.kind = .unidir → 0 ≤ u.target ∧ 0 ≤ u.demand ∧ u.dirMemory ≠ some .rev ∧ u.countDir = .fwd
  memory : u.demand ≠ 0 → u.dirMemory = some (dirOf u.demand)
  level : u.foldLevel ≤ 7
  drives : u.state.driving = true
  idle : u.state ≠ .run → u.demand = 0
  waiting : u.state ≠ .brake → u.brakeCount = .idle

/-- The ramp and the decision of direction memory and state (R25 to R29). -/
theorem PulseUnit.Lawful.ramp {u : PulseUnit} (h : u.Lawful) (row : Row) (state : u.state = .run ∨ u.state = .pause) :
    (u.rampAndDecide row).Ramped := by
  have waiting := h.waiting (by rcases state with e | e <;> simp [e])
  have unidir := h.unidir
  have memory := u.memoryAfterZero_dirMemory row
  have bound := rampStep_bounds (lo := -1000) (hi := 1000) (unitRampStep row) u.dirMemory (by omega)
    (by have := h.target; omega) (by have := h.demand; omega) (T := u.target) (D := u.demand)
  have positive (k : u.kind = .unidir) := rampStep_bounds (lo := 0) (hi := 1000) (unitRampStep row) u.dirMemory (by omega)
    (by have := h.target; have := (unidir k).1; omega) (by have := h.demand; have := (unidir k).2.1; omega) (T := u.target) (D := u.demand)
  have forward (k : u.kind = .unidir) : dirOf (rampStep (unitRampStep row) u.target u.demand u.dirMemory) = .fwd := by
    have := positive k; simp [dirOf]; omega
  have remembered (k : u.kind = .unidir) : (u.memoryAfterZero row).dirMemory ≠ some .rev := by
    rcases memory with e | e <;> simp [e, unidir k]
  unfold PulseUnit.rampAndDecide
  dsimp only
  split
  · exact ⟨h.target, by dsimp only; omega, fun k => ⟨(unidir k).1, (positive k).1, by simp [forward k], forward k⟩, fun _ => rfl, h.level,
      rfl, fun r => (r rfl).elim, fun _ => waiting⟩
  · (repeat' split) <;>
      exact ⟨by simpa using h.target, by simp, fun k => ⟨by simpa using (unidir (by simpa using k)).1, by simp,
          remembered (by simpa using k), by simpa using (unidir (by simpa using k)).2.2.2⟩,
        fun d => (d rfl).elim, by simpa using h.level, rfl, fun _ => rfl, by simp [waiting]⟩

/-- Applied duty, on-time and direction placed from a lawful demand (R42 to R48). -/
theorem PulseUnit.Ramped.place {u : PulseUnit} (h : u.Ramped) (row : Row) (n : Nat) (w : Bool) (c : Option Nat) :
    { u.place row n w c with drive := .coast }.Lawful := by
  have bounds := applied_bounds u.demand h.level (capFor w (unitThermalCap row) c)
  have idle := h.idle
  have quiet : ¬(u.state = .off ∨ u.state.held = true) := by
    have drives := h.drives
    cases state : u.state <;> simp_all [UnitState.driving, UnitState.held]
  unfold PulseUnit.place
  dsimp only at bounds ⊢
  generalize appliedDuty (foldedDemand u.demand u.foldLevel) (capFor w (unitThermalCap row) c) = a at bounds ⊢
  have none_of_zero (e : u.demand = 0) : a = 0 := by omega
  refine ⟨h.target, h.demand, h.unidir, h.memory, by dsimp only; omega, by dsimp only; omega, h.level, ?_, fun q => (quiet q).elim,
    fun o => (quiet (.inl o)).elim, h.waiting, ?_, by simp⟩
  · intro r
    have zero := none_of_zero (idle r)
    exact ⟨idle r, zero, by simp [zero]⟩
  · intro pulse
    have nonzero : a ≠ 0 := by rintro rfl; simp at pulse
    exact ⟨nonzero, by simp [nonzero]⟩

theorem PulseUnit.Lawful.reckoned {u : PulseUnit} (h : u.Lawful) (row : Row) (n : Nat) (w : Bool) (c : Option Nat) :
    { u.reckoned row n w c with drive := .coast }.Lawful := by
  refine PulseUnit.reckoned_cases (P := fun y => { y with drive := .coast }.Lawful) u row n w c ?_ ?_ ?_
  · intro silent
    have quiet : { u with pending := none }.Lawful :=
      ⟨h.target, h.demand, h.unidir, h.memory, h.magnitude, h.sign, h.level, h.idle, h.still, h.forgotten, h.waiting, h.pulse, h.driven⟩
    exact (quiet.idleBeat (fun (e : u.state = .run) => by simp [e, UnitState.held] at silent)).coasting
  · intro state
    obtain ⟨t, f, pend⟩ := u.applyPending_frame
    have applied := h.applyPending (by rcases state with e | e <;> simp [e, UnitState.driving])
    exact (applied.ramp row (by simpa [pend] using state)).place row n w c
  · intro state
    obtain ⟨t, f, pend⟩ := u.applyPending_frame
    have applied := h.applyPending (by rcases state with e | e <;> simp [e, UnitState.driving])
    exact (applied.idleBeat (by rcases state with e | e <;> simp [pend, e])).coasting

/-! ## Every operation -/

/-- Fields the law does not speak of may change freely. -/
theorem PulseUnit.Lawful.frame {u : PulseUnit} (h : u.Lawful) {v : PulseUnit}
    (e : v = { u with stopFlag := v.stopFlag, pending := v.pending, zeroCount := v.zeroCount, releaseRun := v.releaseRun, exhaustRun := v.exhaustRun, lines := v.lines, dead := v.dead }) : v.Lawful := by
  rw [e]
  exact ⟨h.target, h.demand, h.unidir, h.memory, h.magnitude, h.sign, h.level, h.idle, h.still, h.forgotten, h.waiting, h.pulse, h.driven⟩

theorem PulseUnit.Lawful.toOff {u : PulseUnit} (h : u.Lawful) : u.toOff.Lawful :=
  PulseUnit.Lawful.present
    (PulseUnit.lawful_of_rest rfl rfl rfl rfl ⟨rfl, rfl⟩ (fun k => ⟨nofun, (h.unidir k).2.2.2⟩) (fun _ => rfl) rfl rfl) (by simp)

/-- Fold-back touches level, runs and FXn, in RUN alone (R51). -/
theorem PulseUnit.Lawful.fold {u : PulseUnit} (h : u.Lawful) (row : Row) (v : Nat) : (u.foldResult row v).Lawful := by
  have level := h.level
  have change (k a b : Nat) (x : Bool) (run : u.state = .run) (le : k ≤ 7) :
      { u with foldLevel := k, releaseRun := a, exhaustRun := b, exhausted := x }.Lawful :=
    ⟨h.target, h.demand, h.unidir, h.memory, h.magnitude, h.sign, le, h.idle, fun q => by simp [run, UnitState.held] at q, h.forgotten,
      h.waiting, h.pulse, h.driven⟩
  unfold PulseUnit.foldResult PulseUnit.foldAbove PulseUnit.foldBelow
  dsimp only
  split
  · rename_i run
    (repeat' split) <;> exact change _ _ _ _ run (by omega)
  · exact h

/-- The brake count of a unit in BRAKE may change freely. -/
theorem PulseUnit.Lawful.braking {u : PulseUnit} (h : u.Lawful) (brake : u.state = .brake) (b : BrakeCount) :
    { u with brakeCount := b }.Lawful :=
  ⟨h.target, h.demand, h.unidir, h.memory, h.magnitude, h.sign, h.level, h.idle, h.still, h.forgotten, fun n => (n brake).elim, h.pulse,
    h.driven⟩

/-- Every operation on a unit keeps the law of a unit. -/
theorem lawful_closed : UnitClosed PulseUnit.Lawful where
  hold x row k h := h.deliverHold row k
  enable x row k h := by
    by_cases off : x.state = .off
    · rw [PulseUnit.enableUnit_off off]
      refine PulseUnit.Lawful.present (PulseUnit.lawful_of_rest rfl rfl rfl rfl (h.still (.inl off)).2 ?_ (fun _ => rfl)
        (h.waiting (by simp [off])) rfl) ?_
      · exact fun kind => ⟨nofun, if_pos kind⟩
      · intro driven
        cases k
        case none => exact (offTimeDrive_ne row driven rfl).elim
        all_goals simp [Hold.enabledDrive] at driven
    · rwa [PulseUnit.enableUnit_on off]
  disable x h := by
    unfold PulseUnit.disableUnit
    split
    · exact h
    · exact h.toOff
  reset x h := by
    obtain ⟨target, demand, unidir, memory, magnitude, sign, level, idle, still, forgotten, waiting, pulse, driven⟩ := h.toOff
    exact ⟨target, demand, fun k => ⟨(unidir k).1, (unidir k).2.1, (unidir k).2.2.1, rfl⟩, memory, magnitude, sign, level, idle, still,
      forgotten, waiting, pulse, driven⟩
  clearFold x h :=
    ⟨h.target, h.demand, h.unidir, h.memory, h.magnitude, h.sign, Nat.zero_le _, h.idle, fun q => ⟨(h.still q).1, rfl, rfl⟩,
      h.forgotten, h.waiting, h.pulse, h.driven⟩
  fold x row v h := h.fold row v
  boundary x row n w c h := by
    rw [PulseUnit.boundary_fst]
    exact (h.reckoned row n w c).present (PulseUnit.driveAt_driven _ row n 0)
  msTick x row h := by
    have zero : (x.zeroTick row).1.Lawful := by
      unfold PulseUnit.zeroTick
      dsimp only
      split
      · exact h.frame rfl
      · exact h
    unfold PulseUnit.msTick PulseUnit.brakeTick
    (repeat' split) <;> first | exact zero | exact zero.braking ‹_› _
  endPause x row h := by
    unfold PulseUnit.endPause
    split
    · exact h
    · split
      · rename_i zero
        have unidir := h.unidir
        exact ⟨h.target, h.demand, fun k => ⟨(unidir k).1, (unidir k).2.1, nofun, (unidir k).2.2.2⟩, fun d => (d zero.1).elim,
          h.magnitude, h.sign, h.level, h.idle, h.still, fun _ => rfl, h.waiting, h.pulse, h.driven⟩
      · exact h
  startBrake x h := by
    unfold PulseUnit.startBrake
    split
    · exact (h.braking ‹_› _).coasting.present (by simp)
    · exact h
  endBrake x row h := by
    unfold PulseUnit.endBrake
    split
    · split
      · rename_i brake _ _
        obtain ⟨demand, applied, onTime⟩ := h.idle (by simp [brake])
        refine PulseUnit.Lawful.present ⟨h.target, h.demand, h.unidir, h.memory, h.magnitude, h.sign, h.level, nofun,
          by simp [UnitState.held], nofun, fun _ => rfl, h.pulse, by simp⟩ (fun d => (offTimeDrive_ne row d rfl).elim)
      · exact h
    · exact h
  startPulse x h := by
    unfold PulseUnit.startPulse
    split
    · rename_i pulsing
      simp only [PulseUnit.pulsing, Bool.and_eq_true, decide_eq_true_eq] at pulsing
      exact h.coasting.present (fun _ => ⟨pulsing.1, by omega, rfl⟩)
    · exact h
  endPulse x row h := by
    unfold PulseUnit.endPulse
    split
    · exact h.coasting.present (fun d => (offTimeDrive_ne row d rfl).elim)
    · exact h
  endDead x h := by
    unfold PulseUnit.endDead
    split
    · exact h
    · exact h.frame rfl
  tickDead x h := h.frame rfl
  pend x sp h := h.frame rfl

/-- Settles O2: the law of a unit is closed under every unit operation. -/
theorem unitLawKept : Obligations.UnitLawKept := by
  unfold Obligations.UnitLawKept
  exact fun s t lawful next => step_units lawful_closed lawful next

end Sys2Proof.Machine
end

section
/-! What a command can do, said once: a property of the state that the operations named here keep holds after every command, and
after every step. Laws/Units.lean says so of the units; here it is said of the other blocks. -/

namespace Sys2Proof.Machine

/-! ## Actions and the records that carry them -/

/-- The kind code of the record that carries an action (R146). -/
def Action.kind : Action → Nat
  | .tableWrite _ _ _ => 0x03
  | .swap _ => 0x05
  | .enable _ => 0x06
  | .disable _ => 0x07
  | .clear _ _ _ => 0x08
  | .reportMask _ => 0x09
  | .sync => 0x0A
  | .profileSave _ _ _ => 0x0B
  | .standby => 0x0C
  | .wake => 0x0D
  | .resetFull | .resetUnits => 0x0E

/-- The kind code of the record that makes a request (R146). -/
def Ask.kind : Ask → Nat
  | .identify => 0x01
  | .readUnits | .readResults _ _ | .readInputs | .readConditions | .readEvents => 0x02
  | .tableWrite _ _ _ => 0x03
  | .tableRead _ _ _ _ => 0x04
  | .swap _ => 0x05
  | .enable _ => 0x06
  | .disable _ => 0x07
  | .clear _ _ _ => 0x08
  | .reportMask _ => 0x09
  | .sync => 0x0A
  | .profileSave _ _ _ => 0x0B
  | .standby => 0x0C
  | .wake => 0x0D
  | .resetFull | .resetUnits => 0x0E

/-- A request read from a record has the record's kind. -/
theorem parseAsk_kind {kind : Nat} {params : List Byte} {a : Ask} (h : parseAsk kind params = .ok a) : a.kind = kind := by
  unfold parseAsk at h
  split at h
  case h_15 => nomatch h
  all_goals
    simp only [parseBare, parseReadState, parseTableWrite, parseTableRead, parseSwap, parseUnitMask, parseClear, parseReportMask,
      parseProfileSave, parseReset] at h
    (repeat' split at h) <;> first | (cases h; rfl) | nomatch h

/-- What a request is answered with carries the action of its own kind. -/
theorem State.answerAsk_kind (s : State) (earlier : List Action) (position : Nat) (ask : Ask) {a : Action}
    (h : (s.answerAsk earlier position ask).action = some a) : a.kind = ask.kind := by
  unfold State.answerAsk at h
  split at h <;> (repeat' split at h) <;> first | (cases h; rfl) | nomatch h

/-- A judged record carries the action of its own kind (R144). -/
theorem State.judge_kind (s : State) (earlier : List Action) (position kind : Nat) (broadcast : Bool) (params : List Byte) {a : Action}
    (h : (s.judge earlier position kind broadcast params).action = some a) : a.kind = kind := by
  unfold State.judge at h
  dsimp only at h
  split at h
  · nomatch h
  · split at h
    · nomatch h
    · split at h
      · nomatch h
      · rename_i ask _ parsed
        split at h
        · nomatch h
        · split at h
          · nomatch h
          · exact (State.answerAsk_kind _ _ _ _ h).trans (parseAsk_kind parsed)

/-- An answered record carries the action of its own kind (R144). -/
theorem State.answerRecord_kind (s : State) (earlier : List Action) (position : Nat) (target : Byte) (kind : Nat)
    (params : List Byte) (room : Nat) {a : Action}
    (h : (s.answerRecord earlier position target kind params room).2 = some a) : a.kind = kind := by
  unfold State.answerRecord at h
  (repeat' split at h) <;> first | exact State.judge_kind _ _ _ _ _ _ h | nomatch h

/-- Everything a record given as a command does: it writes an answer, and carries out at most one action, of its own kind. -/
theorem State.serve_cases {P : State → Prop} (s : State) (kind position : Nat) (target : Byte) (params : List Byte) (room : Nat)
    (answered : ∀ w, P { s with answer := w }) (carried : ∀ w a, a.kind = kind → P ({ s with answer := w }.carryOut a)) :
    P (s.serve kind position target params room) := by
  unfold State.serve
  split
  · dsimp only
    split
    · exact carried _ _ (s.answerRecord_kind [] position target kind params room ‹_›)
    · exact answered _
  · exact answered _

/-- The actions a command may carry out: those of its own kind a record, any a frame's end. -/
def mayCarry (i : Instr) (a : Action) : Prop :=
  match i with
  | .sweepFrame _ _ => True
  | i => ∃ r, recordOf i = some (a.kind, r)

/-! ## Properties kept -/

/-- `t` has of `s` what the statements on units, sequencer, results, events and tables look at. -/
structure State.Quietly (s t : State) : Prop where
  phase : t.phase = s.phase
  length : t.beat.length = s.beat.length
  divider : t.beat.divider = s.beat.divider
  units : t.units = s.units
  scan : t.scan = s.scan
  slots : t.slots = s.slots
  reflex : t.reflex = s.reflex
  status : t.status = s.status
  active : t.service.active = s.service.active

/-- A property of the state that every operation behind the events keeps. -/
structure EventClosed (P : State → Prop) : Prop where
  quiet : ∀ {s t}, s.Quietly t → P s → P t
  settle : ∀ {s} b, P s → P (s.settle b)
  latch : ∀ {s} e, P s → P (s.latch e)
  cause : ∀ {s} c, P s → P (s.setCause c)
  units : ∀ {s : State} v, (∀ u, (v.get u).onTime = (s.units.get u).onTime) → P s → P { s with units := v }
  load : ∀ {s} k, P s → P (s.endLoad k)
  next : ∀ {s}, s.phase = .run → P s → P s.nextBeat
  flush : ∀ {s}, P s → P s.flush
  wake : ∀ {s} c, s.phase = .standby → P s → P (s.wakeUp c)
  raise : ∀ {s} e, P s → P (s.raiseEntry e)
  complete : ∀ {s} raw, P s → P (s.complete raw)
  bytes : ∀ {s} (l : List Byte), P s → P (l.foldl State.byteUp s)

variable {P : State → Prop}

theorem EventClosed.latchIf (c : EventClosed P) {s : State} (b : Bool) (e : EventId) (h : P s) : P (s.latchIf b e) := by
  cases b
  · exact h
  · exact c.latch e h

theorem EventClosed.clearDue (c : EventClosed P) {s : State} (e : DueEvent) (h : P s) : P (s.clearDue e) :=
  c.quiet (by constructor <;> rfl) h

theorem EventClosed.markDue (c : EventClosed P) {s : State} (e : DueEvent) (h : P s) : P (s.markDue e) :=
  c.quiet (by constructor <;> simp) h

theorem EventClosed.setUnit (c : EventClosed P) {s : State} (u : Fin 4) {x : PulseUnit} (e : x.onTime = (s.units.get u).onTime)
    (h : P s) : P (s.setUnit u x) := by
  refine c.units _ (fun v => ?_) h
  rw [Bank.get_set]
  split
  · next k => rw [k, e]
  · rfl

/-! ## The on-time between boundaries -/

@[simp] theorem PulseUnit.endPause_onTime (u : PulseUnit) (row : Row) : (u.endPause row).onTime = u.onTime := by
  unfold PulseUnit.endPause; (repeat' split) <;> rfl
@[simp] theorem PulseUnit.startBrake_onTime (u : PulseUnit) : u.startBrake.onTime = u.onTime := by
  unfold PulseUnit.startBrake; split <;> simp
@[simp] theorem PulseUnit.endBrake_onTime (u : PulseUnit) (row : Row) : (u.endBrake row).onTime = u.onTime := by
  unfold PulseUnit.endBrake; (repeat' split) <;> simp
@[simp] theorem PulseUnit.startPulse_onTime (u : PulseUnit) : u.startPulse.onTime = u.onTime := by
  unfold PulseUnit.startPulse; split <;> simp
@[simp] theorem PulseUnit.endPulse_onTime (u : PulseUnit) (row : Row) : (u.endPulse row).onTime = u.onTime := by
  unfold PulseUnit.endPulse; split <;> simp
@[simp] theorem PulseUnit.endDead_onTime (u : PulseUnit) : u.endDead.onTime = u.onTime := by
  unfold PulseUnit.endDead; split <;> rfl

/-! ## Every event -/

theorem EventClosed.restartBoundary (c : EventClosed P) {s : State} (h : P s) : P s.restartBoundary := by
  unfold State.restartBoundary
  split
  · next running =>
    refine c.next (by simpa [State.beatRunning] using running.1) (c.flush (c.quiet ?_ h))
    constructor <;> rfl
  · exact h

theorem EventClosed.naturalBoundary (c : EventClosed P) {s : State} (h : P s) : P s.naturalBoundary := by
  rcases s.naturalBoundary_cases with ⟨-, e⟩ | ⟨-, -, e⟩ | ⟨running, -, e⟩ <;> rw [e]
  · exact h
  · exact c.restartBoundary (c.clearDue _ h)
  · exact c.next (by simpa [State.beatRunning] using running) h

theorem EventClosed.starve (c : EventClosed P) {s : State} (n : Fin 16) (h : P s) : P (s.starve n) := by
  unfold State.starve
  split
  · exact c.settle _ (c.latch _ (c.quiet (by constructor <;> rfl) h))
  · exact h

theorem EventClosed.changeContact (c : EventClosed P) {s : State} (k : Fin 8) (h : P s) : P (s.changeContact k) := by
  have settled := c.settle s.sources (c.quiet (t := s.setContact k (s.contacts.get k).change) (by constructor <;> rfl) h)
  unfold State.changeContact
  dsimp only
  (repeat' split) <;> first | exact h | exact settled | exact c.markDue _ settled

theorem EventClosed.stallInput (c : EventClosed P) {s : State} (r : Fin 3) (h : P s) : P (s.stallInput r) := by
  unfold State.stallInput
  split
  · exact c.settle _ (c.quiet (by constructor <;> rfl) h)
  · exact h

theorem EventClosed.acceptLevel (c : EventClosed P) {s : State} (r : Fin 3) (h : P s) : P (s.acceptLevel r) := by
  unfold State.acceptLevel
  split
  · exact c.settle _ (c.quiet (by constructor <;> rfl) h)
  · exact h

theorem EventClosed.comparePin (c : EventClosed P) {s : State} (r : Fin 3) (h : P s) : P (s.comparePin r) := by
  unfold State.comparePin
  dsimp only
  (repeat' split) <;> first | exact h | exact c.quiet (by constructor <;> simp) h

theorem EventClosed.expireLink (c : EventClosed P) {s : State} (h : P s) : P s.expireLink := by
  unfold State.expireLink
  (repeat' split) <;>
    first | exact h | exact c.settle _ (c.cause _ (c.latch _ (c.quiet (by constructor <;> rfl) h)))

theorem EventClosed.wakeScheduled (c : EventClosed P) {s : State} (h : P s) : P s.wakeScheduled := by
  unfold State.wakeScheduled
  split
  · next standby => exact c.wake _ standby.1 h
  · exact h

theorem EventClosed.wakeByContact (c : EventClosed P) {s : State} (h : P s) : P s.wakeByContact := by
  unfold State.wakeByContact
  split
  · next standby => split <;> first | exact h | exact c.wake _ standby h
  · exact h

theorem EventClosed.verifyBlock (c : EventClosed P) {s : State} (m : Bool) (h : P s) : P (s.verifyBlock m) := by
  have changed (p : Profile) : P { s with profile := p } := c.quiet (by constructor <;> rfl) h
  unfold State.verifyBlock
  (repeat' split) <;> first | exact h | exact c.latchIf _ _ (changed _) | exact c.latch _ (changed _)

theorem EventClosed.receiveDown (c : EventClosed P) {s : State} (l : List Byte) (n : Nat) (h : P s) : P (s.receiveDown l n) :=
  c.quiet (by constructor <;> simp) h

/-- Characters on UP and the end of a run there: the bytes pass, and a good end commits staging and carries out what was accepted. -/
theorem State.receiveUp_keeps (link : ∀ {s} k, P s → P { s with link := k }) (latch : ∀ {s} e, P s → P (State.latch s e))
    (bytes : ∀ {s} (l : List Byte), P s → P (l.foldl State.byteUp s)) (commit : ∀ {s}, P s → P (State.commitStaging s))
    (act : ∀ a {s}, P s → P (State.carryOut s a)) {s : State} (l : List Byte) (n : Nat) (h : P s) : P (s.receiveUp l n) := by
  have latchIf (b : Bool) (e : EventId) {s : State} (h : P s) : P (s.latchIf b e) := by
    cases b
    · exact h
    · exact latch e h
  have acts (l : List Action) {s : State} (h : P s) : P (l.foldl State.carryOut s) := by
    induction l generalizing s with
    | nil => exact h
    | cons a l ih => exact ih (act a h)
  have good (p : Nat) (l : List Action) {s : State} (h : P s) : P (s.goodEnd p l) := by
    have timed : P s.commitStaging.restartTimer := by
      unfold State.restartTimer
      split
      · exact latchIf _ _ (link _ (commit h))
      · exact commit h
    exact acts l (latchIf _ _ (link _ timed))
  unfold State.receiveUp
  split
  · have passed := bytes l h
    unfold State.idleUp
    split
    · exact passed
    · split
      · exact passed
      · unfold State.endUp
        split
        · exact link _ passed
        · split
          · exact latch _ (link _ (link _ passed))
          · dsimp only
            split
            · exact good _ _ (link _ passed)
            · exact latch _ (link _ (link _ passed))
  · unfold State.missUp
    (repeat' split) <;> first | exact h | exact link _ h

theorem EventClosed.receiveUp (c : EventClosed P) {s : State} (l : List Byte) (n : Nat)
    (act : ∀ a {s}, P s → P (State.carryOut s a)) (h : P s) : P (s.receiveUp l n) := by
  refine State.receiveUp_keeps (fun k h => c.quiet (by constructor <;> rfl) h) (fun e h => c.latch e h) (fun l h => c.bytes l h)
    (fun {s} h => ?_) act l n h
  refine c.quiet (s := { s with units := s.commitStaging.units }) (by constructor <;> rfl) (c.units _ (fun u => ?_) h)
  simp only [State.commitStaging, Bank.get_mapIdx]
  split <;> rfl

/-! ## Every command -/

/-- What the operations behind the events keep, and what the actions, the resets and the millisecond tick of a command keep, the
command keeps. -/
theorem EventClosed.exec (c : EventClosed P) (i : Instr) {s t : State} (e : exec i s = .next t)
    (reset : ∀ k, (∃ b, i = .powerUp b) ∨ i = .resetPin → P s → P (s.takeReset k))
    (tick : ∀ k, i = .millisecondTick k → P s → P (s.msTick k)) (act : ∀ a, mayCarry i a → ∀ {s}, P s → P (s.carryOut a))
    (h : P s) : P t := by
  have get {x y : State} (k : (Host.Outcome.next x : Host.Outcome State Fault Refusal) = .next y) : x = y := by
    injection k
  have record (k : Nat) (r : Request) (mine : recordOf i = some (k, r)) (plain : ∀ l n, i ≠ .sweepFrame l n) :
      P (s.serve k r.position r.target r.params r.room) := by
    refine s.serve_cases k _ _ _ _ (fun w => c.quiet (by constructor <;> rfl) h) (fun w a kind => act a ?_ ?_)
    · unfold mayCarry
      split
      · trivial
      · exact ⟨r, kind ▸ mine⟩
    · exact c.quiet (by constructor <;> rfl) h
  cases i <;> (have e := get e; subst e)
  case powerUp => exact c.quiet (by constructor <;> rfl) (reset .power (.inl ⟨_, rfl⟩) h)
  case resetPin => exact reset .resetPin (.inr rfl) h
  case profileLoadEnd => exact c.load _ h
  case naturalBeatBoundary => exact c.naturalBoundary (c.clearDue _ h)
  case starvation => exact c.starve _ (c.clearDue _ h)
  case syncRestart => exact c.restartBoundary (c.clearDue _ h)
  case millisecondTick => exact tick _ rfl h
  case filteredChange => exact c.changeContact _ (c.clearDue _ h)
  case reversalPauseEnd => exact c.setUnit _ (by simp) (c.clearDue _ h)
  case brakeOneShotStart => exact c.setUnit _ (by simp) (c.clearDue _ h)
  case brakeEnd => exact c.settle _ (c.setUnit _ (by simp) (c.clearDue _ h))
  case stall => exact c.stallInput _ (c.clearDue _ h)
  case linkTimerExpiry => exact c.expireLink (c.clearDue _ h)
  case wakeContact => exact c.wakeByContact (c.clearDue _ h)
  case wakeLinkStart => exact c.wakeScheduled (c.clearDue _ h)
  case acceptedChange => exact c.acceptLevel _ (c.clearDue _ h)
  case triggerRaised =>
    unfold State.raiseTrigger
    split
    · exact c.raise _ (c.clearDue _ h)
    · exact c.clearDue _ h
  case conversionComplete => exact c.complete _ (c.clearDue _ h)
  case sweepFrame => exact c.receiveUp _ _ (fun a => act a trivial) h
  case returnFrame => exact c.receiveDown _ _ h
  case downDark => exact c.quiet (by constructor <;> rfl) h
  case profileBlockBegin => exact c.quiet (by constructor <;> rfl) h
  case profileBlockVerified => exact c.verifyBlock _ (c.clearDue _ h)
  case downLive => exact c.quiet (by constructor <;> simp) h
  case rotationPinChange =>
    unfold State.driveRotation
    split
    · exact h
    · exact c.comparePin _ (c.quiet (by constructor <;> rfl) h)
  case onTimeStart => exact c.setUnit _ (by simp) (c.clearDue _ h)
  case onTimeEnd => exact c.setUnit _ (by simp) (c.clearDue _ h)
  case deadTimeEnd => exact c.setUnit _ (by simp) (c.clearDue _ h)
  case resetFull p t room => exact record 0x0E { position := p, target := t, params := [0x00], room := room } rfl nofun
  case resetUnits p t room => exact record 0x0E { position := p, target := t, params := [0x01], room := room } rfl nofun
  all_goals exact record _ _ rfl nofun

/-- What every command and a core tick keep, every step keeps. -/
theorem step_keeps (exec : ∀ i {s t}, exec i s = .next t → P s → P t) (quiet : ∀ {s t}, State.Quietly s t → P s → P t)
    (tick : ∀ {s}, P s → P (State.tick s)) {s t : State} (h : P s) (e : step s = .next t) : P t := by
  unfold step at e
  split at e
  · exact exec _ e (quiet (by constructor <;> rfl) h)
  · split at e
    · split at e
      · exact exec _ e (quiet (by constructor <;> rfl) h)
      · injection e with e
        subst e
        exact quiet (by constructor <;> rfl) h
    · injection e with e
      subst e
      exact tick h

end Sys2Proof.Machine
end

section
/-! The core tick: what it leaves, and the agenda it brings, stage by stage (Machine/Clock.lean). -/

namespace Sys2Proof.Machine

/-! ## The agenda -/

theorem State.markDue_due (s : State) (e : DueEvent) : (s.markDue e).due = if e ∈ s.due then s.due else s.due ++ [e] := by
  unfold State.markDue; split <;> rfl

@[simp] theorem State.mem_markDue (s : State) (e k : DueEvent) : k ∈ (s.markDue e).due ↔ k ∈ s.due ∨ k = e := by
  rw [State.markDue_due]
  split
  · next mem => exact ⟨.inl, fun h => h.elim id (fun eq => eq ▸ mem)⟩
  · simp

@[simp] theorem State.mem_markFirst (s : State) (l : List DueEvent) (k : DueEvent) :
    k ∈ (s.markFirst l).due ↔ k ∈ l ∨ k ∈ s.due := by
  simp only [State.markFirst, List.mem_append, List.mem_filter, decide_eq_true_eq]
  tauto

theorem State.markDue_frame (s : State) (e : DueEvent) : ∃ d, s.markDue e = { s with due := d } := by
  unfold State.markDue; split <;> exact ⟨_, rfl⟩

theorem State.markAll_frame (s : State) (l : List DueEvent) : ∃ d, s.markAll l = { s with due := d } := by
  induction l generalizing s with
  | nil => exact ⟨_, rfl⟩
  | cons e l ih =>
    obtain ⟨d, eq⟩ := s.markDue_frame e
    obtain ⟨c, later⟩ := ih (s.markDue e)
    refine ⟨c, ?_⟩
    rw [State.markAll, List.foldl_cons, ← State.markAll, later, eq]

@[simp] theorem State.mem_markAll (s : State) (l : List DueEvent) (k : DueEvent) : k ∈ (s.markAll l).due ↔ k ∈ s.due ∨ k ∈ l := by
  induction l generalizing s with
  | nil => simp [State.markAll]
  | cons e l ih => rw [State.markAll, List.foldl_cons, ← State.markAll, ih, State.mem_markDue, List.mem_cons, or_assoc]

/-- An entry taken off leaves every other where it is. -/
theorem State.mem_clearDue_of_ne (s : State) {e k : DueEvent} (ne : k ≠ e) : k ∈ (s.clearDue e).due ↔ k ∈ s.due :=
  List.mem_erase_of_ne ne

/-! ## What a core tick leaves -/

/-- `t` differs from `s` at most by what a core tick may move. -/
def State.Ticks (s t : State) : Prop :=
  ∃ (now : Nat) (due : List DueEvent) (load position divider : Nat) (units : Bank PulseUnit 4) (rotation : Bank Rotation 3)
    (silence : Nat), t = { s with
      now := now
      due := due
      loadTicks := load
      beat := { s.beat with position := position, divider := divider }
      units := units
      rotation := rotation
      link := { s.link with downSilence := silence } }

theorem State.Ticks.trans {s t v : State} (a : s.Ticks t) (b : t.Ticks v) : s.Ticks v := by
  obtain ⟨_, _, _, _, _, _, _, _, rfl⟩ := a
  obtain ⟨_, _, _, _, _, _, _, _, rfl⟩ := b
  exact ⟨_, _, _, _, _, _, _, _, rfl⟩

theorem State.Ticks.due (s : State) (l : List DueEvent) : s.Ticks { s with due := l } := ⟨_, _, _, _, _, _, _, _, rfl⟩

theorem State.Ticks.markDue (s : State) (e : DueEvent) : s.Ticks (s.markDue e) := by
  obtain ⟨d, h⟩ := s.markDue_frame e
  rw [h]
  exact .due s d

theorem State.Ticks.markAll (s : State) (l : List DueEvent) : s.Ticks (s.markAll l) := by
  obtain ⟨d, h⟩ := s.markAll_frame l
  rw [h]
  exact .due s d

theorem State.Ticks.tickBeat (s : State) : s.Ticks s.tickBeat := by
  rw [s.tickBeat_frame]
  exact ⟨_, _, _, _, _, _, _, _, rfl⟩

theorem State.Ticks.tickLoad (s : State) : s.Ticks s.tickLoad := by
  have counted : s.Ticks { s with loadTicks := s.loadTicks + 1 } := ⟨_, _, _, _, _, _, _, _, rfl⟩
  unfold State.tickLoad
  dsimp only
  (repeat' split) <;> first | exact counted.trans (.markDue _ _) | exact counted | exact .due s s.due

theorem State.Ticks.tickDivider (s : State) : s.Ticks s.tickDivider := by
  have counted (d : Nat) : s.Ticks { s with beat := { s.beat with divider := d } } := ⟨_, _, _, _, _, _, _, _, rfl⟩
  unfold State.tickDivider
  split
  · exact (counted 0).trans (.markDue _ _)
  · exact counted _

theorem State.Ticks.tickConverter (s : State) : s.Ticks s.tickConverter := by
  unfold State.tickConverter
  (repeat' split) <;> first | exact .markDue _ _ | exact .due s s.due

theorem State.Ticks.comparePin (s : State) (r : Fin 3) : s.Ticks (s.comparePin r) := by
  have compared (x : Rotation) : s.Ticks ((s.setRotation r x).clearDue (.accepted r)) := ⟨_, _, _, _, _, _, _, _, rfl⟩
  unfold State.comparePin
  dsimp only
  (repeat' split) <;> first | exact (compared _).trans (.markDue _ _) | exact compared _ | exact .due s s.due

theorem State.Ticks.comparePins (s : State) (l : List (Fin 3)) : s.Ticks (l.foldl State.comparePin s) := by
  induction l generalizing s with
  | nil => exact .due s s.due
  | cons r l ih => exact (State.Ticks.comparePin s r).trans (ih _)

theorem State.Ticks.tickDeadTimes (s : State) : s.Ticks s.tickDeadTimes :=
  State.Ticks.trans ⟨_, _, _, _, _, _, _, _, rfl⟩ (.markAll { s with units := s.units.map PulseUnit.tickDead } _)

theorem State.Ticks.tickSilence (s : State) : s.Ticks s.tickSilence := by
  have counted : s.Ticks { s with link := { s.link with downSilence := s.link.downSilence + 1 } } := ⟨_, _, _, _, _, _, _, _, rfl⟩
  unfold State.tickSilence
  dsimp only
  (repeat' split) <;> first | exact counted.trans (.markDue _ _) | exact counted | exact .due s s.due

/-! ## The stages of a core tick -/

/-- The part with time moved on and its beat advanced. -/
def State.tickedBeat (s : State) : State := { s with now := s.now + 1 }.tickBeat

/-- The part with the load, the divider and the converter counted as well. -/
def State.tickedTimers (s : State) : State := s.tickedBeat.tickLoad.tickDivider.tickConverter

/-- The part with its rotation pins compared as well. -/
def State.tickedPins (s : State) : State := (List.finRange 3).foldl State.comparePin s.tickedTimers

/-- The position reached at a core tick, where the beat advances to one. -/
def State.reached (s : State) : Option Nat := State.advanced { s with now := s.now + 1 } s.tickedBeat

/-- The part with what falls at the position reached on its agenda. -/
def State.tickedPlaces (s : State) : State :=
  match s.reached with
  | some p => s.tickedPins.markAll (s.tickedPins.positionDue p)
  | none => s.tickedPins

theorem State.tick_stages (s : State) : s.tick = s.tickedPlaces.tickDeadTimes.tickSilence := rfl

theorem State.Ticks.tickedPins (s : State) : s.Ticks s.tickedPins := by
  have started : s.Ticks { s with now := s.now + 1 } := ⟨_, _, _, _, _, _, _, _, rfl⟩
  exact ((((started.trans (.tickBeat _)).trans (.tickLoad _)).trans (.tickDivider _)).trans (.tickConverter _)).trans (.comparePins _ _)

theorem State.Ticks.tickedPlaces (s : State) : s.Ticks s.tickedPlaces := by
  unfold State.tickedPlaces
  split
  · exact (State.Ticks.tickedPins s).trans (.markAll _ _)
  · exact .tickedPins s

/-- A core tick moves time, position, load count, divider, dead times, rotation filters and the silence on DOWN, and nothing else. -/
theorem State.Ticks.tick (s : State) : s.Ticks s.tick := by
  rw [s.tick_stages]
  exact ((State.Ticks.tickedPlaces s).trans (.tickDeadTimes _)).trans (.tickSilence _)

/-! ## What each stage puts on the agenda -/

/-- A restart or wake is scheduled for the instant a core tick reaches, or for one before. -/
def State.restartComes (s : State) : Bool := State.restartNow { s with now := s.now + 1 }

theorem State.restartComes_iff (s : State) : s.restartComes = true ↔ ∃ r, s.beat.restart = some r ∧ r ≤ s.now + 1 := by
  unfold State.restartComes State.restartNow
  cases s.beat.restart <;> simp

theorem State.advanceBeat_due (s : State) :
    s.advanceBeat.due = if s.beat.length ≤ s.beat.position + 1 then (s.markDue .boundary).due else s.due := by
  unfold State.advanceBeat
  split <;> rfl

theorem State.restartNow_congr {s t : State} (beat : t.beat.restart = s.beat.restart) (now : t.now = s.now) :
    t.restartNow = s.restartNow := by
  unfold State.restartNow; rw [beat, now]

/-- What the beat puts on the agenda (R1, R8, R157). -/
theorem State.mem_tickedBeat (s : State) (k : DueEvent) : k ∈ s.tickedBeat.due ↔ k ∈ s.due ∨
    (k = .wakeStart ∧ s.phase = .standby ∧ s.restartComes = true) ∨
    (k = .boundary ∧ s.phase = .run ∧ s.beat.length ≤ s.beat.position + 1) ∨
    (k = .restart ∧ s.phase = .run ∧ s.restartComes = true) := by
  have comes : State.restartNow { s with now := s.now + 1 } = s.restartComes := rfl
  unfold State.tickedBeat State.tickBeat State.applyIf
  simp only [comes, State.beatRunning, decide_eq_true_eq]
  by_cases standby : s.phase = .standby
  · rw [if_pos standby]
    split <;> simp [*]
  · by_cases run : s.phase = .run
    · rw [if_neg standby, if_pos run]
      split <;> simp only [State.mem_markFirst, State.advanceBeat_due, List.mem_singleton] <;> split <;> simp [*] <;> tauto
    · simp [standby, run]

/-- What a load or reload puts on the agenda (R153, log entry 13). -/
theorem State.mem_tickLoad (s : State) (k : DueEvent) : k ∈ s.tickLoad.due ↔ k ∈ s.due ∨
    (k = .loadEnd ∧ (s.phase = .loading ∨ s.reloading = true) ∧ Config.loadTicks ≤ s.loadTicks + 1) := by
  unfold State.tickLoad
  dsimp only
  (repeat' split) <;> simp_all

/-- What the divider puts on the agenda (R5). -/
theorem State.mem_tickDivider (s : State) (k : DueEvent) : k ∈ s.tickDivider.due ↔ k ∈ s.due ∨
    (k = .msTick ∧ Config.ticksPerMs ≤ s.beat.divider + 1) := by
  unfold State.tickDivider
  split <;> simp_all

/-- What the converter puts on the agenda (R67). -/
theorem State.mem_tickConverter (s : State) (k : DueEvent) : k ∈ s.tickConverter.due ↔ k ∈ s.due ∨
    (k = .conversion ∧ ∃ c, s.scan.converter = some c ∧ c.started + Config.conversionTicks ≤ s.now) := by
  unfold State.tickConverter
  (repeat' split) <;> simp_all

/-- The comparison of a pin says nothing of any other agenda entry. -/
theorem State.mem_comparePin_of_ne (s : State) (r : Fin 3) {k : DueEvent} (ne : k ≠ .accepted r) :
    k ∈ (s.comparePin r).due ↔ k ∈ s.due := by
  unfold State.comparePin
  dsimp only
  (repeat' split) <;> simp [State.mem_clearDue_of_ne _ ne, ne]

theorem State.mem_comparePins_of_ne (s : State) (l : List (Fin 3)) {k : DueEvent} (ne : ∀ r, k ≠ .accepted r) :
    k ∈ (l.foldl State.comparePin s).due ↔ k ∈ s.due := by
  induction l generalizing s with
  | nil => rfl
  | cons r l ih => rw [List.foldl_cons, ih, State.mem_comparePin_of_ne _ _ (ne r)]

/-- What the dead times put on the agenda (R15). -/
theorem State.mem_tickDeadTimes (s : State) (k : DueEvent) : k ∈ s.tickDeadTimes.due ↔ k ∈ s.due ∨
    ∃ u, k = .deadTime u ∧ (s.units.get u).tickDead.dead = some 0 := by
  unfold State.tickDeadTimes
  simp only [State.mem_markAll, List.mem_map, List.mem_filter, List.mem_finRange, true_and, Bank.get_map, decide_eq_true_eq]
  refine or_congr_right ⟨?_, ?_⟩ <;> rintro ⟨u, a, b⟩
  · exact ⟨u, b.symm, a⟩
  · exact ⟨u, b, a.symm⟩

/-- What the silence on DOWN puts on the agenda (R133). -/
theorem State.mem_tickSilence (s : State) (k : DueEvent) : k ∈ s.tickSilence.due ↔ k ∈ s.due ∨
    (k = .downDark ∧ (s.forwarding = true ∧ s.link.downLive = true) ∧ Config.darkTicks ≤ s.link.downSilence + 1) := by
  unfold State.tickSilence
  dsimp only
  (repeat' split) <;> simp_all

/-- What the position reached puts on the agenda (R47, R63). -/
theorem State.mem_tickedPlaces (s : State) (k : DueEvent) : k ∈ s.tickedPlaces.due ↔ k ∈ s.tickedPins.due ∨
    ∃ p, s.reached = some p ∧ k ∈ s.tickedPins.positionDue p := by
  unfold State.tickedPlaces
  split <;> simp_all

/-! ## What each stage reads -/

theorem State.tickedBeat_eq (s : State) : s.tickedBeat = { s with
    now := s.now + 1
    due := s.tickedBeat.due
    beat := { s.beat with position := s.tickedBeat.beat.position } } := State.tickBeat_frame _

theorem State.tickLoad_eq (s : State) : s.tickLoad = { s with due := s.tickLoad.due, loadTicks := s.tickLoad.loadTicks } := by
  have mark (t : State) : t.markDue .loadEnd = { t with due := (t.markDue .loadEnd).due } := by
    obtain ⟨d, e⟩ := t.markDue_frame .loadEnd; rw [e]
  unfold State.tickLoad
  dsimp only
  (repeat' split) <;> first | rfl | rw [mark]

theorem State.tickDivider_eq (s : State) :
    s.tickDivider = { s with due := s.tickDivider.due, beat := { s.beat with divider := s.tickDivider.beat.divider } } := by
  have mark (t : State) : t.markDue .msTick = { t with due := (t.markDue .msTick).due } := by
    obtain ⟨d, e⟩ := t.markDue_frame .msTick; rw [e]
  unfold State.tickDivider
  split
  · rw [mark]
  · rfl

theorem State.tickConverter_eq (s : State) : s.tickConverter = { s with due := s.tickConverter.due } := by
  have mark (t : State) : t.markDue .conversion = { t with due := (t.markDue .conversion).due } := by
    obtain ⟨d, e⟩ := t.markDue_frame .conversion; rw [e]
  unfold State.tickConverter
  (repeat' split) <;> first | rfl | rw [mark]

/-- The timers' state but for the agenda: what the beat left, with load and divider counted. -/
theorem State.tickedTimers_eq (s : State) : s.tickedTimers = { s with
    now := s.now + 1
    due := s.tickedTimers.due
    loadTicks := s.tickedTimers.loadTicks
    beat := { s.beat with position := s.tickedBeat.beat.position, divider := s.tickedTimers.beat.divider } } := by
  unfold State.tickedTimers
  rw [State.tickConverter_eq, State.tickDivider_eq, State.tickLoad_eq, State.tickedBeat_eq]

theorem State.comparePin_frame (s : State) (r : Fin 3) : ∃ d x, s.comparePin r = { s with due := d, rotation := x } := by
  have compared (x : Rotation) : (s.setRotation r x).clearDue (.accepted r) =
    { s with due := s.due.erase (.accepted r), rotation := s.rotation.set r x } := rfl
  unfold State.comparePin
  simp only [compared, State.markDue]
  (repeat' split) <;> exact ⟨_, _, rfl⟩

theorem State.comparePin_eq (s : State) (r : Fin 3) :
    s.comparePin r = { s with due := (s.comparePin r).due, rotation := (s.comparePin r).rotation } := by
  obtain ⟨d, x, e⟩ := s.comparePin_frame r
  rw [e]

theorem State.comparePins_eq (s : State) (l : List (Fin 3)) : l.foldl State.comparePin s =
    { s with due := (l.foldl State.comparePin s).due, rotation := (l.foldl State.comparePin s).rotation } := by
  induction l generalizing s with
  | nil => rfl
  | cons r l ih => rw [List.foldl_cons, ih, State.comparePin_eq]

theorem State.tickedPins_eq (s : State) : s.tickedPins =
    { s.tickedTimers with due := s.tickedPins.due, rotation := s.tickedPins.rotation } := State.comparePins_eq _ _

theorem State.tickedPlaces_eq (s : State) : s.tickedPlaces = { s.tickedPins with due := s.tickedPlaces.due } := by
  unfold State.tickedPlaces
  generalize s.tickedPins = t
  split
  · obtain ⟨d, e⟩ := t.markAll_frame (t.positionDue ‹_›)
    rw [e]
  · rfl

theorem State.tickDeadTimes_eq (s : State) :
    s.tickDeadTimes = { s with due := s.tickDeadTimes.due, units := s.units.map PulseUnit.tickDead } := by
  unfold State.tickDeadTimes
  dsimp only
  obtain ⟨d, e⟩ := State.markAll_frame { s with units := s.units.map PulseUnit.tickDead }
    (((List.finRange 4).filter fun u => decide (((s.units.map PulseUnit.tickDead).get u).dead = some 0)).map DueEvent.deadTime)
  rw [e]

theorem State.tickSilence_eq (s : State) : s.tickSilence =
    { s with due := s.tickSilence.due, link := { s.link with downSilence := s.tickSilence.link.downSilence } } := by
  have mark (t : State) : t.markDue .downDark = { t with due := (t.markDue .downDark).due } := by
    obtain ⟨d, e⟩ := t.markDue_frame .downDark; rw [e]
  unfold State.tickSilence
  dsimp only
  (repeat' split) <;> first | rfl | rw [mark]

/-- A core tick, but for the agenda, the counts and the rotation filters, which the stages say. -/
theorem State.tick_eq (s : State) : s.tick = { s with
    now := s.now + 1
    due := s.tick.due
    loadTicks := s.tickedTimers.loadTicks
    beat := { s.beat with position := s.tickedBeat.beat.position, divider := s.tickedTimers.beat.divider }
    units := s.units.map PulseUnit.tickDead
    rotation := s.tickedPins.rotation
    link := { s.link with downSilence := s.tick.link.downSilence } } := by
  rw [State.tick_stages, State.tickSilence_eq, State.tickDeadTimes_eq, State.tickedPlaces_eq, State.tickedPins_eq,
    State.tickedTimers_eq]

/-! ## The agenda after a core tick -/

/-- The comparison of a rotation pin at a core tick (R95): none while the conditioner stands still. -/
def State.compared (s : State) (r : Fin 3) : Rotation × Bool :=
  if s.conditionerRunning then
    (s.rotation.get r).compare (s.pins.rotationLevel r) (rotationFilter (s.tables.rotationRow r))
  else (s.rotation.get r, false)

theorem State.comparePin_get (s : State) (r q : Fin 3) :
    (s.comparePin r).rotation.get q = if q = r then (s.compared r).1 else s.rotation.get q := by
  have whole : (s.comparePin r).rotation.get q = if s.conditionerRunning then
      ((s.rotation.set r (s.compared r).1).get q) else s.rotation.get q := by
    unfold State.comparePin State.compared
    dsimp only
    (repeat' split) <;> simp [State.setRotation]
  rw [whole]
  by_cases running : s.conditionerRunning = true
  · rw [if_pos running, Bank.get_set]
  · rw [if_neg running]
    split
    · next e => rw [State.compared, if_neg running, e]
    · rfl

/-- A pin's comparison lets its accepted change fall due anew, or not. -/
theorem State.mem_comparePin_self (s : State) (r : Fin 3) (none : .accepted r ∉ s.due) :
    .accepted r ∈ (s.comparePin r).due ↔ (s.compared r).2 = true := by
  have still (x : Rotation) : .accepted r ∉ ((s.setRotation r x).clearDue (.accepted r)).due :=
    fun h => none (List.mem_of_mem_erase h)
  unfold State.comparePin State.compared
  dsimp only
  (repeat' split) <;> simp_all

theorem State.comparePin_compared (s : State) {r q : Fin 3} (ne : q ≠ r) : (s.comparePin r).compared q = s.compared q := by
  have get := (s.comparePin_get r q).trans (if_neg ne)
  unfold State.compared
  rw [get, State.comparePin_eq]
  rfl

/-- The comparison of the pins of a list, each once: what it leaves of one of them, and whether its accepted change falls due. -/
theorem State.comparePins_get (s : State) (l : List (Fin 3)) (once : l.Nodup) (r : Fin 3) (mem : r ∈ l) (none : .accepted r ∉ s.due) :
    (l.foldl State.comparePin s).rotation.get r = (s.compared r).1 ∧
      (.accepted r ∈ (l.foldl State.comparePin s).due ↔ (s.compared r).2 = true) := by
  have rest (t : State) (l : List (Fin 3)) (out : r ∉ l) : (l.foldl State.comparePin t).rotation.get r = t.rotation.get r ∧
      (.accepted r ∈ (l.foldl State.comparePin t).due ↔ .accepted r ∈ t.due) := by
    induction l generalizing t with
    | nil => exact ⟨rfl, .rfl⟩
    | cons q l ih =>
      obtain ⟨ne, out⟩ := not_or.mp (List.mem_cons.not.mp out)
      obtain ⟨get, due⟩ := ih (t.comparePin q) out
      exact ⟨get.trans ((t.comparePin_get q r).trans (if_neg ne)),
        due.trans (t.mem_comparePin_of_ne q (fun e => ne (DueEvent.accepted.inj e)))⟩
  induction l generalizing s with
  | nil => nomatch mem
  | cons q l ih =>
    obtain ⟨out, once⟩ := List.nodup_cons.mp once
    rw [List.foldl_cons]
    rcases List.mem_cons.mp mem with e | mem
    · subst e
      obtain ⟨get, due⟩ := rest (s.comparePin r) l out
      exact ⟨get.trans ((s.comparePin_get r r).trans (if_pos rfl)), due.trans (s.mem_comparePin_self r none)⟩
    · have ne : r ≠ q := fun e => out (e ▸ mem)
      have none' : .accepted r ∉ (s.comparePin q).due :=
        fun h => none ((s.mem_comparePin_of_ne q (fun e => ne (DueEvent.accepted.inj e))).mp h)
      rw [← s.comparePin_compared ne]
      exact ih (s.comparePin q) once mem none'

/-- What the counts of a core tick put on the agenda, before the pins are compared. -/
theorem State.mem_tickedTimers (s : State) (k : DueEvent) : k ∈ s.tickedTimers.due ↔ k ∈ s.due ∨
    (k = .wakeStart ∧ s.phase = .standby ∧ s.restartComes = true) ∨
    (k = .boundary ∧ s.phase = .run ∧ s.beat.length ≤ s.beat.position + 1) ∨
    (k = .restart ∧ s.phase = .run ∧ s.restartComes = true) ∨
    (k = .loadEnd ∧ (s.phase = .loading ∨ s.reloading = true) ∧ Config.loadTicks ≤ s.loadTicks + 1) ∨
    (k = .msTick ∧ Config.ticksPerMs ≤ s.beat.divider + 1) ∨
    (k = .conversion ∧ ∃ c, s.scan.converter = some c ∧ c.started + Config.conversionTicks ≤ s.now + 1) := by
  unfold State.tickedTimers
  simp only [State.mem_tickConverter, State.mem_tickDivider, State.mem_tickLoad, State.mem_tickedBeat]
  rw [State.tickDivider_eq, State.tickLoad_eq, State.tickedBeat_eq]
  simp only [State.reloading, or_assoc]

theorem State.positionDue_tickedPins (s : State) (p : Nat) : s.tickedPins.positionDue p = s.positionDue p := by
  rw [State.tickedPins_eq, State.tickedTimers_eq]
  rfl

/-- Everything on the agenda after a core tick. -/
theorem State.mem_tick (s : State) (k : DueEvent) : k ∈ s.tick.due ↔ k ∈ s.tickedPins.due ∨
    (∃ p, s.reached = some p ∧ k ∈ s.positionDue p) ∨
    (∃ u, k = .deadTime u ∧ (s.units.get u).tickDead.dead = some 0) ∨
    (k = .downDark ∧ (s.forwarding = true ∧ s.link.downLive = true) ∧ Config.darkTicks ≤ s.link.downSilence + 1) := by
  have same : s.tickedPlaces.units = s.units ∧ s.tickedPlaces.link = s.link ∧ s.tickedPlaces.phase = s.phase := by
    rw [s.tickedPlaces_eq, s.tickedPins_eq, s.tickedTimers_eq]
    exact ⟨rfl, rfl, rfl⟩
  obtain ⟨units, link, phase⟩ := same
  rw [State.tick_stages, State.mem_tickSilence, State.mem_tickDeadTimes, State.mem_tickedPlaces, State.tickDeadTimes_eq]
  simp only [State.positionDue_tickedPins, State.forwarding, units, link, phase, or_assoc]

/-- What stands first on the agenda stays first as more falls due. -/
theorem State.markDue_head {s : State} {k : DueEvent} (e : DueEvent) (h : s.due.head? = some k) : (s.markDue e).due.head? = some k := by
  rw [State.markDue_due]
  split
  · exact h
  · rw [List.head?_append, h, Option.some_or]

end Sys2Proof.Machine
end

section
/-! The divider (R5): nothing but a reset and the millisecond tick sets it. -/

namespace Sys2Proof.Machine

/-! ## The stages of a boundary -/

/-- The part with its swap marks taken and the new beat begun (R151, R1): position 0, and the length afresh. -/
def State.swapped (s : State) : State :=
  { s.takeSwaps with beat := { s.beat with position := 0, length := beatLength s.takeSwaps.tables.beatRow } }

/-- The part with its conditions followed up and its units computed as well (R3). -/
def State.driven (s : State) (b : Bank Bool 31) : State := (s.swapped.settle b).computeUnits

/-- The part with what the units' new states decide followed up as well, the sequencer not opened yet. -/
def State.decided (s : State) (b : Bank Bool 31) : State := (s.driven b).settle (s.driven b).sources

theorem State.openBeat_eq (s : State) (b : Bank Bool 31) : s.openBeat b = (s.decided b).openScan := by
  unfold State.openBeat State.decided State.driven State.swapped
  dsimp only
  rw [State.takeSwaps_beat]

section
variable (s : State) (b : Bank Bool 31)

@[simp] theorem State.swapped_pending : s.swapped.pending = s.pending := by simp [State.swapped]
@[simp] theorem State.swapped_due : s.swapped.due = s.due := by simp [State.swapped]
@[simp] theorem State.swapped_now : s.swapped.now = s.now := by simp [State.swapped]
@[simp] theorem State.swapped_phase : s.swapped.phase = s.phase := by simp [State.swapped]
@[simp] theorem State.swapped_loadTicks : s.swapped.loadTicks = s.loadTicks := by simp [State.swapped]
@[simp] theorem State.swapped_cause : s.swapped.cause = s.cause := by simp [State.swapped]
@[simp] theorem State.swapped_strap : s.swapped.strap = s.strap := by simp [State.swapped]
@[simp] theorem State.swapped_slots : s.swapped.slots = s.slots := by simp [State.swapped]
@[simp] theorem State.swapped_contacts : s.swapped.contacts = s.contacts := by simp [State.swapped]
@[simp] theorem State.swapped_pins : s.swapped.pins = s.pins := by simp [State.swapped]
@[simp] theorem State.swapped_link : s.swapped.link = s.link := by simp [State.swapped]
@[simp] theorem State.swapped_profile : s.swapped.profile = s.profile := by simp [State.swapped]
@[simp] theorem State.swapped_answer : s.swapped.answer = s.answer := by simp [State.swapped]
@[simp] theorem State.swapped_freeCount : s.swapped.freeCount = s.freeCount := by simp [State.swapped]
@[simp] theorem State.swapped_service : s.swapped.service = s.takeSwaps.service := rfl
@[simp] theorem State.swapped_tables : s.swapped.tables = s.takeSwaps.tables := rfl
@[simp] theorem State.swapped_beat : s.swapped.beat =
    { s.beat with position := 0, length := beatLength s.takeSwaps.tables.beatRow } := rfl
@[simp] theorem State.swapped_units : s.swapped.units = s.takeSwaps.units := rfl
@[simp] theorem State.swapped_scan : s.swapped.scan = s.takeSwaps.scan := rfl
@[simp] theorem State.swapped_rotation : s.swapped.rotation = s.takeSwaps.rotation := rfl
@[simp] theorem State.swapped_limits : s.swapped.limits = s.takeSwaps.limits := rfl
@[simp] theorem State.swapped_reflex : s.swapped.reflex = s.takeSwaps.reflex := rfl
@[simp] theorem State.swapped_status : s.swapped.status = s.takeSwaps.status := rfl
@[simp] theorem State.driven_pending : (s.driven b).pending = s.swapped.pending := by simp [State.driven]
@[simp] theorem State.driven_due : (s.driven b).due = s.swapped.due := by simp [State.driven]
@[simp] theorem State.driven_now : (s.driven b).now = s.swapped.now := by simp [State.driven]
@[simp] theorem State.driven_phase : (s.driven b).phase = s.swapped.phase := by simp [State.driven]
@[simp] theorem State.driven_loadTicks : (s.driven b).loadTicks = s.swapped.loadTicks := by simp [State.driven]
@[simp] theorem State.driven_cause : (s.driven b).cause = s.swapped.cause := by simp [State.driven]
@[simp] theorem State.driven_strap : (s.driven b).strap = s.swapped.strap := by simp [State.driven]
@[simp] theorem State.driven_slots : (s.driven b).slots = s.swapped.slots := by simp [State.driven]
@[simp] theorem State.driven_contacts : (s.driven b).contacts = s.swapped.contacts := by simp [State.driven]
@[simp] theorem State.driven_pins : (s.driven b).pins = s.swapped.pins := by simp [State.driven]
@[simp] theorem State.driven_link : (s.driven b).link = s.swapped.link := by simp [State.driven]
@[simp] theorem State.driven_profile : (s.driven b).profile = s.swapped.profile := by simp [State.driven]
@[simp] theorem State.driven_answer : (s.driven b).answer = s.swapped.answer := by simp [State.driven]
@[simp] theorem State.driven_freeCount : (s.driven b).freeCount = s.swapped.freeCount := by simp [State.driven]
@[simp] theorem State.driven_beat : (s.driven b).beat = s.swapped.beat := by simp [State.driven]
@[simp] theorem State.driven_service : (s.driven b).service = s.swapped.service := by simp [State.driven]
@[simp] theorem State.driven_scan : (s.driven b).scan = s.swapped.scan := by simp [State.driven]
@[simp] theorem State.decided_pending : (s.decided b).pending = s.swapped.pending := by simp [State.decided]
@[simp] theorem State.decided_due : (s.decided b).due = s.swapped.due := by simp [State.decided]
@[simp] theorem State.decided_now : (s.decided b).now = s.swapped.now := by simp [State.decided]
@[simp] theorem State.decided_phase : (s.decided b).phase = s.swapped.phase := by simp [State.decided]
@[simp] theorem State.decided_loadTicks : (s.decided b).loadTicks = s.swapped.loadTicks := by simp [State.decided]
@[simp] theorem State.decided_cause : (s.decided b).cause = s.swapped.cause := by simp [State.decided]
@[simp] theorem State.decided_strap : (s.decided b).strap = s.swapped.strap := by simp [State.decided]
@[simp] theorem State.decided_slots : (s.decided b).slots = s.swapped.slots := by simp [State.decided]
@[simp] theorem State.decided_contacts : (s.decided b).contacts = s.swapped.contacts := by simp [State.decided]
@[simp] theorem State.decided_pins : (s.decided b).pins = s.swapped.pins := by simp [State.decided]
@[simp] theorem State.decided_link : (s.decided b).link = s.swapped.link := by simp [State.decided]
@[simp] theorem State.decided_profile : (s.decided b).profile = s.swapped.profile := by simp [State.decided]
@[simp] theorem State.decided_answer : (s.decided b).answer = s.swapped.answer := by simp [State.decided]
@[simp] theorem State.decided_freeCount : (s.decided b).freeCount = s.swapped.freeCount := by simp [State.decided]
@[simp] theorem State.decided_beat : (s.decided b).beat = s.swapped.beat := by simp [State.decided]
@[simp] theorem State.decided_service : (s.decided b).service = s.swapped.service := by simp [State.decided]
@[simp] theorem State.decided_scan : (s.decided b).scan = s.swapped.scan := by simp [State.decided]

end

/-- A boundary's beat: position 0, and the length afresh. -/
theorem State.openBeat_beat (s : State) (b : Bank Bool 31) :
    (s.openBeat b).beat = { s.beat with position := 0, length := beatLength (s.openBeat b).tables.beatRow } := by
  have tables : (s.openBeat b).tables = s.takeSwaps.tables := by simp [State.openBeat, State.tables]
  rw [tables]
  simp [State.openBeat]

/-- The part at a boundary that advances the beat number, before anything of the new beat is opened (R2, R82, R110): what was due of
the beat is off the agenda, and the starvation counts, the ages and the number have advanced. -/
def State.numbered (s : State) : State :=
  { s.countStarvation.ageSlots.dropBeatDue with beat := { s.beat with number := s.beat.number + 1 } }

section
variable (s : State)

@[simp] theorem State.numbered_pending : s.numbered.pending = s.pending := rfl
@[simp] theorem State.numbered_now : s.numbered.now = s.now := rfl
@[simp] theorem State.numbered_phase : s.numbered.phase = s.phase := rfl
@[simp] theorem State.numbered_loadTicks : s.numbered.loadTicks = s.loadTicks := rfl
@[simp] theorem State.numbered_cause : s.numbered.cause = s.cause := rfl
@[simp] theorem State.numbered_strap : s.numbered.strap = s.strap := rfl
@[simp] theorem State.numbered_units : s.numbered.units = s.units := rfl
@[simp] theorem State.numbered_scan : s.numbered.scan = s.scan := rfl
@[simp] theorem State.numbered_contacts : s.numbered.contacts = s.contacts := rfl
@[simp] theorem State.numbered_rotation : s.numbered.rotation = s.rotation := rfl
@[simp] theorem State.numbered_pins : s.numbered.pins = s.pins := rfl
@[simp] theorem State.numbered_reflex : s.numbered.reflex = s.reflex := rfl
@[simp] theorem State.numbered_status : s.numbered.status = s.status := rfl
@[simp] theorem State.numbered_link : s.numbered.link = s.link := rfl
@[simp] theorem State.numbered_service : s.numbered.service = s.service := rfl
@[simp] theorem State.numbered_profile : s.numbered.profile = s.profile := rfl
@[simp] theorem State.numbered_answer : s.numbered.answer = s.answer := rfl
@[simp] theorem State.numbered_freeCount : s.numbered.freeCount = s.freeCount := rfl
@[simp] theorem State.numbered_beat : s.numbered.beat = { s.beat with number := s.beat.number + 1 } := rfl
@[simp] theorem State.numbered_slots : s.numbered.slots = s.ageSlots.slots := rfl
@[simp] theorem State.numbered_due : s.numbered.due = s.dropBeatDue.due := rfl
@[simp] theorem State.numbered_limits : s.numbered.limits = s.countStarvation.limits := rfl
@[simp] theorem State.numbered_tables : s.numbered.tables = s.tables := rfl

/-- A boundary that advances the beat number is the common course of the part so advanced, STARVATION falling due after it. -/
theorem State.nextBeat_eq : s.nextBeat = (s.numbered.openBeat s.sources).markStarving s.starvingRows := rfl

theorem State.nextBeat_frame : s.nextBeat = { s.numbered.openBeat s.sources with due := s.nextBeat.due } := rfl

end

theorem State.nextBeat_beat (s : State) : s.nextBeat.beat =
    { s.beat with number := s.beat.number + 1, position := 0, length := beatLength s.nextBeat.tables.beatRow } := by
  rw [s.nextBeat_frame]
  exact State.openBeat_beat _ _

theorem State.wakeUp_beat (s : State) (c : StartCause) : (s.wakeUp c).beat =
    { s.beat with number := 0, position := 0, restart := none, length := beatLength (s.wakeUp c).tables.beatRow } := by
  unfold State.wakeUp
  rw [State.openBeat_beat]
  simp

theorem State.endLoad_divider (s : State) (k : Byte) : (s.endLoad k).beat.divider = s.beat.divider := by
  unfold State.endLoad
  dsimp only
  (repeat' split)
  · unfold State.parkAfterLoad State.applyIf
    dsimp only
    split <;> simp [State.loadProfile, State.startConditioner]
  · simp [State.startAfterLoad, State.openBeat_beat, State.loadProfile, State.startConditioner]
  · rfl

/-- What rows, causes, events, drop counters and the course of a change of conditions keep, a CLEAR keeps. -/
theorem State.doClear_keeps {P : State → Prop} (settle : ∀ {s} b, P s → P (State.settle s b))
    (reflex : ∀ {s} r, P s → P { s with reflex := r }) (status : ∀ {s} r, P s → P { s with status := r })
    (drops : ∀ {s}, P s → P (State.clearDrops s)) {s : State} (events rows : Word16) (flags : Byte) (h : P s) :
    P (s.doClear events rows flags) := by
  have latched {t : State} (b : Bool) (e : EventId) (h : P t) : P (t.latchIf b e) := by
    cases b
    · exact h
    · exact status _ h
  have applied {t : State} (b : Bool) (f : State → State) (keep : ∀ {t}, P t → P (f t)) (h : P t) : P (t.applyIf b f) := by
    cases b
    · exact h
    · exact keep h
  have cleared {t : State} (h : P t) : P (t.clearRows rows) := by
    unfold State.clearRows
    exact settle _ (latched _ _ (reflex _ h))
  unfold State.doClear
  exact applied _ _ (fun h => settle _ (reflex _ h)) (cleared (applied _ _ drops (status _ h)))

/-- What they leave alone, a CLEAR leaves alone. -/
theorem State.doClear_field {α : Type} (g : State → α) (settle : ∀ s b, g (State.settle s b) = g s)
    (reflex : ∀ s r, g { s with reflex := r } = g s) (status : ∀ s r, g { s with status := r } = g s)
    (drops : ∀ s, g (State.clearDrops s) = g s) (s : State) (events rows : Word16) (flags : Byte) :
    g (s.doClear events rows flags) = g s :=
  State.doClear_keeps (P := fun t => g t = g s) (fun b h => (settle _ b).trans h) (fun r h => (reflex _ r).trans h)
    (fun r h => (status _ r).trans h) (fun h => (drops _).trans h) events rows flags rfl

/-- No action of a record sets the divider. -/
theorem State.carryOut_divider (s : State) (a : Action) : (s.carryOut a).beat.divider = s.beat.divider := by
  cases a with
  | clear events rows flags => exact congrArg Beat.divider (State.doClear_field State.beat (by simp) (fun _ _ => rfl) (fun _ _ => rfl)
      (fun _ => rfl) s events rows flags)
  | sync =>
    unfold State.carryOut State.doSync
    dsimp only
    (repeat' split) <;> simp [State.schedule, State.meetBoundary]
  | wake =>
    unfold State.carryOut State.doWake State.applyIf
    dsimp only
    (repeat' split) <;> simp [State.schedule]
  | resetUnits => simp [State.carryOut, State.doResetUnits, State.passCauses]
  | enable mask => simp [State.carryOut, State.doEnable]
  | disable mask => simp [State.carryOut, State.doDisable]
  | _ => rfl

theorem dividerKept (d : Nat) : EventClosed fun s => s.beat.divider = d where
  quiet q h := q.divider.trans h
  settle _ h := by simpa using h
  latch _ h := by simpa using h
  cause _ h := by simpa using h
  units _ _ h := h
  load k h := (State.endLoad_divider _ k).trans h
  next _ h := by rw [State.nextBeat_beat]; exact h
  flush h := by simpa using h
  wake c _ h := by rw [State.wakeUp_beat]; exact h
  raise _ h := by simpa using h
  complete raw h := by
    unfold State.complete
    dsimp only
    (repeat' split) <;> simpa using h
  bytes l h := by rw [State.bytesUp_beat]; exact h

/-- A core tick's divider, and the millisecond tick it brings (R5). -/
theorem State.tick_divider (s : State) : s.tick.beat.divider = if s.beat.divider < 31999 then s.beat.divider + 1 else 0 := by
  have counted : s.tick.beat.divider = s.tickedTimers.beat.divider := by rw [s.tick_eq]
  rw [counted, State.tickedTimers, State.tickConverter_eq]
  have divided (t : State) : t.tickDivider.beat.divider = if t.beat.divider < 31999 then t.beat.divider + 1 else 0 := by
    unfold State.tickDivider Config.ticksPerMs
    by_cases wraps : 32000 ≤ t.beat.divider + 1
    · rw [if_pos wraps, if_neg (by omega)]; simp
    · rw [if_neg wraps, if_pos (by omega)]
  rw [divided, State.tickLoad_eq, State.tickedBeat_eq]

/-- An agenda that no position and no pin is asked for is that of the counts. -/
theorem State.mem_tickedPins_of_ne (s : State) {k : DueEvent} (ne : ∀ r, k ≠ .accepted r) :
    k ∈ s.tickedPins.due ↔ k ∈ s.tickedTimers.due := State.mem_comparePins_of_ne _ _ ne

theorem State.mem_positionDue (s : State) (p : Nat) (k : DueEvent) : k ∈ s.positionDue p ↔
    (∃ u, k = .onStart u ∧ (s.units.get u).edgeAt (s.tables.unitRow u) s.beat.length p true = true) ∨
    (∃ u, k = .onEnd u ∧ (s.units.get u).edgeAt (s.tables.unitRow u) s.beat.length p false = true) ∨
    (∃ e, k = .trigger e ∧ (s.scan.entries.get e).planned = some p) := by
  simp only [State.positionDue, State.triggersAt, List.mem_append, List.mem_map, List.mem_filter, List.mem_finRange, true_and,
    decide_eq_true_eq, or_assoc, eq_comm (b := k), and_comm]

theorem State.mem_tick_msTick (s : State) : .msTick ∈ s.tick.due ↔ .msTick ∈ s.due ∨ 31999 ≤ s.beat.divider := by
  rw [State.mem_tick, State.mem_tickedPins_of_ne _ (by simp), State.mem_tickedTimers]
  simp [State.mem_positionDue, Config.ticksPerMs]

/-- With no command waiting and nothing due, a step is a core tick. -/
theorem step_tick {s : State} (pending : s.pending = []) (due : s.due = []) : step s = .next s.tick := by
  unfold step
  rw [pending]
  dsimp only
  rw [due]

/-- Settles O9: the divider is a property that all but the three events keep, and a core tick counts it. -/
theorem dividerSetByNothingElse : Obligations.DividerSetByNothingElse := by
  unfold Obligations.DividerSetByNothingElse
  refine ⟨fun i s t e => ?_, fun s t pending due e => ?_⟩
  · have kept (reset : ∀ b, i ≠ .powerUp b) (pin : i ≠ .resetPin) (tick : ∀ k, i ≠ .millisecondTick k) :
        t.beat.divider = s.beat.divider :=
      (dividerKept s.beat.divider).exec i e (fun _ k _ => (k.elim (fun ⟨b, e⟩ => reset b e) pin).elim)
        (fun k e _ => (tick k e).elim) (fun a _ {s} h => (s.carryOut_divider a).trans h) rfl
    split
    · injection e with e; subst e; rfl
    · injection e with e; subst e; rfl
    · injection e with e; subst e; simp [State.msTick, State.tickCounts, State.wrapDivider]
    · next reset pin tick => exact kept reset pin tick
  · rw [step_tick pending due] at e
    injection e with e
    subst e
    rw [s.tick_divider, s.mem_tick_msTick, due]
    split
    · next below => exact ⟨rfl, by simp; omega⟩
    · next wraps => exact ⟨rfl, .inr (by omega)⟩

end Sys2Proof.Machine
end

section
/-! What a core tick moves and brings (Machine/Clock.lean): dead time, beat, agenda, pins. -/

namespace Sys2Proof.Machine

theorem State.tick_unit (s : State) (u : Fin 4) : s.tick.units.get u = (s.units.get u).tickDead := by
  rw [s.tick_eq, Bank.get_map]

/-- DEAD_TIME_END falls due at the tick at which the dead time reaches 0 (R15). -/
theorem State.mem_tick_deadTime (s : State) (u : Fin 4) :
    .deadTime u ∈ s.tick.due ↔ .deadTime u ∈ s.due ∨ (s.units.get u).tickDead.dead = some 0 := by
  rw [State.mem_tick, State.mem_tickedPins_of_ne _ (k := .deadTime u) (by simp), State.mem_tickedTimers]
  simp [State.mem_positionDue]

/-- Settles O15. -/
theorem deadTimeRunsOut : Obligations.DeadTimeRunsOut := by
  unfold Obligations.DeadTimeRunsOut
  refine ⟨fun s u => rfl, fun s u pending due => ⟨s.tick, step_tick pending due, fun k running => ?_, fun idle => ?_⟩⟩
  · have ticked : (s.units.get u).tickDead = { s.units.get u with dead := some k } := by
      rw [PulseUnit.tickDead, running]
      rfl
    rw [s.tick_unit, s.mem_tick_deadTime, ticked, due]
    exact ⟨rfl, by simp⟩
  · have ticked : (s.units.get u).tickDead = s.units.get u := by
      rw [PulseUnit.tickDead, idle]
      conv_rhs => rw [← (show { s.units.get u with dead := (s.units.get u).dead } = s.units.get u from rfl), idle]
      rfl
    rw [s.tick_unit, s.mem_tick_deadTime, ticked, idle, due]
    exact ⟨rfl, by simp⟩

/-! ## The place of a position in the on-time (R47) -/

/-- The model's reduction of naturals is the position's distance from the placement phase, mod the beat length. -/
theorem inOnTime_iff (row : Row) (n length position : Nat) (some : 0 < length) :
    inOnTime (placement row length) n length position = true ↔
      ((position : Int) - min (unitPhaseOffset row : Int) (length - 1)) % (length : Int) < n := by
  have phase : (placement row length : Int) = min (unitPhaseOffset row : Int) (length - 1) := by
    unfold placement
    omega
  have below : placement row length ≤ length := by unfold placement; omega
  have distance : (((position + length - placement row length) % length : Nat) : Int)
      = ((position : Int) - placement row length) % (length : Int) := by
    rw [Int.natCast_emod, Nat.cast_sub (by omega), Nat.cast_add, add_sub_right_comm, Int.add_emod_right]
  rw [← phase, ← distance, inOnTime, decide_eq_true_eq, Int.ofNat_lt]

theorem Dir.drive_eq (d : Dir) : d.drive = if d = .rev then .rev else .fwd := by cases d <;> rfl

/-- The on-time starts at a position within it, where its drive direction is not presented yet. -/
theorem PulseUnit.edgeAt_start (u : PulseUnit) (row : Row) (length position : Nat) (some : 0 < length) :
    u.edgeAt row length position true = true ↔ u.state = .run ∧
      ((position : Int) - min (unitPhaseOffset row : Int) (length - 1)) % (length : Int) < u.onTime ∧
      u.drive ≠ if u.driveDir = .rev then .rev else .fwd := by
  simp only [PulseUnit.edgeAt, ← inOnTime_iff row u.onTime length position some, Dir.drive_eq, Bool.and_eq_true, beq_iff_eq,
    decide_eq_true_eq, if_true, and_assoc]

/-- It ends at a position outside it, where the off-time state is not presented yet. -/
theorem PulseUnit.edgeAt_end (u : PulseUnit) (row : Row) (length position : Nat) (some : 0 < length) :
    u.edgeAt row length position false = true ↔ u.state = .run ∧
      ¬((position : Int) - min (unitPhaseOffset row : Int) (length - 1)) % (length : Int) < u.onTime ∧
      u.drive ≠ if unitDecaySlow row then .brake else .coast := by
  simp only [PulseUnit.edgeAt, ← inOnTime_iff row u.onTime length position some, offTimeDrive, Bool.and_eq_true, beq_iff_eq,
    decide_eq_true_eq, Bool.not_eq_true, and_assoc, Bool.false_eq_true, if_false]

/-! ## The beat at a core tick (R1) -/

theorem State.tick_position (s : State) : s.tick.beat.position = s.tickedBeat.beat.position := by rw [s.tick_eq]

theorem State.tickedBeat_position (s : State) : s.tickedBeat.beat.position =
    if s.phase = .run ∧ s.beat.position + 1 < s.beat.length then s.beat.position + 1 else s.beat.position := by
  have advanced (t : State) : t.advanceBeat.beat.position =
      if t.beat.position + 1 < t.beat.length then t.beat.position + 1 else t.beat.position := by
    unfold State.advanceBeat
    by_cases ends : t.beat.length ≤ t.beat.position + 1
    · rw [if_pos ends, if_neg (by omega)]; simp
    · rw [if_neg ends, if_pos (by omega)]
  unfold State.tickedBeat State.tickBeat State.applyIf
  by_cases run : s.phase = .run
  · rw [if_neg (by rw [run]; nofun), if_pos (by simpa [State.beatRunning] using run)]
    split <;> simp [advanced, run]
  · have still : ¬(s.phase = .run ∧ s.beat.position + 1 < s.beat.length) := fun h => run h.1
    rw [if_neg still]
    (repeat' split) <;> simp_all [State.beatRunning]

/-- The beat reaches the next position, but at its natural boundary. -/
theorem State.reached_eq (s : State) :
    s.reached = if s.phase = .run ∧ s.beat.position + 1 < s.beat.length then some (s.beat.position + 1) else none := by
  unfold State.reached State.advanced
  rw [s.tickedBeat_position]
  split <;> simp

/-! ## The restart first (R8) -/

/-- What stands first on the agenda and is no accepted change stays first when the pins are compared. -/
theorem State.comparePin_head {s : State} {k : DueEvent} (r : Fin 3) (ne : k ≠ .accepted r) (h : s.due.head? = some k) :
    (s.comparePin r).due.head? = some k := by
  have erased (x : Rotation) : ((s.setRotation r x).clearDue (.accepted r)).due.head? = some k := by
    obtain ⟨l, e⟩ := List.head?_eq_some_iff.mp h
    have cleared : ((s.setRotation r x).clearDue (.accepted r)).due = s.due.erase (.accepted r) := rfl
    rw [cleared, e, List.erase_cons, if_neg (by simpa using ne)]
    rfl
  unfold State.comparePin
  dsimp only
  (repeat' split) <;> first | exact State.markDue_head _ (erased _) | exact erased _ | exact h

theorem State.markAll_head {s : State} {k : DueEvent} (l : List DueEvent) (h : s.due.head? = some k) :
    (s.markAll l).due.head? = some k := by
  induction l generalizing s with
  | nil => exact h
  | cons e l ih => exact ih (State.markDue_head e h)

/-- A restart that has come stands before all else that a core tick brings. -/
theorem State.tick_restart_head {s : State} (run : s.phase = .run) (comes : s.restartComes = true) :
    s.tick.due.head? = some .restart := by
  have first : s.tickedBeat.due.head? = some .restart := by
    have comes : State.restartNow { s with now := s.now + 1 } = true := comes
    unfold State.tickedBeat State.tickBeat State.applyIf
    rw [if_neg (by rw [run]; nofun), if_pos (by simpa [State.beatRunning] using run), if_pos comes]
    rfl
  have timed : s.tickedTimers.due.head? = some .restart := by
    unfold State.tickedTimers
    have loaded : s.tickedBeat.tickLoad.due.head? = some .restart := by
      unfold State.tickLoad
      dsimp only
      (repeat' split) <;> first | exact State.markDue_head _ first | exact first
    have divided : s.tickedBeat.tickLoad.tickDivider.due.head? = some .restart := by
      unfold State.tickDivider
      split <;> first | exact State.markDue_head _ loaded | exact loaded
    unfold State.tickConverter
    (repeat' split) <;> first | exact State.markDue_head _ divided | exact divided
  have pins (l : List (Fin 3)) (t : State) (h : t.due.head? = some .restart) :
      (l.foldl State.comparePin t).due.head? = some .restart := by
    induction l generalizing t with
    | nil => exact h
    | cons r l ih => exact ih _ (State.comparePin_head r nofun h)
  have pinned : s.tickedPins.due.head? = some .restart := pins (List.finRange 3) s.tickedTimers timed
  have placed : s.tickedPlaces.due.head? = some .restart := by
    unfold State.tickedPlaces
    generalize s.tickedPins = t at pinned
    split <;> first | exact State.markAll_head _ pinned | exact pinned
  have dead (t : State) (h : t.due.head? = some .restart) : t.tickDeadTimes.due.head? = some .restart :=
    State.markAll_head (s := { t with units := t.units.map PulseUnit.tickDead }) _ h
  rw [s.tick_stages]
  have dead := dead s.tickedPlaces placed
  generalize s.tickedPlaces.tickDeadTimes = t at dead
  unfold State.tickSilence
  dsimp only
  (repeat' split) <;> first | exact State.markDue_head _ dead | exact dead

/-! ## The load and the pins at a core tick -/

theorem State.tick_loadTicks (s : State) :
    s.tick.loadTicks = s.loadTicks + (if s.phase = .run ∨ s.phase = .standby then 0 else 1) := by
  have counted : s.tick.loadTicks = s.tickedBeat.tickLoad.loadTicks := by
    rw [s.tick_eq, State.tickedTimers, State.tickConverter_eq, State.tickDivider_eq]
  have loaded (t : State) : t.tickLoad.loadTicks = t.loadTicks + (if t.phase = .run ∨ t.phase = .standby then 0 else 1) := by
    unfold State.tickLoad State.reloading
    dsimp only
    cases t.phase <;> (repeat' split) <;> simp_all
  rw [counted, loaded, s.tickedBeat_eq]

/-- A load or reload is going on outside running operation and standby. -/
theorem State.loads_iff (s : State) : (s.phase = .loading ∨ s.reloading = true) ↔ s.phase ≠ .run ∧ s.phase ≠ .standby := by
  unfold State.reloading
  cases s.phase <;> simp

theorem State.conditionerRunning_iff (s : State) : s.conditionerRunning = true ↔ s.phase = .run ∨ s.phase = .standby := by
  unfold State.conditionerRunning
  cases s.phase <;> simp

theorem State.compared_tickedTimers (s : State) (r : Fin 3) : s.tickedTimers.compared r = s.compared r := by
  rw [s.tickedTimers_eq]
  rfl

/-- With nothing due before, a core tick leaves of a rotation input what its comparison leaves, and its accepted change falls due
where the comparison says so. -/
theorem State.tick_rotation {s : State} (due : s.due = []) (r : Fin 3) : s.tick.rotation.get r = (s.compared r).1 ∧
    (.accepted r ∈ s.tick.due ↔ (s.compared r).2 = true) := by
  have clear : .accepted r ∉ s.tickedTimers.due := by
    rw [State.mem_tickedTimers, due]
    simp
  obtain ⟨get, mem⟩ := s.tickedTimers.comparePins_get (List.finRange 3) (List.nodup_finRange 3) r (List.mem_finRange r) clear
  rw [s.compared_tickedTimers] at get mem
  refine ⟨by rw [s.tick_eq]; exact get, ?_⟩
  rw [State.mem_tick, ← mem]
  simp [State.mem_positionDue, State.tickedPins]

/-- The comparison of R95, case by case. -/
theorem Rotation.compare_cases (x : Rotation) (level : Bool) (filter : Nat) :
    let got := x.compare level filter
    got.1 = { x with persistence := got.1.persistence } ∧
    (level = x.accepted → got.1.persistence = none ∧ ¬got.2 = true) ∧
    (level ≠ x.accepted → x.persistence = none → filter = 0 → got.1.persistence = none ∧ got.2 = true) ∧
    (level ≠ x.accepted → x.persistence = none → filter ≠ 0 → got.1.persistence = some 1 ∧ (got.2 = true ↔ filter ≤ 1)) ∧
    ∀ k, level ≠ x.accepted → x.persistence = some k →
      got.1.persistence = some (min (k + 1) 16) ∧ (got.2 = true ↔ filter ≤ k + 1) := by
  rcases x with ⟨accepted, _ | k⟩ <;> unfold Rotation.compare <;> by_cases same : level = accepted
  · simp [same]
  · by_cases zero : filter = 0 <;> simp [same, zero]
  · simp [same]
  · simp [same]

/-! ## The core tick -/

/-- Settles O25. -/
theorem coreTickMovesTime : Obligations.CoreTickMovesTime := by
  unfold Obligations.CoreTickMovesTime
  intro s pending due
  have reached := s.reached_eq
  have position := s.tick_position.trans s.tickedBeat_position
  have agenda (k : DueEvent) (ne : ∀ r, k ≠ .accepted r) := (s.mem_tick k).trans
    (or_congr_left ((s.mem_tickedPins_of_ne ne).trans (s.mem_tickedTimers k)))
  have restart : .restart ∈ s.tick.due ↔ s.phase = .run ∧ ∃ r, s.beat.restart = some r ∧ r ≤ s.now + 1 := by
    rw [agenda _ (by simp), due]
    simp [State.mem_positionDue, s.restartComes_iff]
  refine ⟨s.tick, step_tick pending due, by rw [s.tick_eq], by rw [s.tick_eq], by rw [s.tick_eq], by rw [s.tick_eq], ?_, restart, ?_,
    ?_, ?_, ?_, ?_, ?_, s.tick_loadTicks, ?_⟩
  · intro run
    rw [position, if_neg (fun h => run h.1)]
  · intro mem
    obtain ⟨run, comes⟩ := restart.mp mem
    exact State.tick_restart_head run (s.restartComes_iff.mpr comes)
  · intro run ends
    refine ⟨?_, by rw [position, if_neg (by omega)]⟩
    rw [agenda _ (by simp)]
    exact .inl (.inr (.inr (.inl ⟨rfl, run, ends⟩)))
  · intro run next
    rw [if_pos ⟨run, next⟩] at reached position
    refine ⟨position, ?_, fun e => ?_, fun u => ⟨?_, ?_⟩⟩
    · rw [agenda _ (by simp), due]
      simp [State.mem_positionDue]
      omega
    · rw [agenda _ (by simp), due, reached]
      simp [State.mem_positionDue]
    · rw [agenda _ (by simp), due, reached]
      simp only [State.mem_positionDue, PulseUnit.edgeAt_start _ _ _ _ (by omega : 0 < s.beat.length)]
      simp
    · rw [agenda _ (by simp), due, reached]
      simp only [State.mem_positionDue, PulseUnit.edgeAt_end _ _ _ _ (by omega : 0 < s.beat.length)]
      simp
  · rw [agenda _ (by simp), due]
    simp [State.mem_positionDue, s.restartComes_iff]
  · rw [agenda _ (by simp), due]
    simp [State.mem_positionDue, Config.conversionTicks]
  · rw [agenda _ (by simp), due, ← s.loads_iff]
    simp [State.mem_positionDue, Config.loadTicks]
  · refine ⟨by rw [s.tick_eq, pending], by rw [s.tick_eq], by rw [s.tick_eq], by rw [s.tick_eq], by rw [s.tick_eq], by rw [s.tick_eq],
      by rw [s.tick_eq], by rw [s.tick_eq], by rw [s.tick_eq], by rw [s.tick_eq], by rw [s.tick_eq], by rw [s.tick_eq], by rw [s.tick_eq],
      by rw [s.tick_eq], by rw [s.tick_eq], by rw [s.tick_eq], fun u => by rw [s.tick_unit]; rfl, fun r => ?_⟩
    obtain ⟨get, falls⟩ := State.tick_rotation due r
    rw [get, falls, State.compared]
    by_cases running : s.conditionerRunning = true
    · rw [if_pos running]
      have phase := s.conditionerRunning_iff.mp running
      obtain ⟨frame, rest⟩ := Rotation.compare_cases (s.rotation.get r) (s.pins.rotationLevel r) (rotationFilter (s.tables.rotationRow r))
      exact ⟨frame, fun run standby => (phase.elim run standby).elim, fun _ => rest⟩
    · rw [if_neg running]
      rw [s.conditionerRunning_iff] at running
      exact ⟨rfl, fun _ _ => ⟨rfl, nofun⟩, fun phase => absurd phase running⟩

end Sys2Proof.Machine
end

section
/-! What the bytes of a frame can do to the state, said once; and what is latched stays latched (R121, R127, R129). -/

namespace Sys2Proof.Machine

/-! ## The bytes of a run on UP -/

section
variable {P : State → Prop}

/-- A byte of a segment draws a fill or stages a take. -/
theorem segmentByte_keeps (link : ∀ {s} l, P s → P { s with link := l }) (fresh : ∀ {s} n, P s → P (State.clearFresh s n))
    (changes : ∀ {s}, P s → P (State.clearChanges s)) {s : State} (p : Pass) (i : Nat) (b : Byte) (h : P s) :
    P (segmentByte s p i b).state := by
  have filled (row : Row) (n : Nat) : P (s.fill row n).1 := by
    unfold State.fill
    split <;> first | exact h | exact fresh _ h | exact changes h
  have taken (row : Row) (seg : List Byte) : P (s.take row seg) := by
    unfold State.take
    split <;> first | exact h | exact link _ h
  have passed {t : State} (h : P t) (p : Pass) : P (overlaid t p b).state := by
    unfold overlaid
    split <;> exact h
  unfold segmentByte
  dsimp only
  (repeat' split) <;> first | exact h | exact passed (filled _ _) _ | exact passed (taken _ _) _ | exact passed h _

/-- What the SLOT swap at a frame's start, the fills that clear flags, and the link block's own changes keep, a run on UP keeps. -/
theorem State.bytesUp_keeps (link : ∀ {s} l, P s → P { s with link := l }) (swap : ∀ {s}, P s → P (State.slotSwap s))
    (fresh : ∀ {s} n, P s → P (State.clearFresh s n)) (changes : ∀ {s}, P s → P (State.clearChanges s)) {s : State} (l : List Byte)
    (h : P s) : P (l.foldl State.byteUp s) := by
  have covered {s : State} (h : P s) (p : Pass) (i : Nat) (b : Byte) : P (coveredByte s p i b).state := by
    unfold coveredByte
    (repeat' split)
    · exact h
    · rw [headerByte_state]; exact h
    · exact segmentByte_keeps (P := P) link fresh changes p i b h
    · rw [areaByte_state]; exact h
    · rw [maskByte_state]; exact h
  have passed {s : State} (h : P s) (p : Pass) (b : Byte) : P (passByte s p b).1 := by
    unfold passByte
    dsimp only
    (repeat' split) <;> first | exact link _ (covered h _ _ _) | exact h | exact link _ h
  have next {s : State} (h : P s) (b : Byte) : P (s.byteUp b) := by
    unfold State.byteUp
    split
    · exact link _ h
    · unfold State.nextUp State.applyIf
      dsimp only
      have routed {s : State} (h : P s) (p : Pass) : P (s.routeUp p b) := by
        unfold State.routeUp
        split
        · exact link _ h
        · exact link _ (passed (link _ h) _ _)
      have started (c : Bool) : P (if c then s.slotSwap else s) := by
        cases c
        · exact h
        · exact swap h
      (repeat' split) <;>
        first | exact link _ (swap h) | exact link _ h | exact routed (swap h) _ | exact routed h _ | exact link _ (passed (swap h) _ _) |
          exact link _ (passed h _ _)
  induction l generalizing s with
  | nil => exact h
  | cons b l ih => exact ih (next h b)

end

/-! ## What stays latched -/

/-- Every event, fired latch and safe cause set in `s` is set in `t`. -/
structure State.Latched (s t : State) : Prop where
  events : ∀ k, s.status.events.getLsbD k = true → t.status.events.getLsbD k = true
  fired : ∀ n, (s.reflex.rows.get n).fired = true → (t.reflex.rows.get n).fired = true
  link : s.reflex.link = true → t.reflex.link = true
  thermal : s.reflex.thermal = true → t.reflex.thermal = true
  supply : s.reflex.supply = true → t.reflex.supply = true

namespace State.Latched
variable {s t v : State}

theorem refl (s : State) : s.Latched s := ⟨fun _ h => h, fun _ h => h, id, id, id⟩

theorem congr (h : s.Latched t) (reflex : v.reflex = t.reflex) (events : v.status.events = t.status.events) : s.Latched v := by
  obtain ⟨a, b, c, d, e⟩ := h
  constructor <;> simp_all

theorem latch (e : EventId) (h : s.Latched t) : s.Latched (t.latch e) :=
  ⟨fun k m => t.latch_keeps e k (h.events k m), fun n m => by simpa using h.fired n m, by simpa using h.link,
    by simpa using h.thermal, by simpa using h.supply⟩

theorem latchIf (b : Bool) (e : EventId) (h : s.Latched t) : s.Latched (t.latchIf b e) := by
  cases b
  · exact h
  · exact latch e h

theorem setCause (c : SafeCause) (h : s.Latched t) : s.Latched (t.setCause c) := by
  cases c with
  | link => exact ⟨h.events, h.fired, fun _ => rfl, h.thermal, h.supply⟩
  | thermal => exact ⟨h.events, h.fired, h.link, fun _ => rfl, h.supply⟩
  | supply => exact ⟨h.events, h.fired, h.link, h.thermal, fun _ => rfl⟩

theorem settle (b : Bank Bool 31) (h : s.Latched t) : s.Latched (t.settle b) :=
  ⟨fun k m => t.settle_keeps b k (h.events k m), fun n m => t.settle_fired b n (h.fired n m), by simpa using h.link,
    by simpa using h.thermal, by simpa using h.supply⟩

theorem applyIf {f : State → State} (b : Bool) (k : s.Latched t → s.Latched (f t)) (h : s.Latched t) : s.Latched (t.applyIf b f) := by
  cases b
  · exact h
  · exact k h

/-! The sequencer latches SCAN_DROP and nothing else. -/

theorem drop (e : Fin 24) (h : s.Latched t) : s.Latched (t.drop e) := latch _ (h.congr rfl rfl)

theorem takeFrom (q : List ScanRequest) (h : s.Latched t) : s.Latched (t.takeFrom q) := by
  have dropped (r : ScanRequest) {t : State} (h : s.Latched t) : s.Latched (t.dropRequest r) := by
    unfold State.dropRequest
    split <;> first | exact drop _ h | exact h
  induction q generalizing t with
  | nil => exact h.congr rfl rfl
  | cons r q ih =>
    unfold State.takeFrom
    split
    · exact ih (dropped r h)
    · exact h.congr rfl rfl

theorem takeNext (h : s.Latched t) : s.Latched t.takeNext := by
  unfold State.takeNext
  split
  · exact takeFrom _ h
  · exact h

theorem join (r : ScanRequest) (h : s.Latched t) : s.Latched (t.join r) := takeNext (h.congr rfl rfl)

theorem raiseEntry (e : Fin 24) (h : s.Latched t) : s.Latched (t.raiseEntry e) := by
  unfold State.raiseEntry
  dsimp only
  (repeat' split) <;> first | exact drop _ (h.congr rfl rfl) | exact join _ (h.congr rfl rfl)

theorem openScan (h : s.Latched t) : s.Latched t.openScan := by
  have raised (l : List (Fin 24)) {t : State} (h : s.Latched t) : s.Latched (l.foldl State.raiseEntry t) := by
    induction l generalizing t with
    | nil => exact h
    | cons e l ih => exact ih (raiseEntry e h)
  have kept {t : State} (h : s.Latched t) : s.Latched t.raiseHousekeepingOfBeat := by
    unfold State.raiseHousekeepingOfBeat State.raiseHousekeeping
    (repeat' split) <;> first | exact join _ h | exact h
  exact kept (raised _ (congr (takeNext h) rfl rfl))

/-! The results. -/

theorem storeResult (n : Fin 26) (v : Nat) (h : s.Latched t) : s.Latched (t.storeResult n v) := by
  have temp {t : State} (h : s.Latched t) : s.Latched (t.checkTemp v) := by
    unfold State.checkTemp
    dsimp only
    split
    · exact latch _ (setCause _ (latchIf _ _ (h.congr rfl rfl)))
    · exact latchIf _ _ (h.congr rfl rfl)
  have supply {t : State} (h : s.Latched t) : s.Latched (t.checkSupply v) := by
    unfold State.checkSupply
    dsimp only
    (repeat' split) <;> first | exact latch _ (setCause _ (h.congr rfl rfl)) | exact h.congr rfl rfl
  have checks {t : State} (h : s.Latched t) : s.Latched (t.storeToChecks n v) := by
    unfold State.storeToChecks
    (repeat' split) <;> first | exact temp h | exact supply h | exact h
  have limits : s.Latched (State.storeToLimits { t with slots := t.slots.set n (Slot.stored n v) } n v) :=
    latchIf _ _ (h.congr rfl rfl)
  exact settle _ (congr (checks limits) rfl rfl)

theorem complete (raw : BitVec 12) (h : s.Latched t) : s.Latched (t.complete raw) := by
  have delivered (r : ScanRequest) {t : State} (h : s.Latched t) : s.Latched (t.deliverSample r raw) := by
    unfold State.deliverSample State.addSample
    dsimp only
    (repeat' split) <;> first | exact storeResult _ _ (h.congr rfl rfl) | exact h.congr rfl rfl
  unfold State.complete
  dsimp only
  split
  · exact h
  · split
    · exact takeNext (h.congr rfl rfl)
    · exact takeNext (delivered _ (h.congr rfl rfl))

/-! Boundaries. -/

theorem takeMarks (w : BitVec 9) (h : s.Latched t) : s.Latched (t.takeMarks w) := latchIf _ _ (h.congr rfl rfl)

theorem decideRows (old : Tables) (h : s.Latched t) : s.Latched (t.decideRows old) := by
  have fired (x : ReflexRow) (a b : Row) (on : Bool) (h : x.fired = true) : (x.swapDecide a b on).1.fired = true := by
    unfold ReflexRow.swapDecide
    (repeat' split) <;> first | exact h | rfl
  have decided : s.Latched { t with reflex := (t.decideRows old).reflex } :=
    ⟨h.events, fun n m => by simpa [State.decideRows] using fired _ _ _ _ (h.fired n m), by simpa [State.decideRows] using h.link,
      by simpa [State.decideRows] using h.thermal, by simpa [State.decideRows] using h.supply⟩
  unfold State.decideRows
  exact latchIf _ _ (decided.congr (by simp [State.decideRows]) rfl)

theorem takeSwaps (h : s.Latched t) : s.Latched t.takeSwaps := by
  unfold State.takeSwaps
  dsimp only
  exact applyIf _ (decideRows _) (applyIf _ (congr · rfl rfl) (applyIf _ (congr · rfl rfl) (applyIf _ (congr · rfl rfl)
    (applyIf _ (congr · rfl rfl) (applyIf _ (congr · rfl rfl) (takeMarks _ h))))))

theorem openBeat (b : Bank Bool 31) (h : s.Latched t) : s.Latched (t.openBeat b) := by
  have computed {t : State} (h : s.Latched t) : s.Latched t.computeUnits := latchIf _ _ (h.congr rfl rfl)
  exact openScan (settle _ (computed (settle _ (congr (takeSwaps h) rfl rfl))))

theorem nextBeat (h : s.Latched t) : s.Latched t.nextBeat := by
  rw [t.nextBeat_frame]
  exact congr (openBeat _ (h.congr (v := t.numbered) rfl rfl)) rfl rfl

theorem wakeUp (c : StartCause) (h : s.Latched t) : s.Latched (t.wakeUp c) :=
  openBeat _ (congr (latch .start (h.congr rfl rfl)) rfl rfl)

theorem endLoad (k : Byte) (h : s.Latched t) : s.Latched (t.endLoad k) := by
  unfold State.endLoad
  dsimp only
  split
  · split
    · unfold State.parkAfterLoad
      dsimp only
      exact applyIf _ (fun h => h.congr (by simp) (by simp)) (settle _ (h.congr rfl rfl))
    · unfold State.startAfterLoad
      dsimp only
      exact openBeat _ (congr (latch .start (h.congr rfl rfl)) rfl rfl)
  · exact h

end State.Latched

theorem latchedClosed (s : State) : EventClosed s.Latched where
  quiet q h := h.congr q.reflex (congrArg Status.events q.status)
  settle b h := h.settle b
  latch e h := h.latch e
  cause c h := h.setCause c
  units _ _ h := h.congr rfl rfl
  load k h := h.endLoad k
  next _ h := h.nextBeat
  flush h := h.congr rfl rfl
  wake c _ h := h.wakeUp c
  raise e h := h.raiseEntry e
  complete raw h := h.complete raw
  bytes l h := by
    refine State.bytesUp_keeps (P := s.Latched) (fun l h => h.congr rfl rfl) (fun {t} h => ?_) (fun n h => h.congr rfl rfl)
      (fun h => h.congr rfl rfl) l h
    unfold State.slotSwap
    split
    · exact h.takeMarks _
    · exact h

/-- Of the actions, a CLEAR and the resets alone take something latched away. -/
theorem State.Latched.carryOut {s t : State} (a : Action) (clear : a.kind ≠ 0x08) (reset : a.kind ≠ 0x0E) (h : s.Latched t) :
    s.Latched (t.carryOut a) := by
  cases a with
  | clear => exact absurd rfl clear
  | resetFull => exact absurd rfl reset
  | resetUnits => exact absurd rfl reset
  | enable mask => exact settle _ (h.congr rfl rfl)
  | disable mask => exact settle _ (h.congr rfl rfl)
  | sync =>
    unfold State.carryOut State.doSync
    dsimp only
    (repeat' split) <;> first | exact h | exact h.congr (by simp [State.schedule]) (by simp [State.schedule]) | exact h.congr rfl rfl
  | wake =>
    unfold State.carryOut State.doWake
    dsimp only
    split
    · exact applyIf _ (fun h => h.congr (by simp) (by simp)) (h.congr rfl rfl)
    · exact h
  | _ => exact h.congr rfl rfl

/-- Settles O8: what is latched is a property that every operation but CLEAR and the resets keeps. -/
theorem latchedStaysLatched : Obligations.LatchedStaysLatched := by
  unfold Obligations.LatchedStaysLatched
  intro i s t e other
  have kept : s.Latched t := by
    refine (latchedClosed s).exec i e (fun _ k _ => ?_) (fun k _ h => ?_) (fun a may => ?_) (.refl s)
    · rcases k with ⟨b, rfl⟩ | rfl <;> exact other.elim
    · exact h.congr (by simp [State.msTick, State.tickCounts, State.wrapDivider])
        (by simp [State.msTick, State.tickCounts, State.wrapDivider])
    · refine fun h => h.carryOut a (fun k => ?_) (fun k => ?_) <;>
        (cases i <;> first | exact other | (obtain ⟨r, e⟩ := may; rw [k] at e; simp [recordOf] at e))
  exact ⟨kept.events, kept.fired, kept.link, kept.thermal, kept.supply⟩

end Sys2Proof.Machine
end

section
/-! The conversion queue stays lawful (R64), and results and partial sums stay within their bounds (R79, R80). -/

namespace Sys2Proof.Machine

/-! ## The order of requests (R64) -/

theorem ScanRequest.before_iff (a b : ScanRequest) :
    a.before b = true ↔ a.raised < b.raised ∨ (a.raised = b.raised ∧ a.source.rank < b.source.rank) := by
  simp [ScanRequest.before]

theorem ScanRequest.before_asymm {a b : ScanRequest} (h : a.before b = true) : b.before a = false := by
  rw [ScanRequest.before_iff] at h
  rw [Bool.eq_false_iff, ne_eq, ScanRequest.before_iff]
  omega

theorem ScanRequest.before_trans {a b c : ScanRequest} (h : a.before b = true) (k : b.before c = true) : a.before c = true := by
  rw [ScanRequest.before_iff] at *
  omega

theorem insertRequest_perm (r : ScanRequest) (q : List ScanRequest) : (insertRequest r q).Perm (r :: q) := by
  induction q with
  | nil => exact .refl _
  | cons x q ih =>
    unfold insertRequest
    split
    · exact .refl _
    · exact (ih.cons x).trans (.swap r x q)

/-- A request put in its place leaves the queue in the order of raising. -/
theorem insertRequest_ordered (r : ScanRequest) (q : List ScanRequest) (h : q.Pairwise fun a b => b.before a = false) :
    (insertRequest r q).Pairwise fun a b => b.before a = false := by
  induction q with
  | nil => exact List.pairwise_singleton _ _
  | cons x q ih =>
    obtain ⟨first, rest⟩ := List.pairwise_cons.mp h
    unfold insertRequest
    split
    · next before =>
      refine List.pairwise_cons.mpr ⟨fun b mem => ?_, h⟩
      rcases List.mem_cons.mp mem with rfl | mem
      · exact ScanRequest.before_asymm before
      · rw [Bool.eq_false_iff]
        exact fun earlier => Bool.false_ne_true ((first b mem).symm.trans (ScanRequest.before_trans earlier before))
    · next behind =>
      refine List.pairwise_cons.mpr ⟨fun b mem => ?_, ih rest⟩
      rcases List.mem_cons.mp ((insertRequest_perm r q).mem_iff.mp mem) with rfl | mem
      · simpa using behind
      · exact first b mem

/-! ## Lawful queues -/

theorem QueueLawful.nil : QueueLawful [] := ⟨by simp [tableWaiting], by simp [housekeepingWaiting], by simp, by simp⟩

/-- A part of a lawful queue is one. -/
theorem QueueLawful.sublist {p q : List ScanRequest} (h : QueueLawful q) (part : p.Sublist q) : QueueLawful p :=
  ⟨(part.filter _).length_le.trans h.table, (part.filter _).length_le.trans h.housekeeping, h.distinct.sublist (part.map _),
    h.ordered.sublist part⟩

/-- A request that finds room and none of its own source joins a lawful queue lawfully. -/
theorem QueueLawful.insert {q : List ScanRequest} (h : QueueLawful q) (r : ScanRequest)
    (table : r.source.isEntry = true → (tableWaiting q).length < 4) (housekeeping : r.source.isEntry = false → housekeepingWaiting q = [])
    (fresh : ∀ x ∈ q, x.source ≠ r.source) : QueueLawful (insertRequest r q) := by
  have perm := insertRequest_perm r q
  refine ⟨?_, ?_, ?_, insertRequest_ordered r q h.ordered⟩
  · rw [tableWaiting, (perm.filter _).length_eq, List.filter_cons]
    split
    · next entry => exact table entry
    · exact h.table
  · rw [housekeepingWaiting, (perm.filter _).length_eq, List.filter_cons]
    split
    · next house => rw [← housekeepingWaiting, housekeeping (by simpa using house)]; simp
    · exact h.housekeeping
  · rw [(perm.map _).nodup_iff, List.map_cons, List.nodup_cons]
    exact ⟨fun mem => let ⟨x, on, e⟩ := List.mem_map.mp mem; fresh x on e, h.distinct⟩

/-! ## The sequencer -/

/-- The converter considering a queue leaves a rest of it. -/
theorem State.takeFrom_queue (s : State) (q : List ScanRequest) : (s.takeFrom q).scan.queue.Sublist q := by
  induction q generalizing s with
  | nil => simp [State.takeFrom]
  | cons r q ih =>
    unfold State.takeFrom
    split
    · exact (ih _).cons r
    · simp

theorem State.takeNext_queue (s : State) : s.takeNext.scan.queue.Sublist s.scan.queue := by
  unfold State.takeNext
  split
  · exact s.takeFrom_queue _
  · exact .refl _

@[simp] theorem State.drop_queue (s : State) (e : Fin 24) : (s.drop e).scan.queue = s.scan.queue := by simp [State.drop]

/-- The queue of a state is lawful (R64). -/
def State.QueueOk (s : State) : Prop := QueueLawful s.scan.queue

theorem State.QueueOk.congr {s t : State} (h : s.QueueOk) (queue : t.scan.queue = s.scan.queue) : t.QueueOk := by
  unfold State.QueueOk; rw [queue]; exact h

theorem State.QueueOk.takeNext {s : State} (h : s.QueueOk) : s.takeNext.QueueOk := QueueLawful.sublist h s.takeNext_queue

theorem State.QueueOk.flush {s : State} (h : s.QueueOk) : s.flush.QueueOk := QueueLawful.sublist h List.filter_sublist

theorem State.QueueOk.raiseEntry {s : State} (e : Fin 24) (h : s.QueueOk) : (s.raiseEntry e).QueueOk := by
  unfold State.raiseEntry
  dsimp only
  split
  · exact h.congr (by simp)
  · next fresh =>
    split
    · exact h.congr (by simp)
    · next room =>
      refine State.QueueOk.takeNext (QueueLawful.insert h _ (fun _ => by simpa using room) nofun fun x on same => ?_)
      exact fresh (List.any_eq_true.mpr ⟨x, on, by simpa using same⟩)

theorem State.QueueOk.raiseHousekeeping {s : State} {src : RequestSource} (house : src.isEntry = false) (input : Fin 16) (h : s.QueueOk) :
    (s.raiseHousekeeping src input).QueueOk := by
  unfold State.raiseHousekeeping
  split
  · next clear =>
    refine State.QueueOk.takeNext (QueueLawful.insert h _ (fun entry => absurd entry (by simp [house])) (fun _ => clear) fun x on same => ?_)
    have waits : x ∈ housekeepingWaiting s.scan.queue := List.mem_filter.mpr ⟨on, by rw [same]; simpa using house⟩
    rw [clear] at waits
    exact List.not_mem_nil waits
  · exact h

theorem State.QueueOk.openScan {s : State} (h : s.QueueOk) : s.openScan.QueueOk := by
  have raised (l : List (Fin 24)) {s : State} (h : s.QueueOk) : (l.foldl State.raiseEntry s).QueueOk := by
    induction l generalizing s with
    | nil => exact h
    | cons e l ih => exact ih (h.raiseEntry e)
  have opened : ((s.takeNext.plan.triggersAt 0).foldl State.raiseEntry s.takeNext.plan).QueueOk :=
    raised _ (h.takeNext.congr (t := s.takeNext.plan) rfl)
  unfold State.openScan State.raiseHousekeepingOfBeat
  dsimp only
  (repeat' split) <;> first | exact opened.raiseHousekeeping rfl _ | exact opened

/-- The swaps leave the sequencer as it is, but for the flush of a SCAN swap (R72). -/
theorem State.takeSwaps_scan (s : State) :
    s.takeSwaps.scan = if inSet (beatMarks s.service.marks) .scan then s.flush.scan else s.scan := by
  have applied (s : State) (b : Bool) (f : State → State) (h : ∀ s, (f s).scan = s.scan) : (s.applyIf b f).scan = s.scan :=
    State.applyIf_field _ State.scan _ _ (h s)
  unfold State.takeSwaps
  dsimp only
  rw [applied _ _ _ (by simp), applied _ _ State.swapSafe (fun _ => rfl), applied _ _ State.swapInputs (fun _ => rfl),
    applied _ _ State.swapUnits (fun _ => rfl), applied _ _ State.swapLimits (fun _ => rfl)]
  unfold State.applyIf
  split
  · unfold State.flush; rw [State.takeMarks_scan]
  · exact State.takeMarks_scan _ _

/-- The sequencer before the boundary's triggers: as the swaps leave it. -/
theorem State.openBeat_openScan (s : State) (b : Bank Bool 31) : ∃ t : State, t.scan = s.takeSwaps.scan ∧ s.openBeat b = t.openScan :=
  ⟨_, by simp, rfl⟩

theorem State.QueueOk.openBeat {s : State} (b : Bank Bool 31) (h : s.QueueOk) : (s.openBeat b).QueueOk := by
  obtain ⟨t, scan, e⟩ := s.openBeat_openScan b
  rw [e]
  refine State.QueueOk.openScan ?_
  unfold State.QueueOk
  rw [scan, s.takeSwaps_scan]
  split
  · exact h.flush
  · exact h

theorem queueOkClosed : EventClosed State.QueueOk where
  quiet q h := h.congr (congrArg Scan.queue q.scan)
  settle _ h := h.congr (by simp)
  latch _ h := h.congr (by simp)
  cause _ h := h.congr (by simp)
  units _ _ h := h
  load k h := by
    unfold State.endLoad State.parkAfterLoad State.startAfterLoad
    dsimp only
    (repeat' split)
    · exact h.congr (by simp [State.applyIf_field _ (fun t : State => t.scan.queue), State.loadProfile, State.startConditioner])
    · exact State.QueueOk.openBeat _ (h.congr (by simp [State.ageSlots, State.loadProfile, State.startConditioner]))
    · exact h
  next {s} _ h := by
    rw [s.nextBeat_frame]
    exact State.QueueOk.openBeat (s := s.numbered) _ h
  flush h := h.flush
  wake _ _ h := State.QueueOk.openBeat _ (h.congr (by simp))
  raise e h := h.raiseEntry e
  complete {s} raw h := by
    have delivered (r : ScanRequest) {s : State} (h : s.QueueOk) : (s.deliverSample r raw).QueueOk := by
      unfold State.deliverSample State.addSample
      dsimp only
      (repeat' split) <;> exact h.congr (by simp)
    unfold State.complete
    dsimp only
    (repeat' split)
    · exact h
    · exact State.QueueOk.takeNext (h.congr rfl)
    · exact State.QueueOk.takeNext (delivered _ (h.congr rfl))
  bytes l h := h.congr (by rw [State.bytesUp_scan])

theorem State.QueueOk.carryOut {s : State} (a : Action) (h : s.QueueOk) : (s.carryOut a).QueueOk := by
  cases a with
  | enable mask => exact h.congr (by simp [State.carryOut, State.doEnable])
  | disable mask => exact h.congr (by simp [State.carryOut, State.doDisable])
  | clear events rows flags =>
    exact h.congr (State.doClear_field (fun t => t.scan.queue) (by simp) (fun _ _ => rfl) (fun _ _ => rfl) (fun _ => rfl) s events rows flags)
  | sync =>
    unfold State.carryOut State.doSync
    dsimp only
    (repeat' split)
    · exact h
    · exact h
    · exact QueueLawful.sublist h List.filter_sublist
    · exact h.congr (by simp [State.schedule])
  | wake =>
    unfold State.carryOut State.doWake State.applyIf
    dsimp only
    (repeat' split) <;> first | exact h | exact h.congr (by simp [State.schedule])
  | standby => exact h.flush.congr rfl
  | resetFull => exact QueueLawful.nil
  | resetUnits => exact h.flush.congr (by simp [State.carryOut, State.doResetUnits, State.passCauses])
  | _ => exact h

/-- Settles O5. -/
theorem queueLawKept : Obligations.QueueLawKept := by
  unfold Obligations.QueueLawKept
  intro s t h e
  refine step_keeps (P := State.QueueOk) (fun i {s t} e h => ?_) (fun q => queueOkClosed.quiet q) (fun {s} h => ?_) h e
  · exact queueOkClosed.exec i e (fun _ _ _ => QueueLawful.nil)
      (fun _ _ h => h.congr (by simp [State.msTick, State.tickCounts, State.wrapDivider])) (fun a _ {s} h => h.carryOut a) h
  · exact h.congr (by rw [s.tick_eq])

end Sys2Proof.Machine
end

section
/-! Results and partial sums stay within their bounds (R67, R78 to R80). -/

namespace Sys2Proof.Machine

/-! ## Partial sums in the sequencer -/

/-- A partial sum no larger than its samples allow. -/
def ScanEntry.Bounded (x : ScanEntry) : Prop := x.sum ≤ 4095 * x.samples

/-- Every partial sum of a state is no larger than its samples allow. -/
def State.SumsBounded (s : State) : Prop := ∀ e, (s.scan.entries.get e).Bounded

namespace State.SumsBounded
variable {s t : State}

theorem congr (h : s.SumsBounded) (entries : t.scan.entries = s.scan.entries) : t.SumsBounded := by
  unfold State.SumsBounded; rw [entries]; exact h

/-- An entry written with a bounded sum. -/
theorem setEntry (h : s.SumsBounded) (e : Fin 24) {x : ScanEntry} (bounded : x.Bounded) : (s.setEntry e x).SumsBounded := by
  intro k
  rw [State.setEntry_entries, Bank.get_set]
  split
  · exact bounded
  · exact h k

/-- Entries mapped one by one, each sum begun afresh or kept. -/
theorem mapped (h : s.SumsBounded) (f : Fin 24 → ScanEntry → ScanEntry) (kept : ∀ e x, x.Bounded → (f e x).Bounded)
    (entries : ∀ e, t.scan.entries.get e = f e (s.scan.entries.get e)) : t.SumsBounded := fun e => by
  rw [entries]; exact kept e _ (h e)

theorem drop (h : s.SumsBounded) (e : Fin 24) : (s.drop e).SumsBounded :=
  congr (h.setEntry e (x := { (s.scan.entries.get e).restart with
    drops := if (s.scan.entries.get e).drops < 255 then (s.scan.entries.get e).drops + 1 else (s.scan.entries.get e).drops })
    (Nat.zero_le _)) rfl

theorem takeFrom (q : List ScanRequest) (h : s.SumsBounded) : (s.takeFrom q).SumsBounded := by
  have dropped (r : ScanRequest) {s : State} (h : s.SumsBounded) : (s.dropRequest r).SumsBounded := by
    unfold State.dropRequest
    split <;> first | exact h.drop _ | exact h
  induction q generalizing s with
  | nil => exact h
  | cons r q ih =>
    unfold State.takeFrom
    split
    · exact ih (dropped r h)
    · exact h

theorem takeNext (h : s.SumsBounded) : s.takeNext.SumsBounded := by
  unfold State.takeNext
  split
  · exact h.takeFrom _
  · exact h

theorem join (r : ScanRequest) (h : s.SumsBounded) : (s.join r).SumsBounded := takeNext (congr h rfl)

theorem raiseEntry (e : Fin 24) (h : s.SumsBounded) : (s.raiseEntry e).SumsBounded := by
  have spent : (s.setEntry e { s.scan.entries.get e with planned := none }).SumsBounded := h.setEntry e (h e)
  unfold State.raiseEntry
  dsimp only
  (repeat' split) <;> first | exact spent.drop e | exact spent.join _

theorem flush (h : s.SumsBounded) : s.flush.SumsBounded :=
  h.mapped (fun _ => ScanEntry.restart) (fun _ _ _ => Nat.zero_le _) (fun e => by simp [State.flush])

theorem openScan (h : s.SumsBounded) : s.openScan.SumsBounded := by
  have planned {s : State} (h : s.SumsBounded) : s.plan.SumsBounded :=
    h.mapped (fun e x => { x with planned := if s.entryActive (s.tables.scanRow e) then s.triggerTime (s.tables.scanRow e) else none })
      (fun _ _ k => k) (fun e => by simp [State.plan])
  have raised (l : List (Fin 24)) {s : State} (h : s.SumsBounded) : (l.foldl State.raiseEntry s).SumsBounded := by
    induction l generalizing s with
    | nil => exact h
    | cons e l ih => exact ih (h.raiseEntry e)
  have kept {s : State} (h : s.SumsBounded) : s.raiseHousekeepingOfBeat.SumsBounded := by
    unfold State.raiseHousekeepingOfBeat State.raiseHousekeeping
    (repeat' split) <;> first | exact h.join _ | exact h
  exact kept (raised _ (planned h.takeNext))

theorem openBeat (b : Bank Bool 31) (h : s.SumsBounded) : (s.openBeat b).SumsBounded := by
  obtain ⟨t, scan, e⟩ := s.openBeat_openScan b
  rw [e]
  refine openScan (congr (s := s.takeSwaps) ?_ (congrArg Scan.entries scan))
  unfold State.SumsBounded
  rw [s.takeSwaps_scan]
  split
  · exact h.flush
  · exact h

end State.SumsBounded

/-! ## Results -/

theorem calibrate_le (offset : Int) (raw : BitVec 12) : calibrate offset raw ≤ 4095 := min_le_right _ _

/-- The average of so many samples stays in the range of a result. -/
theorem average_le {sum n : Nat} (bounded : sum ≤ 4095 * n) : sum * 16 / n ≤ 65520 := by
  rcases Nat.eq_zero_or_pos n with rfl | some
  · simp
  · rw [Nat.div_le_iff_le_mul_add_pred some]; omega

namespace State.ResultsLawful
variable {s t : State}

theorem congr (h : s.ResultsLawful) (slots : t.slots = s.slots) (entries : t.scan.entries = s.scan.entries) : t.ResultsLawful :=
  ⟨by rw [slots]; exact h.slots, State.SumsBounded.congr h.sums entries⟩

/-- Slots changed in their flags and ages alone. -/
theorem values (h : s.ResultsLawful) (slots : ∀ n, (t.slots.get n).value = (s.slots.get n).value)
    (entries : t.scan.entries = s.scan.entries) : t.ResultsLawful :=
  ⟨fun n => (slots n).symm ▸ h.slots n, State.SumsBounded.congr h.sums entries⟩

theorem takeNext (h : s.ResultsLawful) : s.takeNext.ResultsLawful :=
  ⟨by simpa using h.slots, State.SumsBounded.takeNext h.sums⟩

theorem openBeat (b : Bank Bool 31) (h : s.ResultsLawful) : (s.openBeat b).ResultsLawful :=
  ⟨by simpa using h.slots, State.SumsBounded.openBeat b h.sums⟩

theorem storeResult (n : Fin 26) {v : Nat} (bound : v ≤ 65520) (h : s.ResultsLawful) : (s.storeResult n v).ResultsLawful := by
  refine ⟨fun k => ?_, State.SumsBounded.congr h.sums (by simp [State.storeResult])⟩
  have stored : (s.storeResult n v).slots = s.slots.set n (Slot.stored n v) := by simp [State.storeResult]
  rw [stored, Bank.get_set]
  split
  · exact bound
  · exact h.slots k

theorem deliverSample (r : ScanRequest) (raw : BitVec 12) (h : s.ResultsLawful) : (s.deliverSample r raw).ResultsLawful := by
  have sample := calibrate_le (calOffset s.tables r.input) raw
  unfold State.deliverSample State.addSample
  dsimp only
  split
  · next e _ =>
    have before := h.sums e
    split
    · next full =>
      refine storeResult _ ?_ ⟨h.slots, State.SumsBounded.setEntry h.sums e (Nat.zero_le _)⟩
      rw [← full]
      exact average_le (by omega)
    · refine ⟨h.slots, State.SumsBounded.setEntry h.sums e ?_⟩
      show _ ≤ _
      dsimp only
      omega
  · exact storeResult _ (by omega) h
  · exact storeResult _ (by omega) h

end State.ResultsLawful

theorem resultsClosed : EventClosed State.ResultsLawful where
  quiet q h := h.congr q.slots (congrArg Scan.entries q.scan)
  settle _ h := h.congr (by simp) (by simp)
  latch _ h := h.congr (by simp) (by simp)
  cause _ h := h.congr (by simp) (by simp)
  units _ _ h := h.congr rfl rfl
  load k h := by
    unfold State.endLoad State.parkAfterLoad State.startAfterLoad
    dsimp only
    (repeat' split)
    · exact h.congr (by simp [State.applyIf_field _ State.slots, State.loadProfile, State.startConditioner])
        (by simp [State.applyIf_field _ (fun t : State => t.scan.entries), State.loadProfile, State.startConditioner])
    · exact State.ResultsLawful.openBeat _ (h.values (by simp [State.ageSlots, State.loadProfile, State.startConditioner])
        (by simp [State.ageSlots, State.loadProfile, State.startConditioner]))
    · exact h
  next {s} _ h := by
    rw [s.nextBeat_frame]
    exact (State.ResultsLawful.openBeat s.sources (h.values (t := s.numbered) (by simp [State.ageSlots]) rfl)).congr rfl rfl
  flush {s} h := ⟨h.slots, State.SumsBounded.flush h.sums⟩
  wake _ _ h := State.ResultsLawful.openBeat _ (h.values (by simp) (by simp))
  raise e h := ⟨by simpa using h.slots, State.SumsBounded.raiseEntry e h.sums⟩
  complete {s} raw h := by
    unfold State.complete
    dsimp only
    (repeat' split)
    · exact h
    · exact State.ResultsLawful.takeNext (h.congr rfl rfl)
    · exact State.ResultsLawful.takeNext (State.ResultsLawful.deliverSample _ _ (h.congr rfl rfl))
  bytes l h := by
    refine State.bytesUp_keeps (P := State.ResultsLawful) (fun l h => h.congr rfl rfl) (fun {t} h => h.congr (by simp) (by simp))
      (fun n h => h.values (fun k => ?_) rfl) (fun h => h.congr rfl rfl) l h
    simp only [State.clearFresh, Bank.get_mapIdx]
    split <;> rfl

theorem State.ResultsLawful.carryOut {s : State} (a : Action) (h : s.ResultsLawful) : (s.carryOut a).ResultsLawful := by
  have dropped {s : State} (h : s.SumsBounded) : s.clearDrops.SumsBounded :=
    h.mapped (fun _ x => { x with drops := 0 }) (fun _ _ k => k) (fun e => by simp [State.clearDrops])
  cases a with
  | enable mask => exact h.congr (by simp [State.carryOut, State.doEnable]) (by simp [State.carryOut, State.doEnable])
  | disable mask => exact h.congr (by simp [State.carryOut, State.doDisable]) (by simp [State.carryOut, State.doDisable])
  | clear events rows flags =>
    exact State.doClear_keeps (fun _ h => h.congr (by simp) (by simp)) (fun _ h => h.congr rfl rfl) (fun _ h => h.congr rfl rfl)
      (fun h => ⟨h.slots, dropped h.sums⟩) events rows flags h
  | sync =>
    unfold State.carryOut State.doSync
    dsimp only
    (repeat' split)
    · exact h
    · exact h.congr rfl rfl
    · exact ⟨h.slots, State.SumsBounded.mapped (s := s) h.sums (fun _ => ScanEntry.restart) (fun _ _ _ => Nat.zero_le _)
        (fun e => by simp [State.meetBoundary])⟩
    · exact h.congr (by simp [State.schedule]) (by simp [State.schedule])
  | wake =>
    unfold State.carryOut State.doWake State.applyIf
    dsimp only
    (repeat' split) <;> first | exact h | exact h.congr (by simp [State.schedule]) (by simp [State.schedule])
  | standby =>
    exact ⟨h.slots, State.SumsBounded.mapped (s := s) h.sums (fun _ x => { x.restart with planned := none }) (fun _ _ _ => Nat.zero_le _)
      (fun e => by simp [State.carryOut, State.doStandby, State.takeLatches, State.dropBeatDue, State.dropPlan, State.flush])⟩
  | resetFull =>
    exact ⟨fun n => by simp [State.carryOut, State.doResetFull, Slot.atReset],
      fun e => by simp [State.carryOut, State.doResetFull, State.stopConditioner, State.resetScan, ScanEntry.atReset]⟩
  | resetUnits =>
    exact ⟨by simpa [State.carryOut, State.doResetUnits, State.passCauses] using h.slots,
      State.SumsBounded.congr (State.SumsBounded.flush h.sums) (by simp [State.carryOut, State.doResetUnits, State.passCauses])⟩
  | _ => exact h.congr rfl rfl

/-- Settles O6. -/
theorem resultLawKept : Obligations.ResultLawKept := by
  unfold Obligations.ResultLawKept
  intro s t h e
  refine step_keeps (P := State.ResultsLawful) (fun i {s t} e h => ?_) (fun q => resultsClosed.quiet q) (fun {s} h => ?_) h e
  · refine resultsClosed.exec i e (fun _ _ _ => ⟨fun n => ?_, fun k => ?_⟩) (fun _ _ h => ?_) (fun a _ {s} h => h.carryOut a) h
    · simp [State.takeReset, Slot.atReset]
    · simp [State.takeReset, Scan.atReset, ScanEntry.atReset]
    · exact h.congr (by simp [State.msTick, State.tickCounts, State.wrapDivider])
        (by simp [State.msTick, State.tickCounts, State.wrapDivider])
  · exact h.congr (by rw [s.tick_eq]) (by rw [s.tick_eq])

end Sys2Proof.Machine
end

section
/-! The law on on-time (R46): what a boundary computes lies within the unit's bounds, and between boundaries an on-time only goes. -/

namespace Sys2Proof.Machine

/-! ## On-times within their bounds -/

/-- An on-time of a beat of some length is 0 or within its row's bounds (R46). -/
def OnTimeWithin (row : Row) (length n : Nat) : Prop := n = 0 ∨ (unitMinOn row ≤ n ∧ n + unitMinOff row ≤ length)

theorem onTimeFor_within (row : Row) (a2 : Int) (length : Nat) : OnTimeWithin row length (onTimeFor row a2 length) := by
  unfold OnTimeWithin onTimeFor clampMinOn clampMinOff
  (repeat' split) <;> omega

/-- A boundary gives every unit an on-time within its row's bounds. -/
theorem PulseUnit.boundary_within (u : PulseUnit) (row : Row) (length : Nat) (w : Bool) (c : Option Nat) :
    OnTimeWithin row length (u.boundary row length w c).1.onTime := by
  rw [PulseUnit.boundary_fst, PulseUnit.present_onTime]
  exact PulseUnit.reckoned_cases (P := fun y => OnTimeWithin row length y.onTime) u row length w c (fun _ => .inl rfl)
    (fun _ => onTimeFor_within _ _ _) (fun _ => .inl rfl)

/-- A hold action leaves the on-time or ends it. -/
theorem PulseUnit.deliverHold_onTime (u : PulseUnit) (row : Row) (h : Hold) :
    (u.deliverHold row h).onTime = u.onTime ∨ (u.deliverHold row h).onTime = 0 := by
  unfold PulseUnit.deliverHold
  split <;> simp

/-- So does the course of a change of conditions. -/
theorem State.settle_onTime (s : State) (b : Bank Bool 31) (u : Fin 4) :
    ((s.settle b).units.get u).onTime = (s.units.get u).onTime ∨ ((s.settle b).units.get u).onTime = 0 := by
  refine State.settle_units (fun u x => x.onTime = (s.units.get u).onTime ∨ x.onTime = 0) (fun u x row h k => ?_) s b
    (fun u => .inl rfl) u
  rcases x.deliverHold_onTime row h with e | e
  · rw [e]; exact k
  · exact .inr e

namespace State.OnTimesLawful
variable {s t : State}

/-- On-times kept or ended, under the same UNIT rows and in the same beat, stay lawful. -/
theorem kept (h : s.OnTimesLawful) (rows : ∀ u, t.tables.unitRow u = s.tables.unitRow u) (length : t.beat.length = s.beat.length)
    (phase : t.phase ≠ .run → t.phase ≠ .standby → s.phase ≠ .run ∧ s.phase ≠ .standby)
    (units : ∀ u, (t.units.get u).onTime = (s.units.get u).onTime ∨ (t.units.get u).onTime = 0) : t.OnTimesLawful where
  bounded u := by
    rcases units u with e | e
    · rw [e, rows, length]; exact h.bounded u
    · exact .inl e
  silent run standby u := by
    obtain ⟨run, standby⟩ := phase run standby
    rcases units u with e | e
    · rw [e]; exact h.silent run standby u
    · exact e

/-- Blocks changed that this law does not look at. -/
theorem congr (h : s.OnTimesLawful) (active : t.service.active = s.service.active) (length : t.beat.length = s.beat.length)
    (phase : t.phase = s.phase) (units : ∀ u, (t.units.get u).onTime = (s.units.get u).onTime) : t.OnTimesLawful :=
  h.kept (fun u => by unfold State.tables; rw [active]) length (by rw [phase]; exact fun a b => ⟨a, b⟩) (fun u => .inl (units u))

/-- Where no unit has an on-time the law holds. -/
theorem zero (units : ∀ u, (t.units.get u).onTime = 0) : t.OnTimesLawful := ⟨fun u => .inl (units u), fun _ _ u => units u⟩

theorem settle (b : Bank Bool 31) (h : s.OnTimesLawful) : (s.settle b).OnTimesLawful :=
  h.kept (fun u => by simp [State.tables]) (by simp) (by rw [State.settle_phase]; exact fun a b => ⟨a, b⟩) (s.settle_onTime b)

/-- A boundary, whatever stood before it. -/
theorem openBeat (b : Bank Bool 31) (run : s.phase = .run) : (s.openBeat b).OnTimesLawful := by
  have opened (t : State) (phase : t.phase = .run) : t.computeUnits.OnTimesLawful := by
    refine ⟨fun u => ?_, fun stopped => absurd phase (by simpa using stopped)⟩
    have within := PulseUnit.boundary_within (t.units.get u) (t.tables.unitRow u) t.beat.length t.limits.warnLive (t.reflex.cap.get u)
    simpa [State.computeUnits, State.tables, OnTimeWithin] using within
  have scanned {t : State} (h : t.OnTimesLawful) : t.openScan.OnTimesLawful :=
    h.congr (by simp) (by simp) (by simp) (by simp)
  rw [s.openBeat_eq]
  exact scanned (settle _ (opened _ (by simpa using run)))

/-- A reload that ends in standby: no unit has an on-time. -/
theorem parks (b : Bank Bool 31) (silent : ∀ u, (s.units.get u).onTime = 0) : (s.parkAfterLoad b).OnTimesLawful := by
  unfold State.parkAfterLoad State.applyIf
  dsimp only
  generalize settled : State.settle _ b = t
  have lawful : t.OnTimesLawful := by
    rw [← settled]
    exact settle b (zero silent)
  split
  · exact lawful.congr (by simp) (by simp) (by simp) (by simp)
  · exact lawful

theorem endLoad (k : Byte) (h : s.OnTimesLawful) : (s.endLoad k).OnTimesLawful := by
  unfold State.endLoad
  dsimp only
  split
  · next loads =>
    obtain ⟨run, standby⟩ := s.loads_iff.mp loads
    split
    · exact parks _ (h.silent run standby)
    · exact openBeat _ rfl
  · exact h

end State.OnTimesLawful

/-- The active copies' UNIT rows are not those a SLOT mark takes. -/
theorem State.takeMarks_slot_unitRow (s : State) (u : Fin 4) : (s.takeMarks 1#9).tables.unitRow u = s.tables.unitRow u := by
  have taken : (s.takeMarks 1#9).tables = s.service.active.set .slot (s.service.shadow.get .slot) := by
    simp [State.tables, State.takeMarks, takeShadow, TableId.inOrder, inSet, TableId.code]
  rw [taken]
  rfl

theorem onTimesClosed : EventClosed State.OnTimesLawful where
  quiet q h := h.congr q.active q.length q.phase (fun u => by rw [q.units])
  settle b h := h.settle b
  latch _ h := h.congr (by simp) (by simp) (by simp) (by simp)
  cause _ h := h.congr (by simp) (by simp) (by simp) (by simp)
  units v same h := h.congr rfl rfl rfl same
  load k h := h.endLoad k
  next {s} run h := by
    rw [s.nextBeat_frame]
    exact (State.OnTimesLawful.openBeat (s := s.numbered) s.sources run).congr rfl rfl rfl (fun _ => rfl)
  flush h := h.congr rfl rfl rfl (fun _ => rfl)
  wake _ _ _ := State.OnTimesLawful.openBeat _ (by simp)
  raise _ h := h.congr (by simp) (by simp) (by simp) (by simp)
  complete {s} raw h := by
    have stored {s : State} (n : Fin 26) (v : Nat) (h : s.OnTimesLawful) : (s.storeResult n v).OnTimesLawful := by
      have fold (x : PulseUnit) (row : Row) : (x.foldResult row v).onTime = x.onTime := by
        unfold PulseUnit.foldResult PulseUnit.foldAbove PulseUnit.foldBelow
        (repeat' split) <;> rfl
      unfold State.storeResult
      refine State.OnTimesLawful.settle _ (h.congr (by simp) (by simp) (by simp) (fun u => ?_))
      simp only [State.storeToUnits, State.storeToChecks_units, State.storeToLimits_units, Bank.get_mapIdx]
      split
      · exact fold _ _
      · rfl
    have delivered {s : State} (r : ScanRequest) (h : s.OnTimesLawful) : (s.deliverSample r raw).OnTimesLawful := by
      unfold State.deliverSample State.addSample
      dsimp only
      (repeat' split) <;> first | exact stored _ _ (h.congr rfl rfl rfl (fun _ => rfl)) | exact h.congr rfl rfl rfl (fun _ => rfl)
    have taken {s : State} (h : s.OnTimesLawful) : s.takeNext.OnTimesLawful := h.congr (by simp) (by simp) (by simp) (by simp)
    unfold State.complete
    dsimp only
    (repeat' split)
    · exact h
    · exact taken (h.congr rfl rfl rfl (fun _ => rfl))
    · exact taken (delivered _ (h.congr rfl rfl rfl (fun _ => rfl)))
  bytes l h := by
    refine State.bytesUp_keeps (P := State.OnTimesLawful) (fun l h => h.congr rfl rfl rfl (fun _ => rfl)) (fun {t} h => ?_)
      (fun n h => h.congr rfl rfl rfl (fun _ => rfl)) (fun h => h.congr rfl rfl rfl (fun _ => rfl)) l h
    unfold State.slotSwap
    split
    · exact h.kept t.takeMarks_slot_unitRow (by simp) (by rw [State.takeMarks_phase]; exact fun a b => ⟨a, b⟩) (by simp)
    · exact h

theorem State.OnTimesLawful.carryOut {s : State} (a : Action) (h : s.OnTimesLawful) : (s.carryOut a).OnTimesLawful := by
  cases a with
  | enable mask =>
    refine State.OnTimesLawful.settle _ (h.kept (fun _ => rfl) rfl (fun a b => ⟨a, b⟩) (fun u => ?_))
    simp only [Bank.get_mapIdx]
    split
    · by_cases off : (s.units.get u).state = .off
      · rw [PulseUnit.enableUnit_off off]; exact .inr (by simp [PulseUnit.enabled])
      · rw [PulseUnit.enableUnit_on off]; exact .inl rfl
    · exact .inl rfl
  | disable mask =>
    refine State.OnTimesLawful.settle _ (h.kept (fun _ => rfl) rfl (fun a b => ⟨a, b⟩) (fun u => ?_))
    simp only [State.requalify_units, Bank.get_mapIdx, PulseUnit.disableUnit]
    (repeat' split) <;> simp
  | clear events rows flags =>
    exact State.doClear_keeps (fun b h => h.settle b) (fun _ h => h.congr rfl rfl rfl (fun _ => rfl))
      (fun _ h => h.congr rfl rfl rfl (fun _ => rfl)) (fun h => h.congr rfl rfl rfl (fun _ => rfl)) events rows flags h
  | sync =>
    unfold State.carryOut State.doSync
    dsimp only
    (repeat' split)
    · exact h
    · exact h.congr rfl rfl rfl (fun _ => rfl)
    · exact h.congr rfl rfl rfl (fun _ => rfl)
    · exact h.congr (by simp [State.schedule]) (by simp [State.schedule]) (by simp [State.schedule]) (by simp [State.schedule])
  | wake =>
    unfold State.carryOut State.doWake State.applyIf
    dsimp only
    (repeat' split) <;>
      first | exact h |
        exact h.congr (by simp [State.schedule]) (by simp [State.schedule]) (by simp [State.schedule]) (by simp [State.schedule])
  | standby =>
    refine h.kept (fun _ => rfl) rfl (fun run standby => ?_) (fun _ => .inl rfl)
    simp only [State.carryOut, State.doStandby] at run standby
    cases phase : s.phase <;> simp_all
  | resetFull => exact .zero fun u => by simp [State.carryOut, State.doResetFull]
  | resetUnits =>
    refine State.OnTimesLawful.settle _ (.zero fun u => ?_)
    simp [State.passCauses]
  | _ => exact h.congr rfl rfl rfl (fun _ => rfl)

/-- Settles O3. -/
theorem onTimeLawKept : Obligations.OnTimeLawKept := by
  unfold Obligations.OnTimeLawKept
  intro s t h e
  refine step_keeps (P := State.OnTimesLawful) (fun i {s t} e h => ?_) (fun q => onTimesClosed.quiet q) (fun {s} h => ?_) h e
  · refine onTimesClosed.exec i e (fun _ _ _ => .zero fun u => by simp [State.takeReset]) (fun _ _ h => ?_)
      (fun a _ {s} h => h.carryOut a) h
    refine h.congr (by simp [State.msTick, State.tickCounts, State.wrapDivider]) (by simp [State.msTick, State.tickCounts, State.wrapDivider])
      (by simp [State.msTick, State.tickCounts, State.wrapDivider]) (fun u => ?_)
    simp only [State.msTick, State.markFirst_units, State.tickCounts, State.tickUnits, State.wrapDivider, Bank.get_map, Bank.get_mapIdx,
      PulseUnit.msTick, PulseUnit.brakeTick, PulseUnit.zeroTick]
    (repeat' split) <;> rfl
  · exact h.congr (by rw [s.tick_eq]) (by rw [s.tick_eq]) (by rw [s.tick_eq]) (fun u => by rw [s.tick_unit]; rfl)

end Sys2Proof.Machine
end

section
/-! Swap marks taking effect (R151), block by block: what each swap makes of its owner, and what it leaves. -/

namespace Sys2Proof.Machine

/-! ## Tables -/

theorem Tables.get_set (t : Tables) (a b : TableId) (rows : List Row) : (t.set a rows).get b = if b = a then rows else t.get b := by
  cases a <;> cases b <;> rfl

/-- A table taken from the shadow where the set names it. -/
theorem takeShadow_get (active shadow : Tables) (set : BitVec 9) (id : TableId) :
    (takeShadow active shadow set).get id = if inSet set id then shadow.get id else active.get id := by
  have folded (l : List TableId) (t : Tables) :
      (l.foldl (fun t id => if inSet set id then t.set id (shadow.get id) else t) t).get id =
        if id ∈ l ∧ inSet set id = true then shadow.get id else t.get id := by
    induction l generalizing t with
    | nil => simp
    | cons a l ih =>
      rw [List.foldl_cons, ih]
      by_cases later : id ∈ l ∧ inSet set id = true
      · rw [if_pos later, if_pos ⟨List.mem_cons_of_mem a later.1, later.2⟩]
      · rw [if_neg later]
        by_cases here : id = a
        · subst here
          by_cases named : inSet set id = true
          · rw [if_pos named, if_pos ⟨List.mem_cons_self, named⟩, Tables.get_set, if_pos rfl]
          · rw [if_neg named, if_neg (fun h => named h.2)]
        · have out : ¬(id ∈ a :: l ∧ inSet set id = true) := fun h => later ⟨(List.mem_cons.mp h.1).resolve_left here, h.2⟩
          rw [if_neg out]
          split
          · rw [Tables.get_set, if_neg here]
          · rfl
  have every : id ∈ TableId.inOrder := by cases id <;> simp [TableId.inOrder]
  unfold takeShadow
  rw [folded, if_congr (and_iff_right every) rfl rfl]

/-- The marks that take effect at a boundary: every one but SLOT's. -/
theorem inSet_beatMarks (marks : BitVec 9) (id : TableId) :
    inSet (beatMarks marks) id = (decide (id ≠ .slot) && marks.getLsbD id.code) := by
  unfold inSet beatMarks
  rw [BitVec.getLsbD_and]
  cases id <;> simp [TableId.code]

/-- A table not in the set keeps its rows. -/
theorem takeShadow_row (active shadow : Tables) (set : BitVec 9) {id : TableId} (out : inSet set id = false) (i : Nat) :
    (takeShadow active shadow set).row id i = active.row id i := by
  rw [Tables.row, takeShadow_get, out]
  rfl

/-! ## The swaps but REFLEX -/

/-- The part with every mark but SLOT's taken, before its reflex rows are decided: their decision reads it (R126). -/
def State.swapOwners (s : State) : State :=
  let set := beatMarks s.service.marks
  (((((s.takeMarks set).applyIf (inSet set .scan) State.flush).applyIf (inSet set .limit) State.swapLimits).applyIf
    (inSet set .unit) State.swapUnits).applyIf (inSet set .input) State.swapInputs).applyIf (inSet set .safe) State.swapSafe

theorem State.takeSwaps_eq (s : State) : s.takeSwaps =
    s.swapOwners.applyIf (inSet (beatMarks s.service.marks) .reflex) fun t => t.decideRows s.service.active := rfl

section
variable (s : State)

/-- A block that no swap but one changes. -/
theorem State.swapOwners_field {α : Type} (g : State → α) (flush : ∀ t, g (State.flush t) = g t)
    (limits : ∀ t, g (State.swapLimits t) = g t) (units : ∀ t, g (State.swapUnits t) = g t) (inputs : ∀ t, g (State.swapInputs t) = g t)
    (safe : ∀ t, g (State.swapSafe t) = g t) : g s.swapOwners = g (s.takeMarks (beatMarks s.service.marks)) := by
  unfold State.swapOwners
  dsimp only
  rw [State.applyIf_field _ g _ _ (safe _), State.applyIf_field _ g _ _ (inputs _), State.applyIf_field _ g _ _ (units _),
    State.applyIf_field _ g _ _ (limits _), State.applyIf_field _ g _ _ (flush _)]

@[simp] theorem State.swapOwners_service : s.swapOwners.service = (s.takeMarks (beatMarks s.service.marks)).service :=
  s.swapOwners_field State.service (fun _ => rfl) (fun _ => rfl) (fun _ => rfl) (fun _ => rfl) (fun _ => rfl)

@[simp] theorem State.swapOwners_reflex : s.swapOwners.reflex = s.reflex :=
  (s.swapOwners_field State.reflex (fun _ => rfl) (fun _ => rfl) (fun _ => rfl) (fun _ => rfl) (fun _ => rfl)).trans (by simp)

@[simp] theorem State.swapOwners_phase : s.swapOwners.phase = s.phase :=
  (s.swapOwners_field State.phase (fun _ => rfl) (fun _ => rfl) (fun _ => rfl) (fun _ => rfl) (fun _ => rfl)).trans (by simp)

@[simp] theorem State.swapOwners_contacts : s.swapOwners.contacts = s.contacts :=
  (s.swapOwners_field State.contacts (fun _ => rfl) (fun _ => rfl) (fun _ => rfl) (fun _ => rfl) (fun _ => rfl)).trans (by simp)

/-- A LIMIT swap (R112) and a SAFE swap (R113) change the limit watch, nothing else does. -/
@[simp] theorem State.swapOwners_limits : s.swapOwners.limits = { s.limits with
    rows := if inSet (beatMarks s.service.marks) .limit then Bank.all 16 LimitRow.atReset else s.limits.rows
    supplyLow := if inSet (beatMarks s.service.marks) .safe then 0 else s.limits.supplyLow } := by
  unfold State.swapOwners
  dsimp only
  unfold State.applyIf
  simp only [apply_ite State.limits, State.swapSafe, State.swapInputs_limits, State.swapUnits_limits, State.swapLimits,
    State.flush_limits, State.takeMarks_limits, ite_self]
  (repeat' split) <;> rfl

/-- A UNIT swap clears the fold-back counts of all units (R55). -/
@[simp] theorem State.swapOwners_units :
    s.swapOwners.units = if inSet (beatMarks s.service.marks) .unit then s.units.map PulseUnit.clearFold else s.units := by
  unfold State.swapOwners
  dsimp only
  unfold State.applyIf
  simp only [apply_ite State.units, State.swapSafe, State.swapInputs_units, State.swapUnits, State.swapLimits_units,
    State.flush_units, State.takeMarks_units, ite_self]

/-- An INPUT swap makes the stall timers idle and releases STn (R101). -/
@[simp] theorem State.swapOwners_rotation : s.swapOwners.rotation = if inSet (beatMarks s.service.marks) .input then
    s.rotation.map (fun x => { x with stallTimer := none, stalled := false }) else s.rotation := by
  unfold State.swapOwners
  dsimp only
  unfold State.applyIf
  simp only [apply_ite State.rotation, State.swapSafe, State.swapInputs, State.swapUnits_rotation, State.swapLimits_rotation,
    State.flush_rotation, State.takeMarks_rotation, ite_self]

theorem State.takeMarks_mask (w : BitVec 9) : (s.takeMarks w).status.mask = s.status.mask := by simp [State.takeMarks]

/-- A SAFE swap takes the report mask from the table (R130); the swaps but REFLEX set TABLES_SWAPPED and no other event. -/
@[simp] theorem State.swapOwners_status : s.swapOwners.status = { (s.takeMarks (beatMarks s.service.marks)).status with
    mask := if inSet (beatMarks s.service.marks) .safe then safeReportMask (s.takeMarks (beatMarks s.service.marks)).tables.safeRow
      else s.status.mask } := by
  have tables (t : State) (h : t.service = (s.takeMarks (beatMarks s.service.marks)).service) :
      t.tables = (s.takeMarks (beatMarks s.service.marks)).tables := by unfold State.tables; rw [h]
  unfold State.swapOwners
  dsimp only
  generalize before : State.applyIf (State.applyIf _ _ _) (inSet (beatMarks s.service.marks) .input) State.swapInputs = t
  have status : t.status = (s.takeMarks (beatMarks s.service.marks)).status := by
    rw [← before]
    unfold State.applyIf
    simp only [apply_ite State.status, State.swapInputs_status, State.swapUnits_status, State.swapLimits_status, State.flush_status,
      ite_self]
  have service : t.service = (s.takeMarks (beatMarks s.service.marks)).service := by
    rw [← before]
    unfold State.applyIf
    simp only [apply_ite State.service, State.swapInputs_service, State.swapUnits_service, State.swapLimits_service, State.flush_service,
      ite_self]
  unfold State.applyIf
  split
  · rw [State.swapSafe, status, tables t service]
  · rw [status, ← s.takeMarks_mask (beatMarks s.service.marks)]

/-! ## All swaps -/

theorem State.takeSwaps_field {α : Type} (g : State → α) (rows : ∀ t o, g (State.decideRows t o) = g t) :
    g s.takeSwaps = g s.swapOwners := by
  rw [s.takeSwaps_eq]
  exact State.applyIf_field _ g _ _ (rows _ _)

theorem State.takeSwaps_service : s.takeSwaps.service = (s.takeMarks (beatMarks s.service.marks)).service :=
  (s.takeSwaps_field State.service (by simp)).trans (by simp)

theorem State.takeSwaps_limits : s.takeSwaps.limits = { s.limits with
    rows := if inSet (beatMarks s.service.marks) .limit then Bank.all 16 LimitRow.atReset else s.limits.rows
    supplyLow := if inSet (beatMarks s.service.marks) .safe then 0 else s.limits.supplyLow } :=
  (s.takeSwaps_field State.limits (by simp)).trans (by simp)

theorem State.takeSwaps_units :
    s.takeSwaps.units = if inSet (beatMarks s.service.marks) .unit then s.units.map PulseUnit.clearFold else s.units :=
  (s.takeSwaps_field State.units (by simp)).trans (by simp)

theorem State.takeSwaps_rotation : s.takeSwaps.rotation = if inSet (beatMarks s.service.marks) .input then
    s.rotation.map (fun x => { x with stallTimer := none, stalled := false }) else s.rotation :=
  (s.takeSwaps_field State.rotation (by simp)).trans (by simp)

/-- The active copies after the swaps: those in the set from the shadow. -/
theorem State.takeSwaps_tables_get (id : TableId) : s.takeSwaps.tables.get id =
    if id ≠ .slot ∧ s.service.marks.getLsbD id.code = true then s.service.shadow.get id else s.tables.get id := by
  have taken : s.takeSwaps.tables = takeShadow s.service.active s.service.shadow (beatMarks s.service.marks) := by
    unfold State.tables
    rw [s.takeSwaps_service]
    simp [State.takeMarks]
  rw [taken, takeShadow_get, inSet_beatMarks]
  simp [State.tables]

/-- A source stands alike before and after the rows are decided. -/
theorem State.takeSwaps_sourceActive (i : Fin 31) : s.takeSwaps.sourceActive i = s.swapOwners.sourceActive i := by
  unfold State.sourceActive State.contactActive State.conditionerRunning State.tables
  rw [s.takeSwaps_field State.limits (by simp), s.takeSwaps_field State.contacts (by simp), s.takeSwaps_field State.rotation (by simp),
    s.takeSwaps_field State.units (by simp), s.takeSwaps_field State.phase (by simp), s.takeSwaps_field State.service (by simp)]

/-- A reflex row after the swaps: decided afresh at a REFLEX swap (R126), else as it was. -/
theorem State.takeSwaps_row (n : Fin 16) : s.takeSwaps.reflex.rows.get n =
    if inSet (beatMarks s.service.marks) .reflex then
      ((s.reflex.rows.get n).swapDecide (s.tables.reflexRow n) (s.takeSwaps.tables.reflexRow n)
        (s.takeSwaps.sourceActive (reflexSource (s.takeSwaps.tables.reflexRow n)))).1
    else s.reflex.rows.get n := by
  have tables : s.takeSwaps.tables = s.swapOwners.tables := s.takeSwaps_field State.tables (by simp [State.tables])
  rw [s.takeSwaps_sourceActive, tables, s.takeSwaps_eq, State.applyIf]
  split
  · rw [State.decideRows]
    simp only [State.latchIf_reflex, Bank.get_tabulate, State.swapOwners_reflex]
    rfl
  · rw [s.swapOwners_reflex]

/-- Without a REFLEX swap the reflex rows' table entries stand. -/
theorem State.takeSwaps_reflexRow (out : inSet (beatMarks s.service.marks) .reflex = false) (n : Fin 16) :
    s.takeSwaps.tables.reflexRow n = s.tables.reflexRow n := by
  rw [inSet_beatMarks] at out
  rw [Tables.reflexRow, Tables.row, s.takeSwaps_tables_get, if_neg (fun h => by rw [h.2] at out; simp at out)]
  rfl

end

end Sys2Proof.Machine
end

section
/-! Every step ends settled (R99, R109, R122, R123), and no unit is left driving in the safe state (R127). -/

namespace Sys2Proof.Machine

/-! ## The counts of a millisecond tick -/

section
variable (s : State) (k : Byte)

/-- The contacts sample the levels given, while the conditioner runs (R90). -/
theorem State.msTick_contact (c : Fin 8) : (s.msTick k).contacts.get c = if s.conditionerRunning then
    ((s.contacts.get c).sample (k.getLsbD c) (contactDebounce (s.tables.contactRow c))).1 else s.contacts.get c := by
  have sampled : (s.msTick k).contacts.get c = ((s.wrapDivider k).sampleContacts.get c).1 := Bank.get_map _ _ _
  rw [sampled, State.sampleContacts, Bank.get_mapIdx]
  exact apply_ite Prod.fst _ _ _

/-- The rotation inputs count, while the conditioner runs (R98, R99). -/
theorem State.msTick_rotation (r : Fin 3) : (s.msTick k).rotation.get r = if s.conditionerRunning then
    ((s.rotation.get r).msTick (rotationStallWindow (s.tables.rotationRow r))).1 else s.rotation.get r := by
  have counted : (s.msTick k).rotation.get r = ((s.wrapDivider k).tickRotations.get r).1 := Bank.get_map _ _ _
  rw [counted, State.tickRotations, Bank.get_mapIdx]
  exact apply_ite Prod.fst _ _ _

/-- The units count (R26, R30, R31). -/
theorem State.msTick_unit (u : Fin 4) : (s.msTick k).units.get u = ((s.units.get u).msTick (s.tables.unitRow u)).1 := by
  have counted : (s.msTick k).units.get u = ((s.wrapDivider k).tickUnits.get u).1 := Bank.get_map _ _ _
  rw [counted, State.tickUnits, Bank.get_mapIdx]
  rfl

end

/-! ## States with the same conditions -/

/-- The conditions of `t`, and everything that follows them, are those of `s`. -/
structure State.Alike (s t : State) : Prop where
  running : t.conditionerRunning = s.conditionerRunning
  limitRow : ∀ n, t.tables.limitRow n = s.tables.limitRow n
  reflexRow : ∀ n, t.tables.reflexRow n = s.tables.reflexRow n
  unitRow : ∀ u, t.tables.unitRow u = s.tables.unitRow u
  contactRow : ∀ c, t.tables.contactRow c = s.tables.contactRow c
  rotationRow : ∀ r, t.tables.rotationRow r = s.tables.rotationRow r
  reflex : t.reflex = s.reflex
  limits : t.limits.rows = s.limits.rows
  filtered : ∀ c, (t.contacts.get c).filtered = (s.contacts.get c).filtered
  rotation : ∀ r, (t.rotation.get r).stallTimer.isSome = (s.rotation.get r).stallTimer.isSome ∧
    (t.rotation.get r).stalled = (s.rotation.get r).stalled
  units : ∀ u, (t.units.get u).state = (s.units.get u).state ∧ (t.units.get u).applied = (s.units.get u).applied ∧
    (t.units.get u).exhausted = (s.units.get u).exhausted

/-- Blocks changed that no condition looks at. -/
theorem State.Alike.of_blocks {s t : State} (phase : t.phase = s.phase) (active : t.service.active = s.service.active)
    (reflex : t.reflex = s.reflex) (limits : t.limits.rows = s.limits.rows) (contacts : t.contacts = s.contacts)
    (rotation : t.rotation = s.rotation) (units : t.units = s.units) : s.Alike t := by
  constructor <;> simp [State.conditionerRunning, State.tables, phase, active, reflex, limits, contacts, rotation, units]

/-- One unit changed in nothing that a condition, a hold or a qualification looks at. -/
theorem State.Alike.setUnit (s : State) (u : Fin 4) {x : PulseUnit} (state : x.state = (s.units.get u).state)
    (applied : x.applied = (s.units.get u).applied) (exhausted : x.exhausted = (s.units.get u).exhausted) : s.Alike (s.setUnit u x) := by
  refine ⟨rfl, fun _ => rfl, fun _ => rfl, fun _ => rfl, fun _ => rfl, fun _ => rfl, rfl, rfl, fun _ => rfl, fun _ => ⟨rfl, rfl⟩,
    fun v => ?_⟩
  have set : (s.setUnit u x).units.get v = if v = u then x else s.units.get v := Bank.get_set _ _ _ _
  rw [set]
  split
  · next e => rw [e]; exact ⟨state, applied, exhausted⟩
  · exact ⟨rfl, rfl, rfl⟩

namespace State.Alike
variable {s t : State} (a : s.Alike t)
include a

theorem sourceActive (i : Fin 31) : t.sourceActive i = s.sourceActive i := by
  unfold State.sourceActive State.contactActive
  rw [a.running, a.limits, a.filtered, a.contactRow, (a.rotation _).2, (a.units _).2.2]

theorem limitQualified (n : Fin 16) : t.limitQualified n = s.limitQualified n := by
  unfold State.limitQualified PulseUnit.drivesAtLeast
  simp only [a.running, a.limitRow, a.units]

theorem stallQualified (r : Fin 3) : t.stallQualified r = s.stallQualified r := by
  unfold State.stallQualified PulseUnit.drivesAtLeast
  simp only [a.running, a.rotationRow, a.units]

theorem activeRows : t.activeRows = s.activeRows := by unfold State.activeRows; rw [a.reflex]

theorem holdOf (u : Fin 4) : t.holdOf u = s.holdOf u := by
  unfold State.holdOf State.safeHold State.safeActive
  simp only [a.activeRows, a.reflexRow, a.unitRow, a.reflex]

theorem capOf (u : Fin 4) : t.capOf u = s.capOf u := by
  unfold State.capOf
  simp only [a.activeRows, a.reflexRow]

end State.Alike

namespace State.Settled
variable {s t : State}

/-- A state with the conditions of a settled one is settled. -/
theorem alike (h : s.Settled) (a : s.Alike t) : t.Settled := by
  obtain ⟨rows, ⟨obeyed, kept, capped⟩, qualified, unqualified, timed, untimed⟩ := h
  refine ⟨fun n => ?_, ⟨fun u => ?_, fun u => ?_, fun u => ?_⟩, fun n => ?_, fun n => ?_, fun r => ?_, fun r => ?_⟩
  · rw [a.reflex, a.reflexRow, a.sourceActive]; exact rows n
  · have obeys : (t.units.get u).obeys = (s.units.get u).obeys := by
      funext h
      unfold PulseUnit.obeys
      rw [(a.units u).1]
    rw [obeys, a.holdOf]; exact obeyed u
  · rw [a.reflex, a.holdOf]; exact kept u
  · rw [a.reflex, a.capOf]; exact capped u
  · rw [a.limits, a.limitQualified]; exact qualified n
  · rw [a.limits, a.limitQualified]; exact unqualified n
  · rw [(a.rotation r).1, a.stallQualified]; exact timed r
  · rw [(a.rotation r).2, a.stallQualified]; exact untimed r

/-- A limit row that is not qualified is as after reset. -/
theorem fresh (h : s.Settled) (n : Fin 16) (q : (s.limits.rows.get n).qualified = false) : s.limits.rows.get n = LimitRow.atReset :=
  h.unqualified n ((h.qualified n).symm.trans q)

/-- An enabled row whose source is active is active. -/
theorem active (h : s.Settled) (n : Fin 16) (enabled : reflexEnabled (s.tables.reflexRow n) = true)
    (on : s.sourceActive (reflexSource (s.tables.reflexRow n)) = true) : (s.reflex.rows.get n).active = true := by
  have agrees := h.rows n
  rw [ReflexRow.agrees, if_pos enabled, on] at agrees
  simp only [Bool.not_true, Bool.false_or, Bool.and_eq_true] at agrees
  exact agrees.1

/-- An event that leaves the rows and their table entries as they were ends settled after its course. -/
theorem followed (h : s.Settled) (rows : t.reflex.rows = s.reflex.rows) (tables : ∀ n, t.tables.reflexRow n = s.tables.reflexRow n)
    (reset : ∀ n, (t.limits.rows.get n).qualified = false → t.limits.rows.get n = LimitRow.atReset) : (t.settle s.sources).Settled := by
  refine State.settle_settled t s.sources (fun n enabled was _ => ?_) reset
  rw [tables] at enabled was
  rw [rows]
  exact h.active n enabled ((s.sources_get _).symm.trans was)

/-- While a safe cause is set no unit is left driving. -/
theorem idle (h : s.Settled) (safe : s.safeActive = true) (u : Fin 4) : (s.units.get u).state.driving = false := by
  have held : s.holdOf u ≠ .none := fun none => by
    have unheld := ((s.holdOf_none u).mp none).1
    rw [State.safeHold, if_pos safe] at unheld
    split at unheld <;> nomatch unheld
  have obeys := h.holds.obeyed u
  unfold PulseUnit.obeys at obeys
  cases state : (s.units.get u).state <;> simp_all [UnitState.driving]

end State.Settled

/-- The comparison of a pin leaves the stall timers. -/
theorem State.comparePin_timers (s : State) (r q : Fin 3) : ((s.comparePin r).rotation.get q).stallTimer = (s.rotation.get q).stallTimer ∧
    ((s.comparePin r).rotation.get q).stalled = (s.rotation.get q).stalled := by
  rw [s.comparePin_get]
  split
  · next e =>
    rw [State.compared, e]
    split
    · rw [((s.rotation.get r).compare_cases _ _).1]
      exact ⟨rfl, rfl⟩
    · exact ⟨rfl, rfl⟩
  · exact ⟨rfl, rfl⟩

theorem State.tick_timers (s : State) (r : Fin 3) : (s.tick.rotation.get r).stallTimer = (s.rotation.get r).stallTimer ∧
    (s.tick.rotation.get r).stalled = (s.rotation.get r).stalled := by
  have kept (l : List (Fin 3)) (t : State) : ((l.foldl State.comparePin t).rotation.get r).stallTimer = (t.rotation.get r).stallTimer ∧
      ((l.foldl State.comparePin t).rotation.get r).stalled = (t.rotation.get r).stalled := by
    induction l generalizing t with
    | nil => exact ⟨rfl, rfl⟩
    | cons q l ih => exact ⟨(ih _).1.trans (t.comparePin_timers q r).1, (ih _).2.trans (t.comparePin_timers q r).2⟩
  have pins := kept (List.finRange 3) s.tickedTimers
  have before : s.tickedTimers.rotation = s.rotation := by rw [s.tickedTimers_eq]
  rw [before] at pins
  rw [s.tick_eq]
  exact pins

/-! ## Boundaries -/

/-- The drive computation leaves the fold-back counts. -/
theorem PulseUnit.compute_fold (u : PulseUnit) (row : Row) (n : Nat) (w : Bool) (c : Option Nat) :
    (u.compute row n w c).foldLevel = u.foldLevel ∧ (u.compute row n w c).exhausted = u.exhausted := by
  unfold PulseUnit.compute PulseUnit.place PulseUnit.rampAndDecide
  dsimp only
  (repeat' split) <;> simp

/-- A boundary leaves the fold-back counts. -/
theorem PulseUnit.boundary_fold (u : PulseUnit) (row : Row) (n : Nat) (w : Bool) (c : Option Nat) :
    (u.boundary row n w c).1.foldLevel = u.foldLevel ∧ (u.boundary row n w c).1.exhausted = u.exhausted := by
  obtain ⟨t, f, pend⟩ := u.applyPending_frame
  rw [PulseUnit.boundary_fst, PulseUnit.present_foldLevel, PulseUnit.present_exhausted]
  refine PulseUnit.reckoned_cases (P := fun y => y.foldLevel = u.foldLevel ∧ y.exhausted = u.exhausted) u row n w c
    (fun _ => ⟨rfl, rfl⟩) (fun _ => ?_) (fun _ => ?_)
  · obtain ⟨level, exhausted⟩ := u.applyPending.1.compute_fold row n w c
    rw [level, exhausted, pend]
    exact ⟨rfl, rfl⟩
  · rw [pend]
    exact ⟨rfl, rfl⟩

theorem State.computeUnits_get (s : State) (u : Fin 4) : s.computeUnits.units.get u =
    ((s.units.get u).boundary (s.tables.unitRow u) s.beat.length s.limits.warnLive (s.reflex.cap.get u)).1 := by
  simp [State.computeUnits]

/-- The drive computations change no source. -/
theorem State.computeUnits_sourceActive (s : State) (i : Fin 31) : s.computeUnits.sourceActive i = s.sourceActive i := by
  unfold State.sourceActive State.contactActive State.conditionerRunning State.tables
  simp only [State.computeUnits_get, (PulseUnit.boundary_fold _ _ _ _ _).2, State.computeUnits_limits, State.computeUnits_contacts,
    State.computeUnits_rotation, State.computeUnits_phase, State.computeUnits_service]

/-- With the swaps taken, a row is active wherever its source stays active. -/
theorem State.swapped_active {s : State} {b : Bank Bool 31}
    (agree : ∀ n, reflexEnabled (s.tables.reflexRow n) = true → b.get (reflexSource (s.tables.reflexRow n)) = true →
      (s.reflex.rows.get n).active = true) (n : Fin 16)
    (enabled : reflexEnabled (s.takeSwaps.tables.reflexRow n) = true)
    (was : b.get (reflexSource (s.takeSwaps.tables.reflexRow n)) = true)
    (is : s.takeSwaps.sourceActive (reflexSource (s.takeSwaps.tables.reflexRow n)) = true) :
    (s.takeSwaps.reflex.rows.get n).active = true := by
  rw [s.takeSwaps_row, is]
  by_cases swaps : inSet (beatMarks s.service.marks) .reflex = true
  · rw [if_pos swaps]
    unfold ReflexRow.swapDecide
    rw [if_neg (by simp [enabled])]
    split
    · next continuing =>
      simp only [Bool.and_eq_true, decide_eq_true_eq] at continuing
      simpa using agree n continuing.1 (continuing.2 ▸ was)
    · rfl
  · rw [if_neg swaps]
    rw [s.takeSwaps_reflexRow (by simpa using swaps)] at enabled was
    exact agree n enabled was

theorem State.swapped_sourceActive (s : State) (i : Fin 31) : s.swapped.sourceActive i = s.takeSwaps.sourceActive i := rfl

/-- A boundary ends settled, when it starts with rows active wherever `b` has their source active. -/
theorem State.openBeat_settled {s : State} {b : Bank Bool 31}
    (agree : ∀ n, reflexEnabled (s.tables.reflexRow n) = true → b.get (reflexSource (s.tables.reflexRow n)) = true →
      (s.reflex.rows.get n).active = true)
    (reset : ∀ n, (s.limits.rows.get n).qualified = false → s.limits.rows.get n = LimitRow.atReset) : (s.openBeat b).Settled := by
  have followed : (s.swapped.settle b).Settled := by
    refine State.settle_settled s.swapped b (fun n enabled was is => State.swapped_active agree n enabled was is) (fun n q => ?_)
    rw [State.swapped_limits, s.takeSwaps_limits] at q ⊢
    dsimp only at q ⊢
    split
    · simp
    · next kept => rw [if_neg kept] at q; exact reset n q
  have computed {v : State} (h : v.Settled) : (v.computeUnits.settle v.computeUnits.sources).Settled := by
    refine State.settle_settled v.computeUnits _ (fun n enabled was _ => ?_) (fun n q => ?_)
    · have tables : v.computeUnits.tables = v.tables := by simp [State.tables]
      rw [tables] at enabled was
      rw [State.sources_get, State.computeUnits_sourceActive] at was
      rw [State.computeUnits_reflex]
      exact h.active n enabled was
    · rw [State.computeUnits_limits] at q ⊢
      exact h.fresh n q
  have decided : (s.decided b).Settled := computed followed
  rw [s.openBeat_eq]
  exact decided.alike (.of_blocks (by simp) (by simp) (by simp) (by simp) (by simp) (by simp) (by simp))

namespace State.Settled
variable {s t : State}

/-- Blocks changed that no condition looks at. -/
theorem blocks (h : s.Settled) (phase : t.phase = s.phase) (active : t.service.active = s.service.active) (reflex : t.reflex = s.reflex)
    (limits : t.limits.rows = s.limits.rows) (contacts : t.contacts = s.contacts) (rotation : t.rotation = s.rotation)
    (units : t.units = s.units) : t.Settled :=
  h.alike (.of_blocks phase active reflex limits contacts rotation units)

/-! ## The commands of the beat -/

/-- Counting starvation and restarting the counts leave a row that is not qualified as after reset. -/
theorem starve_fresh (x : LimitRow) (f : Nat → Nat) (h : x = LimitRow.atReset) (d : Bool) (e : d = x.declared) :
    { x with starve := x.starve.map f, declared := d } = LimitRow.atReset := by subst h; subst e; rfl

theorem nextBeat (h : s.Settled) : s.nextBeat.Settled := by
  have opened : (s.numbered.openBeat s.sources).Settled := by
    refine State.openBeat_settled (s := s.numbered) (fun n enabled was => h.active n enabled ((s.sources_get _).symm.trans was)) (fun n q => ?_)
    simp only [State.numbered_limits, State.countStarvation, Bank.get_mapIdx] at q ⊢
    exact starve_fresh _ _ (h.fresh n q) _ rfl
  rw [s.nextBeat_frame]
  exact opened.blocks rfl rfl rfl rfl rfl rfl rfl

theorem clearDue (h : s.Settled) (e : DueEvent) : (s.clearDue e).Settled := h.blocks rfl rfl rfl rfl rfl rfl rfl

theorem markDue (h : s.Settled) (e : DueEvent) : (s.markDue e).Settled :=
  h.blocks (by simp) (by simp) (by simp) (by simp) (by simp) (by simp) (by simp)

theorem restartBoundary (h : s.Settled) : s.restartBoundary.Settled := by
  unfold State.restartBoundary
  split
  · exact nextBeat (h.blocks rfl rfl rfl rfl rfl rfl rfl)
  · exact h

theorem naturalBoundary (h : s.Settled) : s.naturalBoundary.Settled := by
  rcases s.naturalBoundary_cases with ⟨-, e⟩ | ⟨-, -, e⟩ | ⟨-, -, e⟩ <;> rw [e]
  · exact h
  · exact (h.clearDue _).restartBoundary
  · exact h.nextBeat

theorem wakeUp (h : s.Settled) (c : StartCause) : (s.wakeUp c).Settled := by
  refine State.openBeat_settled (fun n enabled was => ?_) (fun n q => ?_)
  · simpa using h.active n (by simpa [State.tables] using enabled) (by simpa [State.tables, State.sources_get] using was)
  · simp only [State.clearDue_limits, State.dropBeatDue_limits, State.latch_limits, Bank.get_map] at q ⊢
    have fresh := h.fresh n q
    rw [fresh]
    rfl

/-- With the conditioner stopped and everything else at rest, a part is settled. -/
theorem atRest (running : s.conditionerRunning = false) (reflex : s.reflex = Reflex.atReset) (limits : ∀ n, s.limits.rows.get n = LimitRow.atReset)
    (rotation : ∀ r, (s.rotation.get r).stallTimer = none ∧ (s.rotation.get r).stalled = false)
    (units : ∀ u, (s.units.get u).state = .off ∧ (s.units.get u).exhausted = false) : s.Settled := by
  have unqualified (n : Fin 16) : s.limitQualified n = false := by unfold State.limitQualified; rw [running]; rfl
  have untimed (r : Fin 3) : s.stallQualified r = false := by unfold State.stallQualified; rw [running]; rfl
  have quiet (i : Fin 31) : s.sourceActive i = false := by
    unfold State.sourceActive State.contactActive
    rw [limits, running, (rotation _).2, (units _).2]
    simp [LimitRow.atReset]
  have rows : s.activeRows = [] := by
    unfold State.activeRows
    rw [reflex]
    simp [Reflex.atReset]
  have unheld (u : Fin 4) : s.holdOf u = .none := by
    unfold State.holdOf State.safeHold State.safeActive
    rw [rows, reflex]
    rfl
  have uncapped (u : Fin 4) : s.capOf u = none := by
    unfold State.capOf
    rw [rows]
    rfl
  refine ⟨fun n => ?_, ⟨fun u => ?_, fun u => ?_, fun u => ?_⟩, fun n => ?_, fun n _ => limits n, fun r => ?_, fun r _ => (rotation r).2⟩
  · rw [quiet, reflex]
    simp [ReflexRow.agrees, Reflex.atReset]
  · rw [PulseUnit.obeys, (units u).1]
  · rw [unheld, reflex]
    simp [Reflex.atReset]
  · rw [uncapped, reflex]
    simp [Reflex.atReset]
  · rw [unqualified, limits]
    rfl
  · rw [untimed, (rotation r).1]
    rfl

theorem takeReset (s : State) (c : StartCause) : (s.takeReset c).Settled :=
  atRest rfl rfl (by simp [State.takeReset, LimitWatch.atReset]) (by simp [State.takeReset, Rotation.atReset]) (by simp [State.takeReset])

theorem endLoad (h : s.Settled) (k : Byte) : (s.endLoad k).Settled := by
  unfold State.endLoad
  dsimp only
  split
  · next loads =>
    obtain ⟨run, standby⟩ := s.loads_iff.mp loads
    have stopped : s.conditionerRunning = false := by
      rw [Bool.eq_false_iff, ne_eq, s.conditionerRunning_iff]
      exact fun h => h.elim run standby
    have reset (n : Fin 16) : s.limits.rows.get n = LimitRow.atReset :=
      h.unqualified n (by unfold State.limitQualified; rw [stopped]; rfl)
    split
    · unfold State.parkAfterLoad State.applyIf
      dsimp only
      generalize settled : State.settle _ (Bank.all 31 false) = t
      have parked : t.Settled := by
        rw [← settled]
        refine State.settle_settled _ _ (fun n _ was => ?_) (fun n _ => reset n)
        rw [Bank.get_all] at was
        nomatch was
      split
      · exact parked.markDue _
      · exact parked
    · refine State.openBeat_settled (fun n _ was => ?_) (fun n _ => ?_)
      · rw [Bank.get_all] at was
        nomatch was
      · have limits : (((((s.clearDue .loadEnd).loadProfile.startConditioner).latch .start).ageSlots).dropBeatDue).limits = s.limits := by
          simp [State.loadProfile, State.startConditioner]
        simpa [State.loadProfile, State.startConditioner] using reset n
  · exact h

/-! ## The commands of inputs, limit rows and results -/

theorem starve (h : s.Settled) (n : Fin 16) : (s.starve n).Settled := by
  unfold State.starve
  split
  · next ends =>
    have qualified : (s.limits.rows.get n).qualified = true := by
      by_contra q
      have fresh := h.fresh n (by simpa using q)
      rw [fresh] at ends
      nomatch ends.2.1
    refine h.followed (by simp) (fun _ => by simp [State.tables]) (fun k q => ?_)
    rw [State.latch_limits, State.setLimit_rows, Bank.get_set] at q ⊢
    split
    · next same =>
      rw [if_pos same] at q
      exact absurd (qualified.symm.trans q) (by simp)
    · next other =>
      rw [if_neg other] at q
      exact h.fresh k q
  · exact h

theorem changeContact (h : s.Settled) (c : Fin 8) : (s.changeContact c).Settled := by
  have followed : ((s.setContact c (s.contacts.get c).change).settle s.sources).Settled := h.followed rfl (fun _ => rfl) h.fresh
  unfold State.changeContact
  dsimp only
  (repeat' split) <;> first | exact followed.markDue _ | exact followed | exact h

theorem stallInput (h : s.Settled) (r : Fin 3) : (s.stallInput r).Settled := by
  unfold State.stallInput
  split
  · exact h.followed rfl (fun _ => rfl) h.fresh
  · exact h

theorem acceptLevel (h : s.Settled) (r : Fin 3) : (s.acceptLevel r).Settled := by
  unfold State.acceptLevel
  split
  · exact h.followed rfl (fun _ => rfl) h.fresh
  · exact h

theorem comparePin (h : s.Settled) (r : Fin 3) : (s.comparePin r).Settled := by
  refine h.alike ⟨?_, ?_, ?_, ?_, ?_, ?_, ?_, ?_, ?_, fun q => ⟨congrArg Option.isSome (s.comparePin_timers r q).1,
    (s.comparePin_timers r q).2⟩, ?_⟩ <;>
    rw [s.comparePin_eq] <;> first | rfl | exact fun _ => rfl | exact fun _ => ⟨rfl, rfl, rfl⟩

theorem expireLink (h : s.Settled) : s.expireLink.Settled := by
  unfold State.expireLink
  (repeat' split) <;> first | exact h | exact h.followed (by simp) (fun _ => by simp [State.tables]) (by simpa using h.fresh)

theorem storeResult (h : s.Settled) (n : Fin 26) (v : Nat) : (s.storeResult n v).Settled := by
  unfold State.storeResult
  dsimp only
  generalize stored : State.storeToLimits _ n v = t
  have limits (k : Fin 16) (q : (t.limits.rows.get k).qualified = false) : t.limits.rows.get k = LimitRow.atReset := by
    rw [← stored] at q ⊢
    simp only [State.storeToLimits, State.latchIf_limits, Bank.get_mapIdx] at q ⊢
    split
    · next watches =>
      rw [if_pos watches] at q
      have judged (x : LimitRow) (row : Row) (j : Judged) : (x.judge row j).1.qualified = x.qualified := by
        unfold LimitRow.judge
        (repeat' split) <;> rfl
      have received : ((s.limits.rows.get k).receive (s.tables.limitRow k) v).1.qualified = (s.limits.rows.get k).qualified := by
        unfold LimitRow.receive
        dsimp only
        split
        · exact judged _ _ _
        · rfl
      have fresh := h.fresh k (received.symm.trans q)
      have same : ({ s with slots := s.slots.set n (Slot.stored n v) } : State).limits = s.limits := rfl
      rw [same, fresh]
      rfl
    · next other => rw [if_neg other] at q; exact h.fresh k q
  have checks : (t.storeToChecks n v).limits.rows = t.limits.rows ∧ (t.storeToChecks n v).reflex.rows = t.reflex.rows := by
    unfold State.storeToChecks State.checkTemp State.checkSupply
    dsimp only
    (repeat' split) <;> simp
  have before : t.reflex = s.reflex ∧ t.service = s.service := by
    rw [← stored]
    exact ⟨by simp, by simp⟩
  refine h.followed ?_ (fun k => ?_) (fun k => ?_)
  · simp only [State.storeToUnits]
    rw [checks.2, before.1]
  · simp [State.tables, before.2]
  · simp only [State.storeToUnits]
    rw [checks.1]
    exact limits k

theorem complete (h : s.Settled) (raw : BitVec 12) : (s.complete raw).Settled := by
  have taken {s : State} (h : s.Settled) : s.takeNext.Settled := h.blocks (by simp) (by simp) (by simp) (by simp) (by simp) (by simp) (by simp)
  have delivered {s : State} (h : s.Settled) (r : ScanRequest) : (s.deliverSample r raw).Settled := by
    have entered (e : Fin 24) (x : ScanEntry) : (s.setEntry e x).Settled := h.blocks rfl rfl rfl rfl rfl rfl rfl
    unfold State.deliverSample State.addSample
    dsimp only
    split
    · split
      · exact storeResult (entered _ _) _ _
      · exact entered _ _
    · exact storeResult h _ _
    · exact storeResult h _ _
  unfold State.complete
  dsimp only
  split
  · exact h
  · next c _ =>
    generalize idle : State.setQueue { s with pins := s.pins.setAnalog c.request.input raw } s.scan.queue none = t
    have ready : t.Settled := by
      rw [← idle]
      exact h.blocks rfl rfl rfl rfl rfl rfl rfl
    split
    · exact taken ready
    · exact taken (delivered ready _)

/-! ## Actions -/

/-- A limit row brought to its qualification is as after reset where it has none. -/
theorem requalify_fresh (reset : ∀ n, (s.limits.rows.get n).qualified = false → s.limits.rows.get n = LimitRow.atReset) (n : Fin 16)
    (q : (s.requalify.limits.rows.get n).qualified = false) : s.requalify.limits.rows.get n = LimitRow.atReset := by
  simp only [State.requalify, Bank.get_mapIdx, LimitRow.requalify_qualified] at q ⊢
  rw [q]
  exact LimitRow.requalify_reset _ _ (reset n)

theorem clearRows (h : s.Settled) (mask : Word16) : (s.clearRows mask).Settled := by
  unfold State.clearRows
  dsimp only
  refine State.settle_settled _ _ (fun n enabled was _ => ?_) (fun n q => ?_)
  · simp only [State.latchIf_reflex, Bank.get_mapIdx]
    have tables (b : Bool) (r : Reflex) : (State.latchIf { s with reflex := r } b .reflexFired).tables = s.tables := by simp [State.tables]
    rw [tables] at enabled was
    rw [State.sources_get] at was
    have active := h.active n enabled was
    rw [was]
    unfold ReflexRow.cleared
    (repeat' split) <;> first | exact active | rfl | simp_all
  · rw [State.latchIf_limits] at q ⊢
    exact h.fresh n q

theorem doClear (h : s.Settled) (events rows : Word16) (flags : Byte) : (s.doClear events rows flags).Settled := by
  have dropped (t : State) (b : Bool) (h : t.Settled) : (t.applyIf b State.clearDrops).Settled := by
    unfold State.applyIf
    split
    · exact h.blocks rfl rfl rfl rfl rfl rfl rfl
    · exact h
  have passed (t : State) (b : Bool) (h : t.Settled) : (t.applyIf b fun t => t.passCauses.settle t.sources).Settled := by
    unfold State.applyIf
    split
    · exact h.followed rfl (fun _ => rfl) h.fresh
    · exact h
  unfold State.doClear
  dsimp only
  refine passed _ _ (clearRows (dropped _ _ ?_) rows)
  exact h.blocks rfl rfl rfl rfl rfl rfl rfl

theorem doStandby (h : s.Settled) : s.doStandby.Settled := by
  refine h.alike ⟨?_, fun _ => rfl, fun _ => rfl, fun _ => rfl, fun _ => rfl, fun _ => rfl, rfl, rfl, fun c => ?_, fun _ => ⟨rfl, rfl⟩,
    fun _ => ⟨rfl, rfl, rfl⟩⟩
  · unfold State.conditionerRunning State.doStandby
    cases phase : s.phase <;> simp
  · simp [State.doStandby, State.takeLatches, State.dropBeatDue, State.dropPlan]

theorem doResetUnits (h : s.Settled) : s.doResetUnits.Settled := by
  unfold State.doResetUnits
  dsimp only
  refine State.settle_settled _ _ (fun n _ was => ?_) (requalify_fresh (fun n q => ?_))
  · rw [Bank.get_all] at was
    nomatch was
  · simp only [State.latch_limits, State.passCauses, Bank.get_map] at q ⊢
    rw [h.fresh n q]
    rfl

theorem carryOut (h : s.Settled) (a : Action) : (s.carryOut a).Settled := by
  have still (b : Beat) (d : Scan) : ({ s with beat := b, scan := d } : State).Settled := h.blocks rfl rfl rfl rfl rfl rfl rfl
  cases a with
  | enable mask => exact h.followed rfl (fun _ => rfl) h.fresh
  | disable mask =>
    exact h.followed (by simp) (fun _ => by simp [State.tables])
      (requalify_fresh (s := { s with units := s.units.mapIdx fun u x => if mask.getLsbD u then x.disableUnit else x }) h.fresh)
  | clear events rows flags => exact h.doClear events rows flags
  | sync =>
    unfold State.carryOut State.doSync
    dsimp only
    (repeat' split)
    · exact h
    · exact still _ s.scan
    · exact still _ _
    · exact markDue (still _ s.scan) _
  | wake =>
    unfold State.carryOut State.doWake State.applyIf
    dsimp only
    split
    · split
      · exact markDue (still _ s.scan) _
      · exact still _ s.scan
    · exact h
  | standby => exact h.doStandby
  | resetFull =>
    exact atRest rfl rfl (by simp [State.carryOut, State.doResetFull, LimitWatch.atReset])
      (by simp [State.carryOut, State.doResetFull, State.stopConditioner, State.resetScan, Rotation.atReset])
      (by simp [State.carryOut, State.doResetFull])
  | resetUnits => exact h.doResetUnits
  | _ => exact h.blocks rfl rfl rfl rfl rfl rfl rfl

/-! ## Frames -/

theorem slotSwap (h : s.Settled) : s.slotSwap.Settled := by
  unfold State.slotSwap
  split
  · have row (id : TableId) (other : id ≠ .slot) (i : Nat) : (s.takeMarks 1#9).tables.row id i = s.tables.row id i := by
      have taken : (s.takeMarks 1#9).tables = takeShadow s.service.active s.service.shadow 1#9 := by simp [State.tables, State.takeMarks]
      rw [taken, takeShadow_row _ _ _ (by cases id <;> first | rfl | exact absurd rfl other)]
      rfl
    exact h.alike ⟨by simp [State.conditionerRunning], fun n => row .limit nofun _, fun n => row .reflex nofun _, fun u => row .unit nofun _,
      fun c => row .input nofun _, fun r => row .input nofun _, by simp, by simp, by simp, by simp, by simp⟩
  · exact h

theorem receiveUp (h : s.Settled) (l : List Byte) (n : Nat) : (s.receiveUp l n).Settled := by
  have linked {s : State} (k : Link) (h : s.Settled) : ({ s with link := k } : State).Settled := h.blocks rfl rfl rfl rfl rfl rfl rfl
  refine State.receiveUp_keeps (P := State.Settled) linked
    (fun e h => h.blocks (by simp) (by simp) (by simp) (by simp) (by simp) (by simp) (by simp))
    (fun l h => State.bytesUp_keeps (P := State.Settled) linked slotSwap (fun _ h => h.blocks rfl rfl rfl rfl rfl rfl rfl) (fun {s} h => ?_) l h)
    (fun {s} h => ?_) (fun a {s} h => h.carryOut a) l n h
  · exact h.alike ⟨rfl, fun _ => rfl, fun _ => rfl, fun _ => rfl, fun _ => rfl, fun _ => rfl, rfl, rfl,
      by simp [State.clearChanges], fun _ => ⟨rfl, rfl⟩, fun _ => ⟨rfl, rfl, rfl⟩⟩
  · refine h.alike ⟨rfl, fun _ => rfl, fun _ => rfl, fun _ => rfl, fun _ => rfl, fun _ => rfl, rfl, rfl, fun _ => rfl, fun _ => ⟨rfl, rfl⟩,
      fun u => ?_⟩
    simp only [State.commitStaging, Bank.get_mapIdx]
    split <;> exact ⟨rfl, rfl, rfl⟩

/-! ## Ticks -/

theorem msTick (h : s.Settled) (k : Byte) : (s.msTick k).Settled := by
  refine h.alike ⟨rfl, fun _ => rfl, fun _ => rfl, fun _ => rfl, fun _ => rfl, fun _ => rfl, rfl, rfl, fun c => ?_, fun r => ?_, fun u => ?_⟩
  · rw [s.msTick_contact]
    unfold Contact.sample
    (repeat' split) <;> rfl
  · rw [s.msTick_rotation]
    unfold Rotation.msTick
    dsimp only
    (repeat' split) <;> simp_all
  · rw [s.msTick_unit]
    unfold PulseUnit.msTick PulseUnit.brakeTick PulseUnit.zeroTick
    dsimp only
    (repeat' split) <;> exact ⟨rfl, rfl, rfl⟩

theorem tick (h : s.Settled) : s.tick.Settled := by
  have kept : s.tick.phase = s.phase ∧ s.tick.service = s.service ∧ s.tick.reflex = s.reflex ∧ s.tick.limits = s.limits ∧
      s.tick.contacts = s.contacts := by
    rw [s.tick_eq]
    exact ⟨rfl, rfl, rfl, rfl, rfl⟩
  obtain ⟨phase, service, reflex, limits, contacts⟩ := kept
  have tables : s.tick.tables = s.tables := by unfold State.tables; rw [service]
  exact h.alike ⟨by unfold State.conditionerRunning; rw [phase], by simp [tables], by simp [tables], by simp [tables], by simp [tables],
    by simp [tables], reflex, by rw [limits], by simp [contacts],
    fun r => ⟨congrArg Option.isSome (s.tick_timers r).1, (s.tick_timers r).2⟩, fun u => by rw [s.tick_unit]; exact ⟨rfl, rfl, rfl⟩⟩

end State.Settled

/-! ## Every command, every step -/

/-- A unit that an edge within the beat changed keeps state, applied duty and FXn. -/
theorem State.Settled.setUnit {s : State} (h : s.Settled) (u : Fin 4) {x : PulseUnit} (state : x.state = (s.units.get u).state)
    (applied : x.applied = (s.units.get u).applied) (exhausted : x.exhausted = (s.units.get u).exhausted) : (s.setUnit u x).Settled :=
  h.alike (.setUnit s u state applied exhausted)

/-- Every command ends settled. -/
theorem exec_settled (i : Instr) {s t : State} (h : s.Settled) (e : exec i s = .next t) : t.Settled := by
  have get {x y : State} (k : (Host.Outcome.next x : Host.Outcome State Fault Refusal) = .next y) : x = y := by
    injection k
  have latched {s : State} (h : s.Settled) (e : EventId) : (s.latch e).Settled :=
    h.blocks (by simp) (by simp) (by simp) (by simp) (by simp) (by simp) (by simp)
  have record (s : State) (h : s.Settled) (k p : Nat) (w : Byte) (l : List Byte) (n : Nat) : (s.serve k p w l n).Settled := by
    have answered (w : List (Option Byte)) : ({ s with answer := w } : State).Settled := h.blocks rfl rfl rfl rfl rfl rfl rfl
    exact s.serve_cases k p w l n answered (fun w a _ => (answered w).carryOut a)
  cases i <;> (have e := get e; subst e)
  case powerUp => exact (State.Settled.takeReset s .power).blocks rfl rfl rfl rfl rfl rfl rfl
  case resetPin => exact State.Settled.takeReset s _
  case profileLoadEnd => exact h.endLoad _
  case naturalBeatBoundary => exact (h.clearDue _).naturalBoundary
  case starvation => exact (h.clearDue _).starve _
  case syncRestart => exact (h.clearDue _).restartBoundary
  case millisecondTick => exact h.msTick _
  case filteredChange => exact (h.clearDue _).changeContact _
  case reversalPauseEnd pu =>
    refine (h.clearDue _).setUnit pu ?_ ?_ ?_ <;> (unfold PulseUnit.endPause; (repeat' split) <;> rfl)
  case brakeOneShotStart pu =>
    refine (h.clearDue _).setUnit pu ?_ ?_ ?_ <;> (unfold PulseUnit.startBrake; split <;> simp)
  case brakeEnd pu => exact (h.clearDue (.brakeEnd pu)).followed rfl (fun _ => rfl) (h.clearDue (.brakeEnd pu)).fresh
  case stall => exact (h.clearDue _).stallInput _
  case linkTimerExpiry => exact (h.clearDue _).expireLink
  case wakeContact =>
    show ((s.clearDue _).wakeByContact).Settled
    unfold State.wakeByContact
    (repeat' split) <;> first | exact (h.clearDue _).wakeUp _ | exact h.clearDue _
  case wakeLinkStart =>
    show ((s.clearDue _).wakeScheduled).Settled
    unfold State.wakeScheduled
    split
    · exact (h.clearDue _).wakeUp _
    · exact h.clearDue _
  case acceptedChange => exact (h.clearDue _).acceptLevel _
  case triggerRaised entry =>
    show ((s.clearDue (.trigger entry)).raiseTrigger entry).Settled
    unfold State.raiseTrigger
    split
    · exact (h.clearDue (.trigger entry)).blocks (by simp) (by simp) (by simp) (by simp) (by simp) (by simp) (by simp)
    · exact h.clearDue _
  case conversionComplete => exact (h.clearDue _).complete _
  case sweepFrame => exact h.receiveUp _ _
  case returnFrame => exact h.blocks (by simp) (by simp) (by simp) (by simp) (by simp) (by simp) (by simp)
  case downDark => exact (h.clearDue .downDark).blocks rfl rfl rfl rfl rfl rfl rfl
  case profileBlockBegin => exact (h.clearDue .blockBegin).blocks rfl rfl rfl rfl rfl rfl rfl
  case profileBlockVerified matched =>
    show ((s.clearDue _).verifyBlock matched).Settled
    have written (p : Profile) : ({ s.clearDue .blockVerified with profile := p } : State).Settled :=
      (h.clearDue .blockVerified).blocks rfl rfl rfl rfl rfl rfl rfl
    unfold State.verifyBlock State.latchIf
    (repeat' split) <;> first | exact h.clearDue _ | exact latched (written _) _ | exact written _
  case downLive => exact (h.clearDue .downDark).blocks (by simp) (by simp) (by simp) (by simp) (by simp) (by simp) (by simp)
  case rotationPinChange input level =>
    show (s.driveRotation input level).Settled
    unfold State.driveRotation
    split
    · exact h
    · refine State.Settled.comparePin ?_ _
      exact h.blocks rfl rfl rfl rfl rfl rfl rfl
  case onTimeStart pu =>
    refine (h.clearDue _).setUnit pu ?_ ?_ ?_ <;> (unfold PulseUnit.startPulse; split <;> simp)
  case onTimeEnd pu =>
    refine (h.clearDue _).setUnit pu ?_ ?_ ?_ <;> (unfold PulseUnit.endPulse; split <;> simp)
  case deadTimeEnd pu =>
    refine (h.clearDue _).setUnit pu ?_ ?_ ?_ <;> (unfold PulseUnit.endDead; split <;> rfl)
  all_goals exact record s h _ _ _ _ _

/-- Every step ends settled. -/
theorem step_settled {s t : State} (h : s.Settled) (e : step s = .next t) : t.Settled := by
  unfold step at e
  split at e
  · exact exec_settled _ (h.blocks (by rfl) (by rfl) (by rfl) (by rfl) (by rfl) (by rfl) (by rfl)) e
  · split at e
    · split at e
      · exact exec_settled _ (h.blocks (by rfl) (by rfl) (by rfl) (by rfl) (by rfl) (by rfl) (by rfl)) e
      · injection e with e
        subst e
        exact h.blocks rfl rfl rfl rfl rfl rfl rfl
    · injection e with e
      subst e
      exact h.tick

/-- Settles O4. -/
theorem conditionsSettledKept : Obligations.ConditionsSettledKept := by
  unfold Obligations.ConditionsSettledKept
  intro s t h e
  have settled := step_settled h e
  exact ⟨settled, settled.idle⟩

end Sys2Proof.Machine
end

section
/-! The queue of commands, the reset state, and what happens to a unit between boundaries: edges, pause, brake and fold-back. -/

namespace Sys2Proof.Machine

/-- Settles O10. -/
theorem frontCommandExecuted : Obligations.FrontCommandExecuted := by
  unfold Obligations.FrontCommandExecuted
  exact fun _ _ _ => rfl

/-! ## Reset -/

theorem PulseUnit.atReset_lawful : PulseUnit.atReset.Lawful := by constructor <;> simp [PulseUnit.atReset]

theorem PulseUnit.atReset_gatesSound : PulseUnit.atReset.GatesSound := by
  constructor <;> simp [PulseUnit.atReset, Drive.called, Lines.meet]

/-- Settles O11. -/
theorem resetStateSound : Obligations.ResetStateSound := by
  unfold Obligations.ResetStateSound
  have unit (u : Fin 4) : State.reset.units.get u = PulseUnit.atReset := Bank.get_all _ _
  refine ⟨fun u => ?_, .zero fun u => by rw [unit]; rfl, ?_, .nil, ⟨fun n => ?_, fun e => ?_⟩, rfl, rfl, rfl⟩
  · rw [unit]
    exact ⟨PulseUnit.atReset_gatesSound, PulseUnit.atReset_lawful, rfl⟩
  · exact .atRest rfl rfl (fun n => Bank.get_all _ _) (fun r => by simp [State.reset, Rotation.atReset])
      (fun u => by rw [unit]; exact ⟨rfl, rfl⟩)
  · simp [State.reset, Slot.atReset]
  · simp [State.reset, Scan.atReset, ScanEntry.atReset]

/-- A drive state presented changes drive state, lines and dead time alone. -/
theorem PulseUnit.present_frame (u : PulseUnit) (d : Drive) :
    u.present d = { u with drive := d, lines := (u.present d).lines, dead := (u.present d).dead } := by
  by_cases same : u.drive = d
  · rw [PulseUnit.present_same u d same, ← same]
  · unfold PulseUnit.present
    rw [if_neg same]

/-- A drive state presented is a turn of R15. -/
theorem PulseUnit.present_turns (x : PulseUnit) (d : Drive) : x.Turns (x.present d) d where
  same := x.present_same d
  cut := x.present_lines d
  wait h := by rw [x.present_lines d h]; exact x.present_dead d h
  rest := x.present_frame d

/-- A unit after a reset (R36): kind, beat drive direction, lines and dead time are not those of the reset state, all else is. -/
theorem PulseUnit.resetUnit_frame (u : PulseUnit) : u.resetUnit =
    { PulseUnit.atReset with kind := u.kind, driveDir := u.driveDir, lines := u.resetUnit.lines, dead := u.resetUnit.dead } := by
  conv_lhs => rw [PulseUnit.resetUnit, PulseUnit.toOff, PulseUnit.present_frame]
  rfl

/-- Settles O12. -/
theorem resetTaken : Obligations.ResetTaken := by
  unfold Obligations.ResetTaken
  intro s strap
  refine ⟨{ s.takeReset .power with strap := strap }, s.takeReset .resetPin, rfl, rfl, rfl, rfl, rfl, rfl, rfl, rfl, rfl, rfl, rfl, rfl, rfl,
    rfl, rfl, rfl, rfl, rfl, rfl, rfl, rfl, rfl, rfl, rfl, fun u => ?_⟩
  have unit : (s.takeReset .resetPin).units.get u = (s.units.get u).resetUnit := Bank.get_map _ _ _
  rw [unit]
  exact ⟨PulseUnit.resetUnit_frame _, fun sound => (s.units.get u).toOff_lines sound.called⟩

/-! ## Edges of the on-time -/

theorem PulseUnit.pulsing_iff (u : PulseUnit) : u.pulsing = true ↔ u.state = .run ∧ 0 < u.onTime := by simp [PulseUnit.pulsing]

/-- Settles O14. -/
theorem pulseEdgesTurnDrive : Obligations.PulseEdgesTurnDrive := by
  unfold Obligations.PulseEdgesTurnDrive
  intro s u
  refine ⟨(s.units.get u).startPulse, (s.units.get u).endPulse (s.tables.unitRow u), rfl, rfl, ?_⟩
  unfold PulseUnit.startPulse PulseUnit.endPulse
  by_cases pulsing : (s.units.get u).pulsing = true
  · rw [if_pos ((s.units.get u).pulsing_iff.mp pulsing), if_pos pulsing, if_pos pulsing, ← Dir.drive_eq]
    exact ⟨PulseUnit.present_turns _ _, PulseUnit.present_turns _ _⟩
  · rw [if_neg (fun h => pulsing ((s.units.get u).pulsing_iff.mpr h)), if_neg pulsing, if_neg pulsing]
    exact ⟨rfl, rfl⟩

/-! ## The ramp -/

/-- A step toward the target: all the way where the step is 0 or reaches, else by the step. -/
theorem rampToward_eq (S : Nat) (T D : Int) : rampToward S T D = if S = 0 ∨ (T - D).natAbs ≤ S then T else if D < T then D + S else D - S := by
  unfold rampToward
  by_cases zero : S = 0
  · simp [zero]
  · simp [zero]

theorem opposes_iff (t : Int) (m : Option Dir) : opposes t m = true ↔ (m = some .fwd ∧ t < 0) ∨ (m = some .rev ∧ 0 < t) := by
  cases m with
  | none => simp [opposes]
  | some d => cases d <;> simp [opposes]

/-- Settles O16: the ramp's clauses are its branches, by the signs of demand and target. -/
theorem demandStepsTowardTarget : Obligations.DemandStepsTowardTarget := by
  unfold Obligations.DemandStepsTowardTarget
  intro S T D m
  have toward := rampToward_eq S T D
  have reaches : (rampToward S T D - D).natAbs ≤ S ∨ S = 0 := by rw [toward]; (repeat' split) <;> omega
  have within (hT : T.natAbs ≤ 1000) (hD : D.natAbs ≤ 1000) : (rampToward S T D).natAbs ≤ 1000 := by
    rw [toward]; (repeat' split) <;> omega
  refine ⟨fun zero against => ?_, fun zero free => ?_, fun same => ?_, fun pos neg => ?_, fun neg pos => ?_, fun step => ?_,
    fun hT hD => ?_⟩
  · rw [rampStep, if_pos zero, if_pos ((opposes_iff T m).mpr against)]
  · rw [rampStep, if_pos zero, if_neg (fun h => free ((opposes_iff T m).mp h)), toward, zero]
    (repeat' split) <;> omega
  · unfold rampStep
    rw [toward]
    (repeat' split) <;> omega
  · unfold rampStep
    rw [toward]
    (repeat' split) <;> omega
  · unfold rampStep
    rw [toward]
    (repeat' split) <;> omega
  · unfold rampStep
    (repeat' split) <;> omega
  · have := within hT hD
    unfold rampStep
    (repeat' split) <;> omega

/-! ## Fold-back -/

/-- Settles O19. -/
theorem foldBackFollowsResults : Obligations.FoldBackFollowsResults := by
  unfold Obligations.FoldBackFollowsResults
  intro s slot v u
  have stored : (s.storeToUnits slot v).units.get u = if unitCurrentSlot (s.tables.unitRow u) = some slot.val then
      (s.units.get u).foldResult (s.tables.unitRow u) v else s.units.get u := Bank.get_mapIdx _ _ _
  dsimp only
  rw [stored]
  generalize s.units.get u = x
  generalize s.tables.unitRow u = row
  refine ⟨fun out => ?_, fun here run => ?_, fun bound => ?_⟩
  · split
    · next here => rw [PulseUnit.foldResult, if_neg (out.resolve_left (fun h => h here))]
    · rfl
  · rw [if_pos here, PulseUnit.foldResult, if_pos run]
    refine ⟨fun above below => ?_, fun above full => ?_, fun within short => ?_, fun within reached => ?_⟩
    · rw [if_pos above, PulseUnit.foldAbove, if_pos below]
    · rw [if_pos above, PulseUnit.foldAbove, if_neg (by omega)]
    · rw [if_neg (by omega), PulseUnit.foldBelow, if_neg (by omega)]
    · rw [if_neg (by omega), PulseUnit.foldBelow, if_pos reached]
      by_cases full : x.foldLevel = 7 <;> simp [full]
  · unfold PulseUnit.foldResult PulseUnit.foldAbove PulseUnit.foldBelow
    simp only [apply_ite PulseUnit.foldLevel]
    (repeat' split) <;> omega

/-! ## Pause and brake -/

/-- The reversal pause ends where the count has reached it (R26). -/
theorem PulseUnit.endPause_eq (x : PulseUnit) (row : Row) (ends : Bool)
    (e : ends = true ↔ x.demand = 0 ∧ ∃ c, x.zeroCount = some c ∧ unitReversalPause row ≤ c) :
    x.endPause row = if ends then { x with dirMemory := none, zeroCount := none } else x := by
  unfold PulseUnit.endPause
  cases count : x.zeroCount with
  | none => rw [if_neg (by simp [e, count])]
  | some c =>
    dsimp only
    by_cases reached : x.demand = 0 ∧ unitReversalPause row ≤ c
    · rw [if_pos reached, if_pos (e.mpr ⟨reached.1, c, count, reached.2⟩)]
    · rw [if_neg reached, if_neg (fun h => reached ?_)]
      obtain ⟨zero, k, same, le⟩ := e.mp h
      rw [count] at same
      exact ⟨zero, (Option.some.inj same) ▸ le⟩

theorem PulseUnit.startBrake_waiting {x : PulseUnit} {n : Nat} (brake : x.state = .brake) (waiting : x.brakeCount = .waiting n) :
    x.startBrake = { x with brakeCount := .running n }.present .brake := by
  unfold PulseUnit.startBrake
  rw [brake, waiting]

theorem PulseUnit.startBrake_still {x : PulseUnit} (h : (∀ n, x.brakeCount ≠ .waiting n) ∨ x.state ≠ .brake) : x.startBrake = x := by
  unfold PulseUnit.startBrake
  split
  · next n brake waiting => exact (h.elim (fun h => h n waiting) (fun h => h brake)).elim
  · rfl

theorem PulseUnit.endBrake_ends {x : PulseUnit} {k : Nat} (row : Row) (brake : x.state = .brake) (running : x.brakeCount = .running k)
    (last : k ≤ 1) : x.endBrake row = { x with state := .run, brakeCount := .idle }.present (offTimeDrive row) := by
  unfold PulseUnit.endBrake
  rw [brake, running]
  exact if_pos last

theorem PulseUnit.endBrake_still {x : PulseUnit} (row : Row) (h : (∀ k, k ≤ 1 → x.brakeCount ≠ .running k) ∨ x.state ≠ .brake) :
    x.endBrake row = x := by
  unfold PulseUnit.endBrake
  split
  · next k brake running =>
    split
    · next last => exact (h.elim (fun h => h k last running) (fun h => h brake)).elim
    · rfl
  · rfl

/-- A unit changed in nothing but what leaves FXn alone changes no source. -/
theorem State.setUnit_sourceActive (s : State) (u : Fin 4) {x : PulseUnit} (e : x.exhausted = (s.units.get u).exhausted) (i : Fin 31) :
    (s.setUnit u x).sourceActive i = s.sourceActive i := by
  have unit (v : Fin 4) : ((s.setUnit u x).units.get v).exhausted = (s.units.get v).exhausted := by
    have set : (s.setUnit u x).units.get v = if v = u then x else s.units.get v := Bank.get_set _ _ _ _
    rw [set]
    split
    · next k => rw [k, e]
    · rfl
  unfold State.sourceActive
  rw [unit]
  rfl

/-- A unit of a settled part that drives is held by nothing. -/
theorem State.Settled.unheld {s : State} (h : s.Settled) {u : Fin 4} (drives : (s.units.get u).state.driving = true) :
    s.holdOf u = .none := by
  have obeys := h.holds.obeyed u
  unfold PulseUnit.obeys at obeys
  cases state : (s.units.get u).state <;> simp_all [UnitState.driving]

/-- Settles O20. -/
theorem pauseAndBrakeTimersEnd : Obligations.PauseAndBrakeTimersEnd := by
  unfold Obligations.PauseAndBrakeTimersEnd
  intro s u x row
  refine ⟨?_, ⟨x.startBrake, rfl, fun n brake waiting => ?_, PulseUnit.startBrake_still⟩,
    x.endBrake row, ((s.clearDue (.brakeEnd u)).setUnit u (x.endBrake row)).settle s.sources, rfl, State.settle_course _ _,
    fun k last brake running => ?_, PulseUnit.endBrake_still row, fun settled => ⟨exec_settled (.brakeEnd u) settled rfl, fun brake running => ?_⟩⟩
  · have ended := x.endPause_eq row (decide (x.demand = 0 ∧ ∃ c, x.zeroCount = some c ∧ unitReversalPause row ≤ c)) (by simp)
    have run : exec (.reversalPauseEnd u) s = .next { s with due := s.due.erase (.pauseEnd u), units := s.units.set u (x.endPause row) } := rfl
    rw [run, ended]
    simp
  · rw [PulseUnit.startBrake_waiting brake waiting]
    exact PulseUnit.present_turns _ _
  · rw [PulseUnit.endBrake_ends row brake running last]
    exact PulseUnit.present_turns _ _
  · have ended := PulseUnit.endBrake_ends row brake running (le_refl 1)
    have unit : ((s.clearDue (.brakeEnd u)).setUnit u (x.endBrake row)).units.get u = x.endBrake row := Bank.get_set_self _ _ _
    have quiet := State.settle_quiet ((s.clearDue (.brakeEnd u)).setUnit u (x.endBrake row)) s.sources (fun i on => ?_) u
      (settled.unheld (u := u) (by rw [show (s.units.get u).state = .brake from brake]; rfl)) (by rw [unit, ended, PulseUnit.present_state]; rfl)
    · rw [quiet.1, unit]
    · rw [State.sources_get]
      rw [State.setUnit_sourceActive _ _ (by rw [ended, PulseUnit.present_exhausted]; rfl)] at on
      exact on

/-! ## A rotation pin -/

theorem Pins.setRotation_level (p : Pins) (r q : Fin 3) (level : Bool) :
    (p.setRotation r level).rotation.getLsbD q = if q = r then level else p.rotation.getLsbD q := getLsbD_maskOf _ _

/-- An accepted change that stands at most once on the agenda is off it once its mark is taken. -/
theorem not_mem_erase_of_count {l : List DueEvent} {e : DueEvent} (once : l.count e ≤ 1) : e ∉ l.erase e := by
  rw [← List.count_eq_zero, List.count_erase_self]
  omega

/-- The comparison of one pin, as a whole: the rotation input, and the agenda with its accepted change fallen due or not. -/
theorem State.comparePin_running {s : State} {r : Fin 3} (running : s.conditionerRunning = true) : s.comparePin r =
    if (s.compared r).2 then ((s.setRotation r (s.compared r).1).clearDue (.accepted r)).markDue (.accepted r)
    else (s.setRotation r (s.compared r).1).clearDue (.accepted r) := by
  unfold State.comparePin State.compared
  rw [if_pos running, if_pos running]

/-- Settles O30. -/
theorem rotationPinCompared : Obligations.RotationPinCompared := by
  unfold Obligations.RotationPinCompared
  intro s r level
  have exec_eq : exec (.rotationPinChange r level) s = .next (s.driveRotation r level) := rfl
  refine ⟨fun same => ?_, fun differs => ?_⟩
  · have same : s.pins.rotationLevel r = level := same
    rw [exec_eq, State.driveRotation, if_pos same]
  · have differs : ¬s.pins.rotationLevel r = level := differs
    rw [exec_eq, State.driveRotation, if_neg differs]
    generalize changed : ({ s with pins := s.pins.setRotation r level } : State) = t
    have pins : t.pins = s.pins.setRotation r level := by rw [← changed]
    have kept : (t.comparePin r).pins = s.pins.setRotation r level := by rw [t.comparePin_eq]; exact pins
    refine ⟨t.comparePin r, rfl, by rw [kept]; rfl, by rw [kept]; rfl, fun q => by rw [kept]; exact s.pins.setRotation_level r q level,
      fun run standby => ?_, fun phase => ?_⟩
    · have stopped : ¬t.conditionerRunning = true := by
        rw [t.conditionerRunning_iff, ← changed]
        exact fun h => h.elim run standby
      have still : t.comparePin r = t := by unfold State.comparePin; rw [if_neg stopped]
      rw [still, ← changed]
    · have running : t.conditionerRunning = true := by
        rw [t.conditionerRunning_iff, ← changed]
        exact phase
      have compared : t.compared r = (s.rotation.get r).compare level (rotationFilter (s.tables.rotationRow r)) := by
        have seen : t.pins.rotationLevel r = level := by
          rw [pins]
          exact (s.pins.setRotation_level r r level).trans (if_pos rfl)
        unfold State.compared
        rw [if_pos running, seen, ← changed]
        rfl
      have whole : t.comparePin r = { s with
          pins := (t.comparePin r).pins
          due := (t.comparePin r).due
          rotation := s.rotation.set r (t.compared r).1 } := by
        have rotation : (t.comparePin r).rotation = s.rotation.set r (t.compared r).1 := Bank.ext_get fun q => by
          rw [t.comparePin_get, Bank.get_set, ← changed]
        conv_lhs => rw [t.comparePin_eq, rotation]
        rw [kept, ← changed]
      have falls (yes : (t.compared r).2 = true) : DueEvent.accepted r ∈ (t.comparePin r).due := by
        rw [State.comparePin_running running, if_pos yes]
        simp
      have stays (no : (t.compared r).2 = false) (once : s.due.count (.accepted r) ≤ 1) : DueEvent.accepted r ∉ (t.comparePin r).due := by
        rw [State.comparePin_running running, no, ← changed]
        exact not_mem_erase_of_count once
      refine ⟨(t.compared r).1, whole, fun e ne => ?_, fun same => ?_, fun differs none zero => ?_, fun differs none some => ?_,
        fun k differs count => ?_⟩
      · rw [t.mem_comparePin_of_ne r ne, ← changed]
      all_goals
        rw [compared] at falls stays ⊢
        unfold Rotation.compare at falls stays ⊢
      · rw [if_pos same] at falls stays ⊢
        exact ⟨rfl, stays rfl⟩
      · simp only [if_neg differs, none, zero, if_true] at falls stays ⊢
        exact ⟨trivial, falls trivial⟩
      · simp only [if_neg differs, none, if_neg some, decide_eq_true_eq, decide_eq_false_iff_not] at falls stays ⊢
        exact ⟨trivial, falls, fun h => stays (by omega)⟩
      · simp only [if_neg differs, count, decide_eq_true_eq, decide_eq_false_iff_not] at falls stays ⊢
        exact ⟨trivial, falls, fun h => stays (by omega)⟩

end Sys2Proof.Machine
end

section
/-! Records as commands of their own: what a record addressed to this hub is answered with, and which parameters a kind accepts
(R143, R146). -/

namespace Sys2Proof.Machine

/-! ## The answer to a record -/

theorem Reply.refuse_addressed (v : Verdict) (room : Nat) : (Reply.refuse v).addressed room = bareAnswer v := by
  simp [Reply.refuse, Reply.addressed, bareAnswer]

theorem Reply.accept_addressed (a : Action) (room : Nat) : (Reply.accept a).addressed room = bareAnswer .accepted := by
  simp [Reply.accept, Reply.addressed, bareAnswer]

/-- A reply without bytes is its verdict alone. -/
theorem Reply.addressed_bare {r : Reply} (bare : r.bytes = []) (room : Nat) : r.addressed room = bareAnswer r.verdict := by
  simp [Reply.addressed, bareAnswer, bare]

theorem Reply.tell_addressed (l : List Byte) (room : Nat) : (Reply.tell l).addressed room = doneReply room l := by
  by_cases fits : l.length ≤ room
  · simp [Reply.addressed, doneReply, Reply.tell, Verdict.code, fits, not_lt.mpr fits, List.take_of_length_le fits]
  · have more : room < l.length := by omega
    simp [Reply.addressed, doneReply, Reply.tell, Verdict.code, fits, more, Nat.min_eq_left more.le]

theorem doneReply_nil (room : Nat) : doneReply room [] = bareAnswer .done := by simp [doneReply, bareAnswer, Verdict.code]

/-- The part once a reply is written and its action carried out. -/
def State.replied (s : State) (q : Reply) (room : Nat) : State :=
  match q.action with
  | some a => { s with answer := q.addressed room }.carryOut a
  | none => { s with answer := q.addressed room }

theorem State.replied_refuse (s : State) (v : Verdict) (room : Nat) :
    s.replied (.refuse v) room = { s with answer := bareAnswer v } := by
  rw [← Reply.refuse_addressed v room]; rfl

theorem State.replied_tell (s : State) (l : List Byte) (room : Nat) :
    s.replied (.tell l) room = { s with answer := doneReply room l } := by
  rw [← Reply.tell_addressed l room]; rfl

theorem State.replied_accept (s : State) (a : Action) (room : Nat) :
    s.replied (.accept a) room = { s with answer := bareAnswer .accepted }.carryOut a := by
  rw [← Reply.accept_addressed a room]; rfl

/-- A record as a command is served with its kind code. -/
theorem exec_record {c : Instr} {k : Nat} {r : Request} (rec : recordOf c = some (k, r)) (s : State) :
    exec c s = .next (s.serve k r.position r.target r.params r.room) := by
  cases c <;> simp only [recordOf, Option.some.injEq, Prod.mk.injEq, reduceCtorEq] at rec <;>
    (obtain ⟨rfl, rfl⟩ := rec; rfl)

/-- While the ports are silent no record reaches the hub (R142). -/
theorem exec_record_silent {c : Instr} {k : Nat} {r : Request} (rec : recordOf c = some (k, r)) {s : State}
    (loading : s.phase = .loading) : exec c s = .next { s with answer := [] } := by
  rw [exec_record rec]
  simp [State.serve, State.forwarding, loading]

/-- A record for another position passes (R143). -/
theorem exec_record_passing {c : Instr} {k : Nat} {r : Request} (rec : recordOf c = some (k, r)) {s : State}
    (loaded : s.phase ≠ .loading) (single : r.target.toNat ≠ 15) (away : r.target.toNat ≠ r.position) :
    exec c s = .next { s with answer := [] } := by
  rw [exec_record rec]
  simp [State.serve, State.forwarding, loaded, State.answerRecord, single, away]

/-- A record addressed to this hub is answered as judged, and its action carried out. -/
theorem exec_record_here {c : Instr} {k : Nat} {r : Request} (rec : recordOf c = some (k, r)) {s : State}
    (loaded : s.phase ≠ .loading) (here : addressedHere r) :
    exec c s = .next (s.replied (s.judge [] r.position k false r.params) r.room) := by
  obtain ⟨target, first, last⟩ := here
  have single : r.target.toNat ≠ 15 := by omega
  have forwards : s.forwarding = true := by simpa [State.forwarding] using loaded
  rw [exec_record rec, State.serve, if_pos forwards, State.answerRecord, if_neg single, if_pos target]
  rfl

/-- Unsound arguments are refused, whatever the hub does (R143). -/
theorem State.judge_error {k : Nat} {ps : List Byte} {v : Verdict} (bad : parseAsk k ps = .error v) (s : State)
    (earlier : List Action) (p : Nat) : s.judge earlier p k false ps = .refuse v := by
  unfold State.judge
  rw [bad]
  cases v <;> rfl

/-- A sound request is judged by the hub's phase, then by the kind's own rule (R143). -/
theorem State.judge_ok {k : Nat} {ps : List Byte} {a : Ask} (sound : parseAsk k ps = .ok a) (s : State) (earlier : List Action)
    (p : Nat) : s.judge earlier p k false ps =
      if (s.judgedState earlier).inStandby ∧ a ≠ .wake then .refuse .notNow
      else if (s.judgedState earlier).reloading ∧ Action.resetFull ∉ earlier then .refuse .busy
      else (s.judgedState earlier).answerAsk earlier p a := by
  unfold State.judge
  rw [sound]
  rfl

theorem exec_record_bad {c : Instr} {k : Nat} {r : Request} (rec : recordOf c = some (k, r)) {s : State}
    (loaded : s.phase ≠ .loading) (here : addressedHere r) {v : Verdict} (bad : parseAsk k r.params = .error v) :
    exec c s = .next { s with answer := bareAnswer v } := by
  rw [exec_record_here rec loaded here, State.judge_error bad, State.replied_refuse]

/-- A sound record of a hub in running operation, or a WAKE in standby, is answered by the kind's own rule. -/
theorem exec_record_asked {c : Instr} {k : Nat} {r : Request} (rec : recordOf c = some (k, r)) {s : State}
    (here : addressedHere r) {a : Ask} (sound : parseAsk k r.params = .ok a)
    (phase : s.phase = .run ∨ (s.phase = .standby ∧ a = .wake)) :
    exec c s = .next (s.replied (s.answerAsk [] r.position a) r.room) := by
  have loaded : s.phase ≠ .loading := by rcases phase with run | ⟨standby, -⟩ <;> simp [*]
  have asked : s.judge [] r.position k false r.params = s.answerAsk [] r.position a := by
    rw [State.judge_ok sound]
    rcases phase with run | ⟨standby, rfl⟩ <;> simp [State.judgedState, State.inStandby, State.reloading, *]
  rw [exec_record_here rec loaded here, asked]

/-- Settles O41. -/
theorem recordsTurnedAway : Obligations.RecordsTurnedAway := by
  intro c s k r rec
  refine ⟨exec_record_silent rec, exec_record_passing rec, fun loaded here => ⟨fun v => exec_record_bad rec loaded here, ?_⟩⟩
  intro a sound
  rw [exec_record_here rec loaded here, State.judge_ok sound]
  constructor
  · intro standby ask
    rw [if_pos ⟨by rcases standby with e | e <;> simp [State.judgedState, State.inStandby, e], ask⟩, State.replied_refuse]
  · intro reloading
    have turned : ¬((s.judgedState []).inStandby = true ∧ a ≠ .wake) := by
      rcases reloading with e | ⟨-, e⟩ <;> simp [State.judgedState, State.inStandby, e]
    have reloads : (s.judgedState []).reloading = true := by
      rcases reloading with e | ⟨e, -⟩ <;> simp [State.judgedState, State.reloading, e]
    rw [if_neg turned, if_pos ⟨reloads, by simp⟩, State.replied_refuse]

end Sys2Proof.Machine
end

section
/-! The parameter lists each kind accepts (R146), and the verdicts on ENABLE and DISABLE (R20, R22). -/

namespace Sys2Proof.Machine

theorem wordOf_toNat (hi lo : Byte) : (wordOf hi lo).toNat = hi.toNat * 256 + lo.toNat := by
  unfold wordOf
  have low : lo.toNat < 2 ^ 8 := lo.isLt
  rw [BitVec.toNat_append, ← Nat.shiftLeft_add_eq_or_of_lt low, Nat.shiftLeft_eq]

/-! ## Kind by kind -/

theorem parseBare_ok (ask : Ask) (ps : List Byte) : (∃ a, parseBare ask ps = .ok a) ↔ ps = [] := by
  cases ps <;> simp [parseBare]

theorem parseUnitMask_ok (ask : Byte → Ask) (ps : List Byte) :
    (∃ a, parseUnitMask ask ps = .ok a) ↔ ∃ m : Byte, ps = [m] ∧ m.toNat < 16 := by
  unfold parseUnitMask
  split
  · next m => split <;> simp [*]
  · next other => simpa using fun m e => absurd e (other m)

theorem parseSwap_ok (ps : List Byte) : (∃ a, parseSwap ps = .ok a) ↔ ∃ hi lo : Byte, ps = [hi, lo] ∧ hi.toNat < 2 := by
  unfold parseSwap
  split
  · next hi lo =>
    have bound : (wordOf hi lo).toNat < 512 ↔ hi.toNat < 2 := by
      rw [wordOf_toNat]
      have := lo.isLt
      omega
    split <;> simp_all
  · next other => simpa using fun hi lo e => absurd e (other hi lo)

theorem parseClear_ok (ps : List Byte) : (∃ a, parseClear ps = .ok a) ↔ ps.length = 5 := by
  unfold parseClear
  split
  · simp
  · next other =>
    refine iff_of_false (by simp) fun len => ?_
    match ps, len with
    | [a, b, c, d, e], _ => exact other a b c d e rfl

theorem parseReportMask_ok (ps : List Byte) : (∃ a, parseReportMask ps = .ok a) ↔ ps.length = 2 := by
  unfold parseReportMask
  split
  · simp
  · next other =>
    refine iff_of_false (by simp) fun len => ?_
    match ps, len with
    | [a, b], _ => exact other a b rfl

theorem parseProfileSave_ok (ps : List Byte) : (∃ a, parseProfileSave ps = .ok a) ↔ ∃ m : Byte, ps = [m] ∧ m.toNat < 8 := by
  unfold parseProfileSave
  split
  · next m => split <;> simp [*]
  · next other => simpa using fun m e => absurd e (other m)

theorem parseReset_ok (ps : List Byte) : (∃ a, parseReset ps = .ok a) ↔ ∃ m : Byte, ps = [m] ∧ m.toNat < 2 := by
  unfold parseReset
  split
  · next m =>
    split
    · simp [*]
    · simp [*]
    · next zero one =>
      have more : ¬m.toNat < 2 := fun less => by
        have : m.toNat ≠ 0 ∧ m.toNat ≠ 1 := ⟨zero, one⟩
        omega
      simpa using more
  · next other => simpa using fun m e => absurd e (other m)

theorem parseReadState_ok (ps : List Byte) : (∃ a, parseReadState ps = .ok a) ↔
    (∃ m : Byte, ps = [m] ∧ m.toNat ∈ [0, 2, 3, 4]) ∨
    (∃ first count : Byte, ps = [1, first, count] ∧ first.toNat ≤ 25 ∧ first.toNat + count.toNat ≤ 26) := by
  unfold parseReadState
  split
  · next m =>
    split
    case h_5 zero two three four =>
      have none : m.toNat ∉ [0, 2, 3, 4] := by simpa using ⟨zero, two, three, four⟩
      simpa using none
    all_goals simp [*]
  · next m first count =>
    have one : m.toNat = 1 ↔ m = 1 := ⟨fun e => BitVec.eq_of_toNat_eq e, fun e => e ▸ rfl⟩
    split <;> simp_all
  · next bare ranged =>
    refine iff_of_false (by simp) ?_
    rintro (⟨m, e, -⟩ | ⟨first, count, e, -⟩)
    · exact bare m e
    · exact ranged 1 first count e

/-- A table's code names it, and nothing else does. -/
theorem TableId.ofCode_eq (n : Nat) (t : TableId) : TableId.ofCode n = some t ↔ n = t.code := by
  constructor
  · intro e
    obtain ⟨less, -⟩ := List.getElem?_eq_some_iff.mp e
    have less : n < 9 := less
    interval_cases n <;> (cases e; rfl)
  · rintro rfl
    cases t <;> rfl

/-- A code byte is that of a table, or no table's. -/
theorem TableId.code_byte (b : Byte) (t : TableId) : TableId.ofCode b.toNat = some t ↔ b = BitVec.ofNat 8 t.code := by
  rw [TableId.ofCode_eq]
  have small : (t.code : Nat) < 256 := by omega
  constructor
  · intro e
    exact BitVec.eq_of_toNat_eq (by rw [e, BitVec.toNat_ofNat, Nat.mod_eq_of_lt small])
  · rintro rfl
    rw [BitVec.toNat_ofNat, Nat.mod_eq_of_lt small]

theorem parseTableWrite_ok (ps : List Byte) : (∃ a, parseTableWrite ps = .ok a) ↔
    ∃ (id : TableId) (first count : Byte) (rows : List Byte), ps = BitVec.ofNat 8 id.code :: first :: count :: rows ∧
      first.toNat + count.toNat ≤ id.rows ∧ rows.length = count.toNat * id.rowSize := by
  unfold parseTableWrite
  split
  · next b first count rows =>
    split
    · next none =>
      refine iff_of_false (by simp) ?_
      rintro ⟨id, f, c, l, e, -⟩
      simp [(TableId.code_byte b id).mpr (List.cons.inj e).1] at none
    · next t some =>
      have same : ∀ id, b = BitVec.ofNat 8 id.code ↔ t = id := fun id => by
        rw [← TableId.code_byte, some, Option.some.injEq]
      split
      · next fits => simpa [same] using fits
      · next no => simpa [same] using no
  · next other =>
    refine iff_of_false (by simp) ?_
    rintro ⟨id, f, c, l, e, -⟩
    exact other _ f c l e

theorem parseTableRead_ok (ps : List Byte) : (∃ a, parseTableRead ps = .ok a) ↔ ∃ (id : TableId) (copy first count : Byte),
    ps = [BitVec.ofNat 8 id.code, copy, first, count] ∧ copy.toNat ≤ 1 ∧ first.toNat + count.toNat ≤ id.rows := by
  unfold parseTableRead
  split
  · next b copy first count =>
    split
    · next none =>
      refine iff_of_false (by simp) ?_
      rintro ⟨id, f, c, l, e, -⟩
      simp [(TableId.code_byte b id).mpr (List.cons.inj e).1] at none
    · next t some =>
      have same : ∀ id, b = BitVec.ofNat 8 id.code ↔ t = id := fun id => by
        rw [← TableId.code_byte, some, Option.some.injEq]
      split
      · next fits => simpa [same] using fits
      · next no => simpa [same] using no
  · next other =>
    refine iff_of_false (by simp) ?_
    rintro ⟨id, copy, f, c, e, -⟩
    exact other _ copy f c e

/-! ## Every kind -/

/-- What is not accepted of a listed kind is BAD_ARG. -/
theorem parseAsk_judged (k : Nat) (ps : List Byte) (first : 1 ≤ k) (last : k ≤ 0x0E) :
    (∃ a, parseAsk k ps = .ok a) ∨ parseAsk k ps = .error .badArg := by
  have kinds : ∀ p : Except Verdict Ask, (∀ v, p = .error v → v = .badArg) → (∃ a, p = .ok a) ∨ p = .error .badArg := by
    rintro (v | a) only
    · exact .inr (by rw [only v rfl])
    · exact .inl ⟨a, rfl⟩
  refine kinds _ fun v e => ?_
  interval_cases k <;>
    simp only [parseAsk, parseBare, parseReadState, parseTableWrite, parseTableRead, parseSwap, parseUnitMask, parseClear,
      parseReportMask, parseProfileSave, parseReset] at e <;>
    (repeat' split at e) <;> first | (cases e; rfl) | nomatch e

theorem parseAsk_unlisted (k : Nat) (ps : List Byte) (other : k = 0 ∨ 0x0E < k) : parseAsk k ps = .error .badKind := by
  unfold parseAsk
  split <;> first | rfl | omega

/-- Settles O42. -/
theorem parametersJudged : Obligations.ParametersJudged := by
  refine ⟨parseAsk_unlisted, fun k ps bare => ?_, fun k ps masked => ?_, parseSwap_ok, parseClear_ok, parseReportMask_ok,
    parseProfileSave_ok, parseReset_ok, parseReadState_ok, parseTableWrite_ok, parseTableRead_ok, parseAsk_judged⟩
  · have listed : 1 ≤ k ∧ k ≤ 0x0E := by
      simp only [List.mem_cons, List.not_mem_nil, or_false] at bare
      omega
    have accepted : (∃ a, parseAsk k ps = .ok a) ↔ ps = [] := by
      simp only [List.mem_cons, List.not_mem_nil, or_false] at bare
      rcases bare with rfl | rfl | rfl | rfl <;> exact parseBare_ok _ ps
    exact ⟨accepted, fun some => (parseAsk_judged k ps listed.1 listed.2).resolve_left (some ∘ accepted.mp)⟩
  · simp only [List.mem_cons, List.not_mem_nil, or_false] at masked
    rcases masked with rfl | rfl <;> exact parseUnitMask_ok _ ps

/-! ## ENABLE and DISABLE (R20, R22) -/

theorem parseUnitMask_sound {m : Byte} (small : m.toNat < 16) (ask : Byte → Ask) : parseUnitMask ask [m] = .ok (ask m) := by
  simp [parseUnitMask, small]

theorem State.anyNamed_iff (s : State) (m : Byte) (off : Bool) :
    s.anyNamed m off = true ↔ ∃ u : Fin 4, m.getLsbD u = true ∧ (decide ((s.units.get u).state = .off) = off) := by
  simp [State.anyNamed]

/-- Every earlier record but the last, then the last. -/
theorem State.judgedState_snoc (s : State) (earlier : List Action) (a : Action) :
    s.judgedState (earlier ++ [a]) = (s.judgedState earlier).asIfDone a := by
  simp [State.judgedState, List.foldl_append]

/-- Under no hold action does a unit enter OFF. -/
theorem PulseUnit.deliverHold_on {u : PulseUnit} (row : Row) (h : Hold) (on : u.state ≠ .off) :
    (u.deliverHold row h).state ≠ .off := by
  refine PulseUnit.deliverHold_cases (P := fun x => x.state ≠ .off) u row h (fun off => absurd off on) (fun _ _ => on) ?_ ?_ ?_
  · intro _ held
    cases h <;> simp_all [Hold.heldState]
  · simp
  · intro _ held
    cases h <;> simp_all [Hold.heldState]

/-- An ENABLE leaves no named unit in OFF (R21). -/
theorem State.doEnable_on (s : State) {m : Byte} {u : Fin 4} (named : m.getLsbD u = true) : ((s.doEnable m).units.get u).state ≠ .off := by
  refine State.settle_units (fun v x => m.getLsbD v = true → x.state ≠ .off)
    (fun v x row h on mine => PulseUnit.deliverHold_on row h (on mine)) _ _ (fun v mine => ?_) u named
  simp only [Bank.get_mapIdx, mine, if_true]
  by_cases off : (s.units.get v).state = .off
  · rw [PulseUnit.enableUnit_off off, PulseUnit.present_state]
    simp only [PulseUnit.enabled]
    cases s.holdOf v <;> simp [Hold.enabledState]
  · rwa [PulseUnit.enableUnit_on off]

/-- A DISABLE leaves every named unit in OFF (R23). -/
theorem State.doDisable_off (s : State) {m : Byte} {u : Fin 4} (named : m.getLsbD u = true) : ((s.doDisable m).units.get u).state = .off := by
  refine State.settle_units (fun v x => m.getLsbD v = true → x.state = .off)
    (fun v x row h off mine => by rw [PulseUnit.deliverHold_off x row h (off mine)]; exact off mine) _ _ (fun v mine => ?_) u named
  simp only [State.requalify_units, Bank.get_mapIdx, mine, if_true]
  unfold PulseUnit.disableUnit
  split
  · next off => exact off
  · simp

/-- Settles O43. -/
theorem enableAndDisableVerdicts : Obligations.EnableAndDisableVerdicts := by
  intro s earlier p params now named notReloading
  have reloads : ¬(now.reloading = true ∧ Action.resetFull ∉ earlier) ∨ now.inStandby = true := by
    rcases notReloading with k | k
    · by_cases standby : now.inStandby = true
      · exact .inr standby
      · refine .inl fun both => ?_
        simp_all [State.reloading, State.inStandby]
    · exact .inl fun both => both.2 k
  refine ⟨fun k kind bad => ?_, fun m params_eq small => ?_, ?_, fun m u mine => ⟨?_, ?_⟩⟩
  · have refused : parseAsk k params = .error .badArg := by
      rcases kind with rfl | rfl
      · exact (parseAsk_judged _ _ (by omega) (by omega)).resolve_left (bad ∘ (parseUnitMask_ok _ _).mp)
      · exact (parseAsk_judged _ _ (by omega) (by omega)).resolve_left (bad ∘ (parseUnitMask_ok _ _).mp)
    exact State.judge_error refused s earlier p
  · subst params_eq
    have enable : parseAsk 0x06 [m] = .ok (.enable m) := parseUnitMask_sound small _
    have disable : parseAsk 0x07 [m] = .ok (.disable m) := parseUnitMask_sound small _
    refine ⟨fun k kind standby => ?_, fun awake alone => ?_⟩
    · have inStandby : now.inStandby = true := by rcases standby with e | e <;> simp [State.inStandby, e]
      rcases kind with rfl | rfl
      · rw [State.judge_ok enable, if_pos ⟨inStandby, by simp⟩]
      · rw [State.judge_ok disable, if_pos ⟨inStandby, by simp⟩]
    · have inRun : now.inStandby = false := by simp [State.inStandby, awake, alone]
      have goesOn := reloads.resolve_right (by simp [inRun])
      have judged (a : Ask) : ¬(now.inStandby = true ∧ a ≠ .wake) := by simp [inRun]
      have mine (u : Fin 4) : named u ↔ m.getLsbD u = true := by simp [named]
      have asked6 : s.judge earlier p 0x06 false [m] = now.answerAsk earlier p (.enable m) := by
        rw [State.judge_ok enable, if_neg (judged _), if_neg goesOn]
      have asked7 : s.judge earlier p 0x07 false [m] = now.answerAsk earlier p (.disable m) := by
        rw [State.judge_ok disable, if_neg (judged _), if_neg goesOn]
      simp only [mine, asked6, asked7, State.answerAsk]
      refine ⟨fun some => if_pos ?_, fun all => if_neg ?_, fun some => if_pos ?_, fun all => if_neg ?_⟩
      · rw [State.anyNamed_iff]; simpa using some
      · rw [State.anyNamed_iff]; simpa using all
      · rw [State.anyNamed_iff]; simpa using some
      · rw [State.anyNamed_iff]; simpa using all
  · rw [State.judgedState_snoc]; rfl
  · rw [State.judgedState_snoc]; exact State.doEnable_on _ mine
  · rw [State.judgedState_snoc]; exact State.doDisable_off _ mine

end Sys2Proof.Machine
end

section
/-! An event that decides qualifications afresh and changes no condition (R99, R109); and ENABLE carried out (R21). -/

namespace Sys2Proof.Machine

/-! ## Only qualifications -/

theorem State.requalify_limit (s : State) (n : Fin 16) : s.requalify.limits.rows.get n =
    (s.limits.rows.get n).requalify (s.limitQualified n) (limitStarvation (s.tables.limitRow n)) := by
  simp [State.requalify]

theorem State.requalify_input (s : State) (r : Fin 3) :
    s.requalify.rotation.get r = (s.rotation.get r).requalify (s.stallQualified r) := by
  simp [State.requalify]

/-- The sources after requalifying: those before, where it releases no condition. -/
theorem State.requalify_sourceActive {s : State}
    (limits : ∀ n, (s.limits.rows.get n).active = true → (s.requalify.limits.rows.get n).active = true)
    (inputs : ∀ r, (s.rotation.get r).stalled = true → (s.requalify.rotation.get r).stalled = true) (i : Fin 31) :
    s.requalify.sourceActive i = s.sourceActive i := by
  have limit (n : Fin 16) : (s.requalify.limits.rows.get n).active = (s.limits.rows.get n).active := by
    refine Bool.eq_iff_iff.mpr ⟨fun on => ?_, limits n⟩
    rw [State.requalify_limit] at on
    exact (LimitRow.requalify_active _ _ _ on).1
  have input (r : Fin 3) : (s.requalify.rotation.get r).stalled = (s.rotation.get r).stalled := by
    refine Bool.eq_iff_iff.mpr ⟨fun on => ?_, inputs r⟩
    rw [State.requalify_input] at on
    exact Rotation.requalify_stalled _ _ on
  unfold State.sourceActive
  rw [limit, input]
  rfl

/-- Where an event changes no source, and rows, units, hold actions and caps agree with the conditions, its course decides
qualifications afresh, and no more, as long as that releases no condition. -/
theorem State.settle_requalifies {s : State} {b : Bank Bool 31} (same : b = s.sources)
    (rows : ∀ n, (s.reflex.rows.get n).agrees (s.tables.reflexRow n) (s.sourceActive (reflexSource (s.tables.reflexRow n))) = true)
    (units : ∀ u, (s.units.get u).deliverHold (s.tables.unitRow u) (s.holdOf u) = s.units.get u)
    (hold : ∀ u, s.reflex.hold.get u = s.holdOf u) (cap : ∀ u, s.reflex.cap.get u = s.capOf u)
    (limits : ∀ n, (s.limits.rows.get n).active = true → (s.requalify.limits.rows.get n).active = true)
    (inputs : ∀ r, (s.rotation.get r).stalled = true → (s.requalify.rotation.get r).stalled = true) :
    s.settle b = s.requalify := by
  have kept : (s.reflex.rows.mapIdx fun n x => x.follow (s.tables.reflexRow n)
      (s.sourceActive (reflexSource (s.tables.reflexRow n))) (s.sourceActive (reflexSource (s.tables.reflexRow n)))) =
      s.reflex.rows :=
    Bank.ext_get fun n => by rw [Bank.get_mapIdx]; exact ReflexRow.follow_same _ _ _ (rows n)
  have followed : s.followSources b = s := by
    unfold State.followSources
    simp only [same, State.sources_get, kept, rowFires]
    simp [State.latchIf, ← Bool.not_eq_true, and_assoc]
  have formed : s.formHolds = s := by
    unfold State.formHolds
    rw [show Bank.tabulate s.holdOf = s.reflex.hold from Bank.ext_get fun u => by rw [Bank.get_tabulate, hold],
      show Bank.tabulate s.capOf = s.reflex.cap from Bank.ext_get fun u => by rw [Bank.get_tabulate, cap],
      show (s.units.mapIdx fun u x => x.deliverHold (s.tables.unitRow u) (s.holdOf u)) = s.units from
        Bank.ext_get fun u => by rw [Bank.get_mapIdx]; exact units u]
  have round : s.settleRound b = s.requalify := by rw [State.settleRound, followed, formed]
  have sources : s.requalify.sources = s.sources :=
    Bank.ext_get fun i => by rw [State.sources_get, State.sources_get, State.requalify_sourceActive limits inputs]
  unfold State.settle State.settleFuel
  rw [round, if_pos sources]

/-- In a settled part, units changed so that FXn stands, each still agrees with its hold action and none drives less than before:
only qualifications are decided afresh. -/
theorem State.Settled.settle_units {s : State} (h : s.Settled) {v : Bank PulseUnit 4}
    (exhausted : ∀ u, (v.get u).exhausted = (s.units.get u).exhausted)
    (obeyed : ∀ u, (v.get u).deliverHold (s.tables.unitRow u) (s.holdOf u) = v.get u)
    (drives : ∀ u d, (s.units.get u).drivesAtLeast d = true → (v.get u).drivesAtLeast d = true) :
    State.settle { s with units := v } s.sources = State.requalify { s with units := v } := by
  have source (i : Fin 31) : State.sourceActive { s with units := v } i = s.sourceActive i := by
    unfold State.sourceActive
    simp only [exhausted]
    rfl
  have limitKept (n : Fin 16) (q : s.limitQualified n = true) : State.limitQualified { s with units := v } n = true := by
    simp only [State.limitQualified, Bool.and_eq_true] at q ⊢
    refine ⟨q.1, ?_⟩
    have := q.2
    revert this
    simp only [State.tables]
    cases limitQualifier (s.service.active.limitRow n) with
    | none => exact id
    | some u => exact drives u _
  have inputKept (r : Fin 3) (q : s.stallQualified r = true) : State.stallQualified { s with units := v } r = true := by
    simp only [State.stallQualified, Bool.and_eq_true] at q ⊢
    refine ⟨q.1, ?_⟩
    have := q.2
    revert this
    simp only [State.tables]
    cases rotationLinked (s.service.active.rotationRow r) with
    | none => exact id
    | some u => exact drives u _
  refine State.settle_requalifies (Bank.ext_get fun i => by rw [State.sources_get, State.sources_get, source])
    (fun n => by rw [source]; exact h.rows n) obeyed h.holds.kept h.holds.capped (fun n on => ?_) fun r on => ?_
  · rw [State.requalify_limit]
    have was : (s.limits.rows.get n).qualified = true := by
      rw [← Bool.not_eq_false]
      intro out
      have := h.fresh n out
      simp_all [LimitRow.atReset]
    rw [limitKept n ((h.qualified n).symm.trans was), LimitRow.requalify_same _ _ _ was]
    exact on
  · rw [State.requalify_input]
    have was : s.stallQualified r = true := by
      rw [← Bool.not_eq_false]
      intro out
      have := h.untimed r out
      simp_all
    rw [inputKept r was, Rotation.requalify_same _ _ ((h.timed r).trans was) (by simp)]
    exact on

/-! ## ENABLE (R21) -/

/-- A unit that an ENABLE takes out of OFF under its hold action agrees with it. -/
theorem PulseUnit.enableUnit_obeys {u : PulseUnit} (row : Row) {h : Hold} (obeys : u.obeys h = true) :
    (u.enableUnit row h).obeys h = true := by
  by_cases off : u.state = .off
  · rw [PulseUnit.enableUnit_off off]
    cases h <;> simp [PulseUnit.obeys, PulseUnit.enabled, Hold.enabledState]
  · rwa [PulseUnit.enableUnit_on off]

@[simp] theorem PulseUnit.enableUnit_exhausted (u : PulseUnit) (row : Row) (h : Hold) : (u.enableUnit row h).exhausted = u.exhausted := by
  by_cases off : u.state = .off
  · rw [PulseUnit.enableUnit_off off, PulseUnit.present_exhausted]
    rfl
  · rw [PulseUnit.enableUnit_on off]

/-- An ENABLE in a settled part with sound gate lines: the named units as R21 has them, and qualifications decided afresh. -/
theorem State.Settled.doEnable {s : State} (h : s.Settled) (gates : ∀ u, (s.units.get u).GatesSound) (m : Byte) :
    s.doEnable m = State.requalify { s with
      units := s.units.mapIdx fun u x => if m.getLsbD u then x.enableUnit (s.tables.unitRow u) (s.holdOf u) else x } := by
  refine h.settle_units (fun u => ?_) (fun u => ?_) fun u d drives => ?_
  · rw [Bank.get_mapIdx]
    split <;> simp
  · rw [Bank.get_mapIdx]
    split
    · exact PulseUnit.deliverHold_same _ _ _ (PulseUnit.enableUnit_obeys _ (h.holds.obeyed u))
        (gatesSound_closed.enable _ _ _ (gates u))
    · exact PulseUnit.deliverHold_same _ _ _ (h.holds.obeyed u) (gates u)
  · rw [Bank.get_mapIdx]
    have on : (s.units.get u).state ≠ .off := by
      have run : (s.units.get u).state = .run := by
        simp only [PulseUnit.drivesAtLeast, Bool.and_eq_true, decide_eq_true_eq] at drives
        exact drives.1
      simp [run]
    rw [PulseUnit.enableUnit_on on, ite_self]
    exact drives

/-- Settles O44. -/
theorem enableTakesUnitsOutOfOff : Obligations.EnableTakesUnitsOutOfOff := by
  intro s r m settled gates run here params small named
  have sound : parseAsk 0x06 r.params = .ok (.enable m) := by rw [params]; exact parseUnitMask_sound small _
  have answer : s.answerAsk [] r.position (.enable m) = .accept (.enable m) :=
    if_pos ((State.anyNamed_iff s m true).mpr (by simpa using named))
  have answered : State.Settled { s with answer := bareAnswer .accepted } := settled.blocks rfl rfl rfl rfl rfl rfl rfl
  refine ⟨State.doEnable { s with answer := bareAnswer .accepted } m, ?_, ?_⟩
  · rw [exec_record_asked (c := .enable r) rfl here sound (.inl run), answer, State.replied_accept]
    rfl
  have kept := answered.carryOut (.enable m)
  change (State.doEnable _ m).Settled at kept
  rw [answered.doEnable gates] at kept ⊢
  refine ⟨rfl, kept, fun u left => ?_, fun u mine off => ?_, rfl, rfl, rfl, rfl, rfl, rfl, rfl, rfl, rfl, rfl⟩
  · simp only [State.requalify_units, Bank.get_mapIdx]
    rcases left with out | on
    · rw [out]; rfl
    · rw [PulseUnit.enableUnit_on on, ite_self]
  · have hold : State.holdOf { s with answer := bareAnswer .accepted } u = s.holdOf u := State.holdOf_congr rfl rfl rfl u
    simp only [State.requalify_units, Bank.get_mapIdx, mine, if_true, PulseUnit.enableUnit_off off, hold]
    simp only [PulseUnit.present_kind, PulseUnit.present_target, PulseUnit.present_stopFlag, PulseUnit.present_demand,
      PulseUnit.present_applied, PulseUnit.present_onTime, PulseUnit.present_dirMemory, PulseUnit.present_zeroCount,
      PulseUnit.present_pending, PulseUnit.present_countDir, PulseUnit.present_state, PulseUnit.present_drive]
    refine ⟨rfl, rfl, rfl, rfl, rfl, rfl, rfl, rfl, rfl, rfl, ?_, ?_⟩ <;> cases s.holdOf u <;> rfl

end Sys2Proof.Machine
end

section
/-! Records carried out whose effect is in one block: TABLE_READ, broadcasts, SWAP, REPORT_MASK, SYNC, WAKE, STANDBY (R145, R149,
R150, R130, R7, R157, R156). -/

namespace Sys2Proof.Machine

/-! ## TABLE_READ (R149) -/

theorem doneReply_fits {room : Nat} {l : List Byte} (fits : l.length ≤ room) :
    doneReply room l = [some 0x00, some (BitVec.ofNat 8 l.length)] ++ l.map some := if_pos fits

theorem doneReply_cut {room : Nat} {l : List Byte} (more : room < l.length) :
    doneReply room l = [some 0x09, some (BitVec.ofNat 8 room)] ++ (l.take room).map some := if_neg (by omega)

theorem parseTableRead_sound (id : TableId) {copy first count : Byte} (one : copy.toNat ≤ 1)
    (range : first.toNat + count.toNat ≤ id.rows) : parseTableRead [BitVec.ofNat 8 id.code, copy, first, count] =
      .ok (.tableRead id (decide (copy.toNat = 1)) first.toNat count.toNat) := by
  simp only [parseTableRead, (TableId.code_byte _ id).mpr rfl]
  exact if_pos ⟨one, range⟩

theorem BitVec.toNat_eq_one (b : Byte) : b.toNat = 1 ↔ b = 1 := ⟨fun e => BitVec.eq_of_toNat_eq e, fun e => e ▸ rfl⟩

/-- Settles O48. -/
theorem tableReadReplies : Obligations.TableReadReplies := by
  intro s r run here
  have loaded : s.phase ≠ .loading := by simp [run]
  have asked := fun a => exec_record_asked (c := .tableRead r) rfl here (a := a) (phase := .inl run)
  have refused := fun bad => exec_record_bad (c := .tableRead r) rfl loaded here (v := .badArg) bad
  rcases parseAsk_judged 0x04 r.params (by omega) (by omega) with sound | bad
  · obtain ⟨id, copy, first, count, params, one, range⟩ := (parseTableRead_ok _).mp sound
    have parsed : parseAsk 0x04 r.params = .ok (.tableRead id (decide (copy.toNat = 1)) first.toNat count.toNat) := by
      rw [params]
      exact parseTableRead_sound id one range
    refine ⟨_, by rw [asked _ parsed, State.answerAsk, State.replied_tell], fun a b c d params' => ?_, fun len => ?_⟩
    · rw [params] at params'
      simp only [List.cons.injEq, and_true] at params'
      obtain ⟨rfl, rfl, rfl, rfl⟩ := params'
      have code : id.code.val < 9 := id.code.isLt
      refine ⟨fun bad => ?_, fun tid same => ?_⟩
      · have : (BitVec.ofNat 8 id.code.val).toNat = id.code.val := by
          rw [BitVec.toNat_ofNat, Nat.mod_eq_of_lt (by omega)]
        omega
      · have same : tid = id := by
          have k := (TableId.code_byte _ tid).mpr same
          rw [(TableId.code_byte _ id).mpr rfl] at k
          exact (Option.some.inj k).symm
        subst same
        refine ⟨fun beyond => absurd range (by omega), fun _ _ => ?_⟩
        have reply : s.tableReply tid (decide (copy.toNat = 1)) first.toNat count.toNat =
            ((((if copy = 1 then s.service.shadow else s.service.active).get tid).drop first.toNat).take count.toNat).flatten := by
          simp [State.tableReply, BitVec.toNat_eq_one]
        rw [reply]
        exact ⟨doneReply_fits, doneReply_cut⟩
    · simp [params] at len
  · refine ⟨_, refused bad, fun id copy first count params => ⟨fun _ => rfl, fun tid same => ⟨fun _ => rfl, fun one range => ?_⟩⟩,
      fun _ => rfl⟩
    have sound := (parseTableRead_ok r.params).mpr ⟨tid, copy, first, count, by rw [params, same], one, range⟩
    rw [show parseTableRead r.params = .error .badArg from bad] at sound
    simp at sound

/-! ## Broadcasts (R145) -/

theorem broadcastAllowed_iff (kind : Nat) :
    broadcastAllowed kind = true ↔ kind ∈ [0x03, 0x05, 0x06, 0x07, 0x08, 0x09, 0x0A, 0x0C, 0x0D, 0x0E] := by
  unfold broadcastAllowed
  exact List.contains_iff_mem

/-- A kind that may be broadcast is judged as one for this hub alone. -/
theorem State.judge_allowed (s : State) (earlier : List Action) (p : Nat) {kind : Nat} (params : List Byte)
    (allowed : broadcastAllowed kind = true) : s.judge earlier p kind true params = s.judge earlier p kind false params := by
  unfold State.judge
  simp [allowed]

theorem State.judge_forbidden (s : State) (earlier : List Action) (p : Nat) {kind : Nat} (params : List Byte)
    (forbidden : broadcastAllowed kind = false) : s.judge earlier p kind true params = .refuse .badKind := by
  unfold State.judge
  simp only [forbidden]
  split <;> rfl

/-- Settles O49. -/
theorem broadcastAnsweredInOwnByte : Obligations.BroadcastAnsweredInOwnByte := by
  intro s earlier p kind params room first last
  have all : (15 : Byte).toNat = 15 := rfl
  constructor
  · intro short
    rw [State.answerRecord, if_pos all, if_pos short]
    rfl
  · intro long
    have answered : s.answerRecord earlier p 15 kind params room =
        ((s.judge earlier p kind true params).broadcast p, (s.judge earlier p kind true params).action) := by
      rw [State.answerRecord, if_pos all, if_neg (by omega)]
    rw [answered]
    refine ⟨_, rfl, fun listed => ?_, fun unlisted => ?_⟩
    · rw [State.judge_allowed s earlier p params ((broadcastAllowed_iff kind).mpr listed)]
      exact ⟨rfl, rfl⟩
    · rw [State.judge_forbidden s earlier p params (by rw [← Bool.not_eq_true, broadcastAllowed_iff]; exact unlisted)]
      exact ⟨rfl, rfl⟩

/-! ## SWAP (R150) -/

/-- The tables before one in id order are those with a lower code. -/
theorem TableId.inOrder_split (id : TableId) :
    TableId.inOrder = TableId.inOrder.take id.code ++ id :: TableId.inOrder.drop (id.code + 1) := by
  cases id <;> rfl

theorem TableId.code_lt_of_mem_take {id jd : TableId} (h : jd ∈ TableId.inOrder.take id.code) : jd.code < id.code := by
  obtain ⟨i, less, rfl⟩ := List.mem_iff_getElem.mp h
  rw [List.length_take] at less
  have at_ : TableId.inOrder[i]? = some (TableId.inOrder.take id.code)[i] := by
    rw [List.getElem_take, ← List.getElem?_eq_getElem]
  have := (TableId.ofCode_eq i _).mp at_
  omega

/-- A search among the members of a list with a property. -/
theorem findSome?_filter {α β : Type} (p : α → Bool) (f : α → Option β) (l : List α) :
    (l.filter p).findSome? f = l.findSome? fun x => if p x then f x else none := by
  induction l with
  | nil => rfl
  | cons x l rest => cases h : p x <;> simp [List.findSome?_cons, h, rest]

/-- What the first failure of a set of tables is searched with (R150). -/
theorem State.swapFailure_eq (s : State) (set : BitVec 9) : s.swapFailure set = TableId.inOrder.findSome? fun id =>
    if set.getLsbD id.code then (structuralFailure id (s.service.shadow.get id)).map fun row => (id, row) else none := by
  exact findSome?_filter _ _ _

/-- The first table in id order that fails names itself and its row. -/
theorem State.swapFailure_some {s : State} {set : BitVec 9} {id : TableId} {n : Nat} (mem : set.getLsbD id.code = true)
    (fails : structuralFailure id (s.service.shadow.get id) = some n)
    (first : ∀ jd : TableId, jd.code < id.code → set.getLsbD jd.code = true → structuralFailure jd (s.service.shadow.get jd) = none) :
    s.swapFailure set = some (id, n) := by
  rw [State.swapFailure_eq]
  refine List.findSome?_eq_some_iff.mpr ⟨_, id, _, TableId.inOrder_split id, ?_, fun jd before => ?_⟩
  · rw [if_pos mem, fails]
    rfl
  · split
    · next named => rw [first jd (TableId.code_lt_of_mem_take before) named]; rfl
    · rfl

theorem State.swapFailure_none {s : State} {set : BitVec 9}
    (sound : ∀ id : TableId, set.getLsbD id.code = true → structuralFailure id (s.service.shadow.get id) = none) :
    s.swapFailure set = none := by
  rw [State.swapFailure_eq]
  refine List.findSome?_eq_none_iff.mpr fun id _ => ?_
  split
  · next named => rw [sound id named]; rfl
  · rfl

/-- Settles O50. -/
theorem swapMarksTables : Obligations.SwapMarksTables := by
  intro s r hi lo run here params small set fails
  have parsed : parseAsk 0x05 r.params = .ok (.swap set) := by
    rw [params]
    refine if_pos ?_
    rw [wordOf_toNat]
    have := lo.isLt
    omega
  rw [exec_record_asked (c := .swap r) rfl here parsed (.inl run), State.answerAsk]
  refine ⟨fun empty => ?_, fun id n mem failed first => ?_, fun some sound => ?_⟩
  · rw [if_pos empty, State.replied_tell, doneReply_nil]
  · have some : set ≠ 0 := fun empty => by simp [empty] at mem
    rw [if_neg some, State.swapFailure_some mem failed first]
    simp [State.replied, Reply.addressed, Verdict.code]
  · rw [if_neg some, State.swapFailure_none sound]
    dsimp only
    rw [State.replied_accept]
    rfl

/-! ## REPORT_MASK, SYNC and WAKE (R130, R7, R157) -/

theorem State.schedule_due {s : State} {lag : Nat} {e : DueEvent} :
    ∃ due, (s.schedule lag).markDue e = { s.schedule lag with due := due } ∧ e ∈ due ∧ ∀ k, k ≠ e → (k ∈ due ↔ k ∈ s.due) := by
  obtain ⟨due, eq⟩ := (s.schedule lag).markDue_frame e
  have mem (k : DueEvent) : k ∈ due ↔ k ∈ s.due ∨ k = e := by
    have := (s.schedule lag).mem_markDue e k
    rw [eq] at this
    exact this
  exact ⟨due, eq, (mem e).mpr (.inr rfl), fun k ne => by simp [mem, ne]⟩

theorem State.doSync_later {s : State} (lag : 0 < beatSyncLag s.tables.beatRow) :
    s.doSync = s.schedule (beatSyncLag s.tables.beatRow) := if_pos lag

theorem State.doSync_meets {s : State} (lag : ¬0 < beatSyncLag s.tables.beatRow) (taken : s.boundaryTaken = true) :
    s.doSync = s.meetBoundary := (if_neg lag).trans (if_pos taken)

theorem State.doSync_now {s : State} (lag : ¬0 < beatSyncLag s.tables.beatRow) (between : ¬s.boundaryTaken = true) :
    s.doSync = (s.schedule (beatSyncLag s.tables.beatRow)).markDue .restart := (if_neg lag).trans (if_neg between)

theorem State.doWake_later {s : State} (lag : beatSyncLag s.tables.beatRow ≠ 0) :
    s.doWake = s.schedule (beatSyncLag s.tables.beatRow) := if_neg (by simpa using lag)

theorem State.doWake_now {s : State} (lag : beatSyncLag s.tables.beatRow = 0) :
    s.doWake = (s.schedule (beatSyncLag s.tables.beatRow)).markDue .wakeStart := if_pos (by simpa using lag)

/-- Settles O53. -/
theorem maskSyncAndWakeExecute : Obligations.MaskSyncAndWakeExecute := by
  intro s r here at_
  have sync (run : s.phase = .run) (params : r.params = []) :
      exec (.sync r) s = .next (State.doSync { s with answer := bareAnswer .accepted }) := by
    rw [exec_record_asked (c := .sync r) rfl here (a := .sync) (by rw [params]; rfl) (.inl run), State.answerAsk,
      State.replied_accept]
    simp [State.carryOut, State.inStandby, run]
  refine ⟨fun hi lo run params => ?_, fun run params off => ?_, fun run params now zero => ?_, fun standby params => ?_,
    fun run params => ?_⟩
  · rw [exec_record_asked (c := .reportMask r) rfl here (a := .reportMask (wordOf hi lo)) (by rw [params]; rfl) (.inl run),
      State.answerAsk, State.replied_accept]
    rfl
  · rw [sync run params]
    by_cases lag : 0 < beatSyncLag (s.tables.row .beat 0)
    · refine ⟨s.due, ?_, fun now => absurd now (by omega), fun _ => rfl, fun _ _ => Iff.rfl⟩
      exact congrArg _ (State.doSync_later (s := { s with answer := bareAnswer .accepted }) lag)
    · have here : at_ = s.now := by omega
      have between : ¬(State.boundaryTaken { s with answer := bareAnswer .accepted } = true) := by
        have off := off.resolve_left (absurd here)
        simp [State.boundaryTaken, off]
      obtain ⟨due, eq, mem, others⟩ := State.schedule_due (s := { s with answer := bareAnswer .accepted })
        (lag := beatSyncLag (s.tables.row .beat 0)) (e := .restart)
      refine ⟨due, ?_, fun _ => mem, fun later => absurd here later, others⟩
      exact congrArg _ ((State.doSync_now (s := { s with answer := bareAnswer .accepted }) lag between).trans eq)
  · have lag : ¬0 < beatSyncLag (s.tables.row .beat 0) := by omega
    have taken : State.boundaryTaken { s with answer := bareAnswer .accepted } = true := by
      simp [State.boundaryTaken, State.beatRunning, run, zero]
    rw [sync run params]
    rw [State.doSync_meets (s := { s with answer := bareAnswer .accepted }) lag taken]
    refine ⟨_, rfl, rfl, fun e => ?_, ?_, fun c conv => ?_⟩
    · rw [Bank.get_map]; rfl
    · simp
    · simp [conv]
  · have wake : exec (.wake r) s = .next (State.doWake { s with answer := bareAnswer .accepted }) := by
      rw [exec_record_asked (c := .wake r) rfl here (a := .wake) (by rw [params]; rfl) (.inr ⟨standby, rfl⟩), State.answerAsk,
        if_pos ⟨by simp [State.inStandby, standby], by simp⟩, State.replied_accept]
      simp [State.carryOut, State.inStandby, standby]
    rw [wake]
    by_cases lag : beatSyncLag (s.tables.row .beat 0) = 0
    · obtain ⟨due, eq, mem, others⟩ := State.schedule_due (s := { s with answer := bareAnswer .accepted })
        (lag := beatSyncLag (s.tables.row .beat 0)) (e := .wakeStart)
      refine ⟨due, ?_, fun _ => mem, fun later => absurd (by omega) later, others⟩
      exact congrArg _ ((State.doWake_now (s := { s with answer := bareAnswer .accepted }) lag).trans eq)
    · refine ⟨s.due, ?_, fun now => absurd now (by omega), fun _ => rfl, fun _ _ => Iff.rfl⟩
      exact congrArg _ (State.doWake_later (s := { s with answer := bareAnswer .accepted }) lag)
  · rw [exec_record_asked (c := .wake r) rfl here (a := .wake) (by rw [params]; rfl) (.inl run), State.answerAsk,
      if_neg (by simp [State.inStandby, run]), State.replied_tell, doneReply_nil]

end Sys2Proof.Machine
end

section
/-! STANDBY and the soft resets carried out (R156, R12, R36). -/

namespace Sys2Proof.Machine

/-! ## STANDBY (R156) -/

theorem State.allOff_iff (s : State) : s.allOff = true ↔ ∀ u, (s.units.get u).state = .off := by simp [State.allOff]

/-- Settles O54. -/
theorem standbyEntered : Obligations.StandbyEntered := by
  intro s r run here params
  have parsed : parseAsk 0x0C r.params = .ok .standby := by rw [params]; rfl
  rw [exec_record_asked (c := .standby r) rfl here parsed (.inl run), State.answerAsk]
  refine ⟨fun some => ?_, fun all busy => ?_, fun all idle => ?_⟩
  · have notAll : (!s.allOff) = true := by
      rw [Bool.not_eq_true', ← Bool.not_eq_true, State.allOff_iff]
      simpa using some
    rw [if_pos notAll, State.replied_refuse]
  · have allOff := (State.allOff_iff s).mpr all
    rw [if_neg (by simp [allOff]), if_pos busy, State.replied_refuse]
  · have allOff := (State.allOff_iff s).mpr all
    rw [if_neg (by simp [allOff]), if_neg idle, State.replied_accept]
    have stands : ∀ t : State, t.phase = .run → t.doStandby = { t.flush.dropPlan.takeLatches.dropBeatDue with
        phase := .standby
        beat := { t.beat with position := 0, restart := none }
        link := { t.link with timer := .stopped } } := by
      intro t run
      simp only [State.doStandby, run, if_true]
    have entered := stands { s with answer := bareAnswer .accepted } run
    refine ⟨_, _, congrArg _ entered, rfl, rfl, fun e => ?_, fun c => ?_⟩
    · simp [State.dropBeatDue, State.takeLatches, State.dropPlan, State.flush, ScanEntry.restart]
    · exact Bank.get_mapIdx _ _ c

/-! ## RESET UNITS (R36) -/

/-- A course whose first round changes no source ends with it. -/
theorem State.settle_once {s : State} {b : Bank Bool 31} (same : (s.settleRound b).sources = s.sources) :
    s.settle b = s.settleRound b := by
  unfold State.settle State.settleFuel
  exact if_pos same

/-- With every unit in OFF no rotation input is stall-qualified (R99). -/
theorem State.stallQualified_off {s : State} (off : ∀ u, (s.units.get u).state = .off) (r : Fin 3) : s.stallQualified r = false := by
  unfold State.stallQualified
  dsimp only
  cases rotationLinked (s.tables.rotationRow r) <;> simp [PulseUnit.drivesAtLeast, off]

/-- With every unit in OFF, no limit row active and no input stalled, the course of the contacts' rows is one round, and the units
stand. -/
theorem State.settle_off {s : State} {b : Bank Bool 31} (off : ∀ u, (s.units.get u).state = .off)
    (limits : ∀ n, (s.limits.rows.get n).active = false) (inputs : ∀ r, (s.rotation.get r).stalled = false) :
    s.settle b = s.settleRound b ∧ (s.settleRound b).units = s.units := by
  have units : (s.settleRound b).units = s.units := Bank.ext_get fun u => by
    rw [State.settleRound_units_get, PulseUnit.deliverHold_off _ _ _ (off u)]
  have limit (n : Fin 16) : ((s.settleRound b).limits.rows.get n).active = (s.limits.rows.get n).active := by
    rw [limits, ← Bool.not_eq_true, State.settleRound_limits_get]
    intro on
    exact absurd (LimitRow.requalify_active _ _ _ on).1 (by simp [limits])
  have input (r : Fin 3) : ((s.settleRound b).rotation.get r).stalled = (s.rotation.get r).stalled := by
    rw [inputs, ← Bool.not_eq_true, State.settleRound_rotation_get]
    intro on
    exact absurd (Rotation.requalify_stalled _ _ on) (by simp [inputs])
  refine ⟨State.settle_once (Bank.ext_get fun i => ?_), units⟩
  rw [State.sources_get, State.sources_get]
  unfold State.sourceActive
  rw [limit, input, units]
  unfold State.contactActive State.conditionerRunning
  simp only [State.settleRound_phase, State.settleRound_contacts, State.settleRound_tables]

/-- A limit row after a RESET UNITS, qualified or not (R117). -/
def LimitRow.Cleared (x : LimitRow) : Prop :=
  x.active = false ∧ x.tripRun = 0 ∧ x.releaseRun = 0 ∧ x.declared = false ∧ (x.starve = none ∨ x.starve = some 0)

theorem LimitRow.atUnitsReset_cleared (x : LimitRow) : x.atUnitsReset.Cleared := by
  refine ⟨rfl, rfl, rfl, rfl, ?_⟩
  cases e : x.starve <;> simp [LimitRow.atUnitsReset, e]

theorem LimitRow.Cleared.requalify {x : LimitRow} (h : x.Cleared) (q : Bool) (v : Nat) : (x.requalify q v).Cleared := by
  unfold LimitRow.requalify
  split
  · exact h
  · split
    · refine ⟨rfl, rfl, rfl, rfl, ?_⟩
      by_cases some : 0 < v <;> simp [some]
    · exact ⟨rfl, rfl, rfl, rfl, .inl rfl⟩

/-- The part with everything a RESET UNITS clears cleared, before the rows are built again (R36, R72, R104, R117, R128). -/
def State.unitsCleared (s : State) : State :=
  let cleared : State := { s.flush with
    cause := .softUnits
    units := s.units.map PulseUnit.resetUnit
    rotation := s.rotation.map fun x => { x with stallTimer := none, stalled := false }
    limits := { s.limits with rows := s.limits.rows.map LimitRow.atUnitsReset }
    reflex := { s.reflex with rows := Bank.all 16 { active := false, fired := false } } }
  (cleared.passCauses.latch .start).requalify

theorem State.doResetUnits_eq (s : State) : s.doResetUnits = s.unitsCleared.settle (Bank.all 31 false) := rfl

theorem State.unitsCleared_unit (s : State) (u : Fin 4) : s.unitsCleared.units.get u = (s.units.get u).resetUnit := Bank.get_map _ _ _

theorem State.unitsCleared_off (s : State) (u : Fin 4) : (s.unitsCleared.units.get u).state = .off := by
  rw [State.unitsCleared_unit, PulseUnit.resetUnit_state]

theorem State.unitsCleared_limit (s : State) (n : Fin 16) : (s.unitsCleared.limits.rows.get n).Cleared := by
  unfold State.unitsCleared
  rw [State.requalify_limit]
  refine LimitRow.Cleared.requalify ?_ _ _
  simp only [State.latch_limits, State.passCauses, Bank.get_map]
  exact LimitRow.atUnitsReset_cleared _

theorem State.unitsCleared_input (s : State) (r : Fin 3) :
    s.unitsCleared.rotation.get r = { s.rotation.get r with stallTimer := none, stalled := false } := by
  unfold State.unitsCleared
  rw [State.requalify_input, State.stallQualified_off (fun u => by simp [State.passCauses])]
  simp [State.passCauses, Rotation.requalify]

theorem State.unitsCleared_row (s : State) (n : Fin 16) : s.unitsCleared.reflex.rows.get n = { active := false, fired := false } :=
  Bank.get_all _ _

/-- Of the sources the contacts alone are active after a RESET UNITS. -/
theorem State.unitsCleared_sourceActive (s : State) (i : Fin 31) :
    s.unitsCleared.sourceActive i = (decide (16 ≤ i.val) && s.sourceActive i && decide (i.val < 24)) := by
  unfold State.sourceActive
  split
  · next limit => simp [(s.unitsCleared_limit _).1, limit]
  · next low =>
    split
    · next contact =>
      rw [decide_eq_true (by omega : 16 ≤ i.val), decide_eq_true contact, Bool.true_and, Bool.and_true]
      rfl
    · next high =>
      have out : ¬i.val < 24 := high
      simp [out, State.unitsCleared_input, State.unitsCleared_unit]

/-- The reflex rows after a RESET UNITS: those fire whose contact is active. -/
theorem State.doResetUnits_row (s : State) (n : Fin 16) :
    let on := reflexEnabled (s.tables.reflexRow n) && decide (16 ≤ (reflexSource (s.tables.reflexRow n)).val) &&
      s.sourceActive (reflexSource (s.tables.reflexRow n)) && decide ((reflexSource (s.tables.reflexRow n)).val < 24)
    s.doResetUnits.reflex.rows.get n = { active := on, fired := on } := by
  rw [State.doResetUnits_eq, (State.settle_off s.unitsCleared_off (fun n => (s.unitsCleared_limit n).1)
    (fun r => by rw [State.unitsCleared_input])).1, State.settleRound_rows, State.unitsCleared_row,
    State.unitsCleared_sourceActive, Bank.get_all, show s.unitsCleared.tables = s.tables from rfl]
  unfold ReflexRow.follow ReflexRow.fire
  cases reflexEnabled (s.tables.reflexRow n)
  · rfl
  · simp only [Bool.true_and, Bool.not_false, Bool.and_true, if_true]
    split
    · next on => rw [on]
    · next off =>
      rw [Bool.not_eq_true] at off
      rw [off]
      split <;> rfl

theorem State.unitsCleared_events (s : State) (i : Nat) (other : i ≠ 0) :
    s.unitsCleared.status.events.getLsbD i = s.status.events.getLsbD i := State.latch_other _ .start i other

/-- REFLEX_FIRED after a course that begins with no source active: set before, or set by a row that fires. -/
theorem State.doResetUnits_fired (s : State) : s.doResetUnits.status.events.getLsbD 9 = true ↔
    s.status.events.getLsbD 9 = true ∨ ∃ n, (s.doResetUnits.reflex.rows.get n).fired = true := by
  have once := State.settle_off (b := Bank.all 31 false) s.unitsCleared_off (fun n => (s.unitsCleared_limit n).1)
    (fun r => by rw [State.unitsCleared_input])
  constructor
  · intro set
    rw [State.doResetUnits_eq, once.1] at set
    by_contra none
    push Not at none
    obtain ⟨was, rows⟩ := none
    refine was ?_
    have quiet (n : Fin 16) : rowFires (s.unitsCleared.tables.reflexRow n) false
        (s.unitsCleared.sourceActive (reflexSource (s.unitsCleared.tables.reflexRow n))) = false := by
      have := rows n
      rw [State.doResetUnits_row] at this
      rw [State.unitsCleared_sourceActive, show s.unitsCleared.tables = s.tables from rfl]
      simpa [rowFires, Bool.and_assoc] using this
    have status : (s.unitsCleared.settleRound (Bank.all 31 false)).status = s.unitsCleared.status := by
      simp only [State.settleRound, State.requalify_status, State.formHolds_status, State.followSources, Bank.get_all, quiet]
      simp [State.latchIf]
    rwa [status, State.unitsCleared_events s 9 (by omega)] at set
  · rintro (was | ⟨n, fired⟩)
    · exact State.settle_keeps _ _ 9 ((State.unitsCleared_events s 9 (by omega)).trans was)
    · rw [State.doResetUnits_row] at fired
      simp only [Bool.and_eq_true] at fired
      obtain ⟨⟨⟨enabled, above⟩, on⟩, below⟩ := fired
      refine (State.settle_fires s.unitsCleared _ n enabled (Bank.get_all _ _) ?_).2.1
      rw [State.unitsCleared_sourceActive]
      simp only [Bool.and_eq_true]
      exact ⟨⟨above, on⟩, below⟩

/-- Settles O57. -/
theorem softResetsExecute : Obligations.SoftResetsExecute := by
  intro s p target room run first last here offAgain
  have addressed : ∀ params, addressedHere { position := p, target := target, params := params, room := room } :=
    fun params => ⟨here, first, last⟩
  constructor
  · refine ⟨State.doResetFull { s with answer := bareAnswer .accepted }, ?_, rfl, fun e mem => List.mem_of_mem_filter mem,
      fun u => ?_⟩
    · rw [exec_record_asked (c := .resetFull p target room) rfl (addressed _) (a := .resetFull) rfl (.inl run), State.answerAsk,
        State.replied_accept]
      rfl
    · have unit : (State.doResetFull { s with answer := bareAnswer .accepted }).units.get u = (s.units.get u).resetUnit :=
        Bank.get_map _ _ _
      simp only [offAgain, unit]
      exact PulseUnit.resetUnit_frame _
  · have carried : exec (.resetUnits p target room) s = .next (State.doResetUnits { s with answer := bareAnswer .accepted }) := by
      rw [exec_record_asked (c := .resetUnits p target room) rfl (addressed _) (a := .resetUnits) rfl (.inl run), State.answerAsk,
        State.replied_accept]
      rfl
    have course := State.settle_course (State.unitsCleared { s with answer := bareAnswer .accepted }) (Bank.all 31 false)
    have once := State.settle_off (s := State.unitsCleared { s with answer := bareAnswer .accepted }) (b := Bank.all 31 false)
      (State.unitsCleared_off _) (fun n => (State.unitsCleared_limit _ n).1) (fun r => by rw [State.unitsCleared_input])
    rw [← State.doResetUnits_eq] at course once
    refine ⟨_, carried, course.answer, course.cause, course.phase.trans run, fun u => ?_, fun e => ?_, ?_, ?_, fun i set => ?_, ?_,
      course.causes.1, course.causes.2.1, course.causes.2.2, fun n => ?_, course.warnLive, course.supplyLow, fun q => ?_, fun n => ?_,
      State.doResetUnits_fired _, course.mask, course.beat, course.slots, course.contacts, course.link, course.service,
      course.profile, course.due⟩
    · have unit : (State.doResetUnits { s with answer := bareAnswer .accepted }).units.get u = (s.units.get u).resetUnit := by
        rw [once.1, once.2, State.unitsCleared_unit]
      simp only [offAgain, unit]
      exact PulseUnit.resetUnit_frame _
    · rw [course.scan]
      exact Bank.get_map _ _ e
    · rw [course.scan]
      rfl
    · rw [course.scan]
      rfl
    · exact State.settle_keeps _ _ i (State.latch_keeps _ .start i set)
    · exact State.settle_keeps _ _ 0 (State.latch_self _ .start)
    · exact State.settle_limits (fun _ x => x.Cleared) (fun _ _ q v h => h.requalify q v) _ _ (State.unitsCleared_limit _) n
    · have input : (State.doResetUnits { s with answer := bareAnswer .accepted }).rotation.get q =
          { s.rotation.get q with stallTimer := none, stalled := false } := by
        rw [once.1, State.settleRound_rotation_get, State.stallQualified_off (fun u => by rw [once.2, State.unitsCleared_off]),
          State.unitsCleared_input]
        rfl
      rw [input]
      exact ⟨rfl, rfl, rfl⟩
    · rw [State.doResetUnits_row]
      exact ⟨rfl, rfl⟩

end Sys2Proof.Machine
end

section
/-! What IDENTIFY and READ_STATE read out (R147, R158): bytes and bits of the replies. -/

namespace Sys2Proof.Machine

/-! ## Bytes and bits -/

theorem natOfBits_lt (l : List Bool) : natOfBits l < 2 ^ l.length := by
  induction l with
  | nil => simp [natOfBits]
  | cons b l less =>
    have := b.toNat_le
    simp only [natOfBits, List.length_cons, Nat.pow_succ]
    omega

/-- A 16-bit field is put together from its two bytes. -/
theorem wordOf_bytes (w : Word16) : wordOf (w.extractLsb' 8 8) (w.extractLsb' 0 8) = w := by
  refine BitVec.eq_of_toNat_eq ?_
  have := w.isLt
  rw [wordOf_toNat, BitVec.extractLsb'_toNat, BitVec.extractLsb'_toNat, Nat.shiftRight_eq_div_pow, Nat.shiftRight_eq_div_pow]
  omega

@[simp] theorem wordBytes_length (w : Word16) : (wordBytes w).length = 2 := rfl
@[simp] theorem natBytes_length (n : Nat) : (natBytes n).length = 2 := rfl
@[simp] theorem intBytes_length (n : Int) : (intBytes n).length = 2 := rfl

/-- A bit of a byte that carries two masks of flags, the second from bit `k` on. -/
theorem getLsbD_twoMasks {low high : List Bool} {k i : Nat} (room : low.length ≤ k) (byte : i < 8) :
    (BitVec.ofNat 8 (natOfBits low + 2 ^ k * natOfBits high)).getLsbD i =
      if i < k then low.getD i false else high.getD (i - k) false := by
  have less : natOfBits low < 2 ^ k := (natOfBits_lt low).trans_le (Nat.pow_le_pow_right (by omega) room)
  rw [BitVec.getLsbD_ofNat, decide_eq_true byte, Bool.true_and, Nat.add_comm, Nat.testBit_two_pow_mul_add _ less, testBit_natOfBits,
    testBit_natOfBits]

/-! ## Replies in blocks of one length -/

theorem flatten_length {α : Type} (f : α → List Byte) {k : Nat} (len : ∀ x, (f x).length = k) (l : List α) :
    ((l.map f).flatten).length = k * l.length := by
  induction l with
  | nil => simp
  | cons x l ih => simp [len, ih, Nat.mul_add, Nat.add_comm]

/-- A block of a reply made of blocks of one length. -/
theorem flatten_block {α : Type} (f : α → List Byte) {k : Nat} (len : ∀ x, (f x).length = k) (l : List α) {i : Nat} {x : α}
    (at_ : l[i]? = some x) : (((l.map f).flatten).drop (k * i)).take k = f x := by
  induction l generalizing i with
  | nil => simp at at_
  | cons y l ih =>
    cases i with
    | zero =>
      obtain rfl : y = x := by simpa using at_
      simp [len]
    | succ i =>
      have rest : l[i]? = some x := by simpa using at_
      have skip : k * (i + 1) = (f y).length + k * i := by rw [len, Nat.mul_add, Nat.mul_one, Nat.add_comm]
      rw [List.map_cons, List.flatten_cons, skip, List.drop_append, List.drop_of_length_le (by omega), List.nil_append,
        Nat.add_sub_cancel_left, ih rest]

/-- The j-th byte of such a block. -/
theorem flatten_byte {α : Type} (f : α → List Byte) {k : Nat} (len : ∀ x, (f x).length = k) (l : List α) {i j : Nat} {x : α}
    (at_ : l[i]? = some x) (inside : j < k) : ((l.map f).flatten)[k * i + j]? = (f x)[j]? := by
  rw [← flatten_block f len l at_, List.getElem?_take_of_lt inside, List.getElem?_drop]

theorem finRange_at {n : Nat} (i : Fin n) : (List.finRange n)[i.val]? = some i := by
  simp

/-! ## The replies -/

theorem State.unitReply_length (s : State) (u : Fin 4) : (s.unitReply u).length = 10 := rfl
theorem State.slotReply_length (s : State) (n : Nat) : (s.slotReply n).length = 5 := rfl
theorem State.rotationReply_length (s : State) (r : Fin 3) : (s.rotationReply r).length = 8 := rfl

theorem ofNat_toNat (b : Bool) : BitVec.ofNat 8 b.toNat = if b then 1 else 0 := by cases b <;> rfl

/-- The bits of a rotation input's stall condition and count direction. -/
theorem State.rotationBits_eq (s : State) (r : Fin 3) : s.rotationBits r =
    BitVec.ofNat 8 ((if (s.rotation.get r).stalled then 1 else 0) + match rotationLinked (s.tables.rotationRow r) with
      | some u => if (s.units.get u).countDir = .rev then 2 else 0
      | none => 0) := by
  unfold State.rotationBits State.edgeDir
  cases rotationLinked (s.tables.rotationRow r) with
  | none => cases (s.rotation.get r).stalled <;> rfl
  | some u =>
    dsimp only
    by_cases rev : (s.units.get u).countDir = .rev <;> cases (s.rotation.get r).stalled <;> simp [rev, natOfBits]

theorem State.contactActive_run {s : State} (run : s.phase = .run) (c : Fin 8) :
    s.contactActive c = decide ((s.contacts.get c).filtered = contactPolarity (s.tables.contactRow c)) := by
  simp only [State.contactActive, State.conditionerRunning, run, decide_true, Bool.true_or, Bool.true_and]
  exact beq_eq_decide _ _

/-- The READ_STATE INPUTS reply: three masks, then the rotation inputs block by block. -/
theorem State.inputsReply_eq (s : State) : s.inputsReply =
    s.levelMask :: s.changeMask :: s.contactMask :: ((List.finRange 3).map s.rotationReply).flatten := rfl

theorem State.inputsReply_byte (s : State) (q : Fin 3) {j : Nat} (inside : j < 8) :
    s.inputsReply[3 + 8 * q.val + j]? = (s.rotationReply q)[j]? := by
  rw [← flatten_byte s.rotationReply s.rotationReply_length _ (finRange_at q) inside, State.inputsReply_eq,
    show 3 + 8 * q.val + j = (8 * q.val + j) + 1 + 1 + 1 by omega, List.getElem?_cons_succ, List.getElem?_cons_succ,
    List.getElem?_cons_succ]

theorem State.inputsReply_take (s : State) (q : Fin 3) :
    (s.inputsReply.drop (3 + 8 * q)).take 6 = (s.rotationReply q).take 6 := by
  rw [← flatten_block s.rotationReply s.rotationReply_length _ (finRange_at q), State.inputsReply_eq,
    show 3 + 8 * q.val = (8 * q.val) + 1 + 1 + 1 by omega, List.drop_succ_cons, List.drop_succ_cons, List.drop_succ_cons,
    List.take_take]
  rfl

/-- Settles O52. -/
theorem stateReadOut : Obligations.StateReadOut := by
  intro s r run here
  have asked := fun a parsed => exec_record_asked (c := .readState r) rfl here (a := a) parsed (.inl run)
  refine ⟨fun params => ?_, fun params => ?_, fun first count params low range => ?_, fun params => ?_, fun params => ?_,
    fun params => ?_⟩
  · intro reply
    rw [exec_record_asked (c := .identify r) rfl here (a := .identify) (by rw [params]; rfl) (.inl run), State.answerAsk,
      State.replied_tell]
    have same : s.identifyReply r.position = reply := by
      simp only [State.identifyReply, reply, ofNat_toNat]
      rfl
    rw [same]
  · refine ⟨_, by rw [asked .readUnits (by rw [params]; rfl), State.answerAsk, State.replied_tell],
      flatten_length _ s.unitReply_length _, fun u => ?_⟩
    exact flatten_block _ s.unitReply_length _ (finRange_at u)
  · have parsed : parseAsk 0x02 r.params = .ok (.readResults first.toNat count.toNat) := by
      rw [params]
      exact if_pos ⟨rfl, low, range⟩
    refine ⟨_, by rw [asked _ parsed, State.answerAsk, State.replied_tell], ?_, fun i less => ?_⟩
    · rw [flatten_length _ (fun i => s.slotReply_length _), List.length_range]
    · rw [flatten_block _ (fun i => s.slotReply_length _) _ (x := i) (by simp [less])]
      simp only [State.slotReply, ofNat_toNat]
  · refine ⟨_, by rw [asked .readInputs (by rw [params]; rfl), State.answerAsk, State.replied_tell], ?_, fun c => ?_, fun q => ?_⟩
    · rw [State.inputsReply_eq, List.length_cons, List.length_cons, List.length_cons, flatten_length _ s.rotationReply_length]
      rfl
    · refine ⟨getLsbD_maskOf _ c, getLsbD_maskOf _ c, ?_⟩
      rw [← State.contactActive_run run]
      exact getLsbD_maskOf _ c
    · refine ⟨s.inputsReply_take q, fun idle => ?_, fun k runs => ?_, ?_⟩
      · rw [State.inputsReply_byte s q (by omega)]
        simp [State.rotationReply, idle, wordBytes, natBytes]
      · rw [State.inputsReply_byte s q (by omega)]
        simp [State.rotationReply, runs, wordBytes, natBytes]
      · rw [State.inputsReply_byte s q (by omega)]
        exact congrArg some (s.rotationBits_eq q)
  · have masks {i : Nat} (byte : i < 8) := getLsbD_twoMasks (k := 4) (low := (List.finRange 3).map fun r => (s.rotation.get r).stalled)
      (high := (List.finRange 4).map fun u => (s.units.get u).exhausted) (by simp) byte
    have causes {i : Nat} (byte : i < 8) : (BitVec.ofNat 8 s.causeBits).getLsbD i =
        [s.reflex.link, s.reflex.thermal, s.reflex.supply, s.limits.warnLive].getD i false := by
      rw [BitVec.getLsbD_ofNat, decide_eq_true byte, Bool.true_and, State.causeBits, testBit_natOfBits]
    refine ⟨_, _, _, _, _, _, _, by rw [asked .readConditions (by rw [params]; rfl), State.answerAsk, State.replied_tell]; rfl,
      fun n => ?_, fun c => ?_, fun q => ?_, ?_, fun u => ?_, fun n => ?_, causes (by omega), causes (by omega), causes (by omega),
      causes (by omega), ?_⟩
    · rw [wordOf_bytes]
      exact getLsbD_maskOf _ n
    · rw [← State.contactActive_run run]
      exact getLsbD_maskOf _ c
    · refine (masks (by omega)).trans ?_
      rw [if_pos (by omega)]
      simp
    · exact (masks (by omega)).trans (if_pos (by omega))
    · refine (masks (by omega)).trans ?_
      rw [if_neg (by omega)]
      simp
    · rw [wordOf_bytes]
      exact getLsbD_maskOf _ n
    · have less : s.causeBits < 2 ^ 4 := natOfBits_lt _
      rw [BitVec.toNat_ofNat, Nat.mod_eq_of_lt (by omega)]
      exact less
  · refine ⟨_, by rw [asked .readEvents (by rw [params]; rfl), State.answerAsk, State.replied_tell], ?_, rfl, fun n => ?_, rfl,
      fun e => ?_⟩
    · simp [State.eventsReply]
    · have masks : wordOf (s.eventsReply.getD 4 0) (s.eventsReply.getD 5 0) = s.firedMask := wordOf_bytes _
      rw [masks]
      exact getLsbD_maskOf _ n
    · rw [State.eventsReply, List.getElem?_append_right (by simp)]
      simp

end Sys2Proof.Machine
end

section
/-! TABLE_WRITE (R148): the rows cut from the bytes, clamped, and stored; and what clamping makes of a row of each table. -/

namespace Sys2Proof.Machine

/-! ## Rows written -/

theorem cutRows_length (size k : Nat) (bytes : List Byte) : (cutRows size k bytes).length = k := by
  induction k generalizing bytes with
  | zero => rfl
  | succ k ih => simp [cutRows, ih]

theorem cutRows_get (size k : Nat) (bytes : List Byte) {i : Nat} (less : i < k) :
    (cutRows size k bytes)[i]'(by rwa [cutRows_length]) = (bytes.drop (i * size)).take size := by
  induction k generalizing bytes i with
  | zero => omega
  | succ k ih =>
    cases i with
    | zero => simp [cutRows]
    | succ i =>
      simp only [cutRows, List.getElem_cons_succ]
      rw [ih (bytes.drop size) (by omega), List.drop_drop, Nat.succ_mul, Nat.add_comm]

/-- No row of a TABLE_WRITE holds a field to clamp. -/
theorem firstClamped_none {id : TableId} {first : Nat} {rows : List Row}
    (kept : ∀ i (less : i < rows.length), clampRow id (first + i) rows[i] = rows[i]) : firstClamped id first rows = none := by
  induction rows generalizing first with
  | nil => rfl
  | cons r rows ih =>
    have head : clampRow id first r = r := kept 0 (by simp)
    rw [firstClamped, if_pos head]
    refine ih fun i less => ?_
    have := kept (i + 1) (by simpa using less)
    rwa [List.getElem_cons_succ, ← Nat.add_assoc, Nat.add_right_comm] at this

/-- The lowest row that clamping changed. -/
theorem firstClamped_some {id : TableId} {first i : Nat} {rows : List Row} (less : i < rows.length)
    (changed : clampRow id (first + i) rows[i] ≠ rows[i])
    (before : ∀ j (lt : j < i), clampRow id (first + j) (rows[j]'(by omega)) = rows[j]'(by omega)) :
    firstClamped id first rows = some (first + i) := by
  induction rows generalizing first i with
  | nil => simp at less
  | cons r rows ih =>
    cases i with
    | zero => exact if_neg changed
    | succ i =>
      have head : clampRow id first r = r := before 0 (by omega)
      rw [firstClamped, if_pos head, ih (i := i) (by simpa using less)]
      · rw [Nat.add_right_comm, Nat.add_assoc]
      · rwa [List.getElem_cons_succ, ← Nat.add_assoc, Nat.add_right_comm] at changed
      · intro j lt
        have := before (j + 1) (by omega)
        rwa [List.getElem_cons_succ, ← Nat.add_assoc, Nat.add_right_comm] at this

/-- The rows of a table after some were stored from one on. -/
theorem Tables.row_store (t : Tables) (id : TableId) (first : Nat) (rows : List Row) {i : Nat} (less : i < (t.get id).length) :
    (t.store id first rows).row id i = if first ≤ i then rows.getD (i - first) (t.row id i) else t.row id i := by
  unfold Tables.store Tables.row
  rw [Tables.get_set, if_pos rfl]
  simp [List.getD_eq_getElem?_getD, less]

theorem parseTableWrite_sound (id : TableId) {first count : Byte} {bytes : List Byte} (range : first.toNat + count.toNat ≤ id.rows)
    (length : bytes.length = count.toNat * id.rowSize) : parseTableWrite (BitVec.ofNat 8 id.code :: first :: count :: bytes) =
      .ok (.tableWrite id first.toNat (cutRows id.rowSize count.toNat bytes)) := by
  simp only [parseTableWrite, (TableId.code_byte _ id).mpr rfl]
  exact if_pos ⟨range, length⟩

/-- The verdict on a TABLE_WRITE that is carried out, with the lowest row that clamping changed. -/
def writeReply (id : TableId) (first : Nat) (rows : List Row) : Reply :=
  match firstClamped id first rows with
  | none => .accept (.tableWrite id first (clampRows id first rows))
  | some n => ⟨.clamped, [BitVec.ofNat 8 n], some (.tableWrite id first (clampRows id first rows))⟩

theorem writeReply_action (id : TableId) (first : Nat) (rows : List Row) :
    (writeReply id first rows).action = some (.tableWrite id first (clampRows id first rows)) := by
  unfold writeReply; split <;> rfl

/-- The first half of O47: what a TABLE_WRITE stores and answers. -/
theorem tableWrite_executed {s : State} {r : Request} {id : TableId} {first count : Byte} {bytes : List Byte}
    (run : s.phase = .run) (here : addressedHere r) (params : r.params = BitVec.ofNat 8 id.code :: first :: count :: bytes)
    (range : first.toNat + count.toNat ≤ id.rows) (length : bytes.length = count.toNat * id.rowSize) :
    let row (i : Nat) : Row := clampRow id (first.toNat + i) ((bytes.drop (i * id.rowSize)).take id.rowSize)
    let written (i : Nat) : Row := (bytes.drop (i * id.rowSize)).take id.rowSize
    (count = 0 → exec (.tableWrite r) s = .next { s with answer := bareAnswer .done }) ∧
    (count ≠ 0 → s.service.marks.getLsbD id.code = true → exec (.tableWrite r) s = .next { s with answer := bareAnswer .busy }) ∧
    (count ≠ 0 → s.service.marks.getLsbD id.code = false → ∃ shadow answer, exec (.tableWrite r) s = .next
        { s with service := { s.service with shadow := shadow }, answer := answer } ∧
      (∀ jd, jd ≠ id → shadow.get jd = s.service.shadow.get jd) ∧
      (∀ i < (s.service.shadow.get id).length, shadow.row id i =
        if first.toNat ≤ i ∧ i < first.toNat + count.toNat then row (i - first.toNat) else s.service.shadow.row id i) ∧
      ((∀ i < count.toNat, row i = written i) → answer = bareAnswer .accepted) ∧
      (∀ i < count.toNat, row i ≠ written i → (∀ j < i, row j = written j) →
        answer = if r.room = 0 then [some 0x09, some 0]
          else [some 0x02, some 1, some (BitVec.ofNat 8 (first.toNat + i))])) := by
  intro row written
  have parsed : parseAsk 0x03 r.params = .ok (.tableWrite id first.toNat (cutRows id.rowSize count.toNat bytes)) := by
    rw [params]
    exact parseTableWrite_sound id range length
  have empty : cutRows id.rowSize count.toNat bytes = [] ↔ count = 0 := by
    rw [← List.length_eq_zero_iff, cutRows_length]
    exact ⟨fun e => BitVec.eq_of_toNat_eq e, fun e => e ▸ rfl⟩
  have get {i : Nat} (less : i < (cutRows id.rowSize count.toNat bytes).length) :
      (cutRows id.rowSize count.toNat bytes)[i] = written i := cutRows_get _ _ _ (by rwa [cutRows_length] at less)
  rw [exec_record_asked (c := .tableWrite r) rfl here parsed (.inl run), State.answerAsk]
  refine ⟨fun zero => ?_, fun filled marked => ?_, fun filled free => ?_⟩
  · rw [if_pos (empty.mpr zero), State.replied_tell, doneReply_nil]
  · rw [if_neg (filled ∘ empty.mp), if_pos (show inSet s.service.marks id = true from marked), State.replied_refuse]
  · rw [if_neg (filled ∘ empty.mp), if_neg (by simpa [inSet] using free)]
    change ∃ shadow answer, Host.Outcome.next (s.replied (writeReply id first.toNat (cutRows id.rowSize count.toNat bytes)) r.room) =
      .next { s with service := { s.service with shadow := shadow }, answer := answer } ∧ _
    refine ⟨_, _, by rw [State.replied, writeReply_action]; rfl, fun jd other => ?_, fun i less => ?_, fun kept => ?_,
      fun i less changed before => ?_⟩
    · rw [Tables.store, Tables.get_set, if_neg other]
    · rw [Tables.row_store _ _ _ _ less]
      by_cases from_ : first.toNat ≤ i
      · by_cases upto : i < first.toNat + count.toNat
        · have inside : i - first.toNat < (cutRows id.rowSize count.toNat bytes).length := by
            rw [cutRows_length]; omega
          rw [if_pos from_, if_pos ⟨from_, upto⟩, clampRows, List.getD_eq_getElem?_getD, List.getElem?_mapIdx,
            List.getElem?_eq_getElem inside, get]
          rfl
        · have beyond : (cutRows id.rowSize count.toNat bytes).length ≤ i - first.toNat := by
            rw [cutRows_length]; omega
          rw [if_pos from_, if_neg (by omega), clampRows, List.getD_eq_getElem?_getD, List.getElem?_mapIdx,
            List.getElem?_eq_none beyond]
          rfl
      · rw [if_neg from_, if_neg (by omega)]
    · rw [writeReply, firstClamped_none (fun i less => by rw [get]; exact kept i (by rwa [cutRows_length] at less))]
      exact Reply.accept_addressed _ _
    · rw [writeReply, firstClamped_some (i := i) (by rwa [cutRows_length]) (by rw [get]; exact changed)
        (fun j lt => by rw [get]; exact before j lt)]
      cases r.room <;> simp [Reply.addressed, Verdict.code]

/-! ## The clamps field by field -/

/-- A byte written with the value it has leaves the row as it was. -/
theorem rowSet_same {r : Row} {i : Nat} (inside : i < r.length) : r.set i (rowByte r i) = r := by
  rw [rowByte, List.getD_eq_getElem _ _ inside, List.set_getElem_self]

/-- A 16-bit field written with the value it has is the row as it was. -/
theorem rowSetWord_same {r : Row} {i : Nat} (inside : i + 1 < r.length) : rowSetWord r i (rowWord r i) = r := by
  have hi : (rowWord r i).extractLsb' 8 8 = rowByte r i := by
    unfold rowWord wordOf
    exact BitVec.extractLsb'_append_eq_left
  have lo : (rowWord r i).extractLsb' 0 8 = rowByte r (i + 1) := by
    unfold rowWord wordOf
    exact BitVec.extractLsb'_append_eq_right
  unfold rowSetWord
  rw [hi, lo]
  rw [rowSet_same (by omega), rowSet_same inside]

theorem clampWordMax_eq {i max : Nat} {r : Row} (inside : i + 1 < r.length) :
    clampWordMax i max r = rowSetWord r i (BitVec.ofNat 16 (min (rowWordNat r i) max)) := by
  unfold clampWordMax
  split
  · next above => rw [Nat.min_eq_right (by omega)]
  · next below => rw [Nat.min_eq_left (by omega), rowWordNat, BitVec.ofNat_toNat, BitVec.setWidth_eq, rowSetWord_same inside]

theorem clampWordMin_eq {i min : Nat} {r : Row} (inside : i + 1 < r.length) :
    clampWordMin i min r = rowSetWord r i (BitVec.ofNat 16 (max (rowWordNat r i) min)) := by
  unfold clampWordMin
  split
  · next below => rw [Nat.max_eq_right (by omega)]
  · next above => rw [Nat.max_eq_left (by omega), rowWordNat, BitVec.ofNat_toNat, BitVec.setWidth_eq, rowSetWord_same inside]

theorem clampByteMax_eq {i max : Nat} {r : Row} (inside : i < r.length) :
    clampByteMax i max r = r.set i (BitVec.ofNat 8 (min (rowNat r i) max)) := by
  unfold clampByteMax
  split
  · next above => rw [Nat.min_eq_right (by omega)]; rfl
  · next below => rw [Nat.min_eq_left (by omega), rowNat, BitVec.ofNat_toNat, BitVec.setWidth_eq, rowSet_same inside]

theorem clampToNone_eq {i lo : Nat} {r : Row} (inside : i < r.length) :
    clampToNone i lo r = r.set i (if lo ≤ rowNat r i ∧ rowNat r i ≠ 255 then 0xFF else rowByte r i) := by
  have byte : rowNat r i < 256 := (rowByte r i).isLt
  unfold clampToNone
  by_cases beyond : lo ≤ rowNat r i ∧ rowNat r i ≠ 255
  · rw [if_pos beyond, if_pos ⟨beyond.1, by omega⟩]; rfl
  · rw [if_neg beyond, if_neg (by omega), rowSet_same inside]

theorem clampZeroByte_eq {i : Nat} {r : Row} (inside : i < r.length) :
    clampZeroByte i r = r.set i (if rowByte r i = 0 then 1 else rowByte r i) := by
  have zero : rowNat r i = 0 ↔ rowByte r i = 0 := ⟨fun e => BitVec.eq_of_toNat_eq e, fun e => by rw [rowNat, e]; rfl⟩
  unfold clampZeroByte
  split
  · next e => rw [if_pos (zero.mp e)]; rfl
  · next e => rw [if_neg (e ∘ zero.mpr), rowSet_same inside]

/-- A bit field whose code is replaced, by what the replacement makes of the byte. -/
theorem clampCode_eq {i lo w bad good : Nat} {r : Row} {f : Byte → Byte} (inside : i < r.length)
    (byte : ∀ b : Byte, (if b.toNat / 2 ^ lo % 2 ^ w = bad then
      BitVec.ofNat 8 (b.toNat - b.toNat / 2 ^ lo % 2 ^ w * 2 ^ lo + good * 2 ^ lo) else b) = f b) :
    clampCode i lo w bad good r = r.set i (f (rowByte r i)) := by
  rw [← byte]
  unfold clampCode rowSetBits rowBits rowSetByte
  split
  · next e => rw [rowNat] at e ⊢; rw [if_pos e]
  · next e => rw [rowNat] at e; rw [if_neg e, rowSet_same inside]

/-! ## The clamps row by row -/

/-- The codes a clamp replaces, in the byte they stand in. -/
theorem clampHighCode_eq {i : Nat} {r : Row} (inside : i < r.length) : clampCode i 4 2 3 2 r =
    r.set i (if (rowByte r i).toNat / 2 ^ 4 % 2 ^ 2 = 3 then rowByte r i &&& 0xEF else rowByte r i) :=
  clampCode_eq (f := fun b => if b.toNat / 2 ^ 4 % 2 ^ 2 = 3 then b &&& 0xEF else b) inside (by decide)

theorem clampDivider_eq {i : Nat} {r : Row} (inside : i < r.length) : clampCode i 0 3 7 6 r =
    r.set i (if (rowByte r i).toNat / 2 ^ 0 % 2 ^ 3 = 7 then rowByte r i &&& 0xFE else rowByte r i) :=
  clampCode_eq (f := fun b => if b.toNat / 2 ^ 0 % 2 ^ 3 = 7 then b &&& 0xFE else b) inside (by decide)

theorem clampEdges_eq {i : Nat} {r : Row} (inside : i < r.length) : clampCode i 2 2 3 2 r =
    r.set i (if (rowByte r i).toNat / 2 ^ 2 % 2 ^ 2 = 3 then rowByte r i &&& 0xFB else rowByte r i) :=
  clampCode_eq (f := fun b => if b.toNat / 2 ^ 2 % 2 ^ 2 = 3 then b &&& 0xFB else b) inside (by decide)

theorem clampLowRun_eq {i : Nat} {r : Row} (inside : i < r.length) : clampCode i 0 4 0 1 r =
    r.set i (if (rowByte r i).toNat / 2 ^ 0 % 2 ^ 4 = 0 then rowByte r i ||| 0x01 else rowByte r i) :=
  clampCode_eq (f := fun b => if b.toNat / 2 ^ 0 % 2 ^ 4 = 0 then b ||| 0x01 else b) inside (by decide)

theorem clampHighRun_eq {i : Nat} {r : Row} (inside : i < r.length) : clampCode i 4 4 0 1 r =
    r.set i (rowByte r i ||| if (rowByte r i).toNat / 2 ^ 4 % 2 ^ 4 = 0 then 0x10 else 0) :=
  clampCode_eq (f := fun b => b ||| if b.toNat / 2 ^ 4 % 2 ^ 4 = 0 then 0x10 else 0) inside (by decide)

/-- Setting the low count of a byte leaves the high one. -/
theorem lowRun_high (b : Byte) : (if b.toNat / 2 ^ 0 % 2 ^ 4 = 0 then b ||| 0x01 else b).toNat / 2 ^ 4 % 2 ^ 4 = b.toNat / 2 ^ 4 % 2 ^ 4 := by
  revert b; decide

@[simp] theorem rowByte_zero (a : Byte) (r : Row) : rowByte (a :: r) 0 = a := rfl
@[simp] theorem rowByte_succ (a : Byte) (r : Row) (i : Nat) : rowByte (a :: r) (i + 1) = rowByte r i := rfl
@[simp] theorem rowSetWord_zero (a b : Byte) (r : Row) (w : Word16) : rowSetWord (a :: b :: r) 0 w = wordBytes w ++ r := rfl
@[simp] theorem rowSetWord_succ (a : Byte) (r : Row) (i : Nat) (w : Word16) :
    rowSetWord (a :: r) (i + 1) w = a :: rowSetWord r i w := rfl
theorem rowNat_eq (r : Row) (i : Nat) : rowNat r i = (rowByte r i).toNat := rfl
theorem rowWordNat_eq (r : Row) (i : Nat) : rowWordNat r i = (rowByte r i).toNat * 256 + (rowByte r (i + 1)).toNat := wordOf_toNat _ _

theorem clampBeat_eq (b0 b1 b2 b3 : Byte) : clampBeat [b0, b1, b2, b3] =
    natBytes (min (max (b0.toNat * 256 + b1.toNat) 800) 6400) ++ [b2, b3] := by
  have word : rowWordNat (natBytes (min (b0.toNat * 256 + b1.toNat) 6400) ++ [b2, b3]) 0 = min (b0.toNat * 256 + b1.toNat) 6400 := by
    rw [rowWordNat, show rowWord (natBytes (min (b0.toNat * 256 + b1.toNat) 6400) ++ [b2, b3]) 0 = _ from wordOf_bytes _,
      BitVec.toNat_ofNat, Nat.mod_eq_of_lt (by omega)]
  have inner : clampWordMax 0 6400 [b0, b1, b2, b3] = natBytes (min (b0.toNat * 256 + b1.toNat) 6400) ++ [b2, b3] := by
    rw [clampWordMax_eq (by simp), rowWordNat_eq]
    rfl
  rw [clampBeat, inner, clampWordMin_eq (by simp), word,
    show max (min (b0.toNat * 256 + b1.toNat) 6400) 800 = min (max (b0.toNat * 256 + b1.toNat) 800) 6400 by omega]
  rfl

theorem clampUnit_eq (b0 b1 b2 b3 b4 b5 b6 b7 b8 b9 b10 b11 b12 b13 b14 b15 : Byte) :
    clampUnit [b0, b1, b2, b3, b4, b5, b6, b7, b8, b9, b10, b11, b12, b13, b14, b15] =
      [b0] ++ natBytes (min (b1.toNat * 256 + b2.toNat) 6399) ++ natBytes (min (b3.toNat * 256 + b4.toNat) 1000) ++
        [b5, b6, b7, b8, if 24 ≤ b9.toNat ∧ b9.toNat ≠ 255 then 0xFF else b9] ++
        natBytes (min (b10.toNat * 256 + b11.toNat) 65520) ++
        [if b12 = 0 then 1 else BitVec.ofNat 8 (min b12.toNat 15), if b13 = 0 then 1 else b13] ++
        natBytes (min (b14.toNat * 256 + b15.toNat) 1000) := by
  have level : BitVec.ofNat 8 (min (if b12 = 0 then 1 else b12).toNat 15) = if b12 = 0 then 1 else BitVec.ofNat 8 (min b12.toNat 15) := by
    split <;> rfl
  rw [← level]
  simp [clampUnit, clampWordMax_eq, clampToNone_eq, clampZeroByte_eq, clampByteMax_eq, rowNat_eq, rowWordNat_eq, natBytes, wordBytes]
  exact ⟨rfl, rfl, rfl⟩

theorem clampScanOffset_eq (b0 b1 b2 b3 b4 b5 b6 b7 : Byte) : clampScanOffset [b0, b1, b2, b3, b4, b5, b6, b7] =
    [b0, b1, b2, b3] ++ (if b0.getLsbD 1 then intBytes (max (-512) (min (b4 ++ b5).toInt 511))
      else natBytes (min (b4.toNat * 256 + b5.toNat) 6399)) ++ [b6, b7] := by
  have anchored : scanAnchored [b0, b1, b2, b3, b4, b5, b6, b7] = b0.getLsbD 1 := rfl
  have offset : scanAnchoredOffset [b0, b1, b2, b3, b4, b5, b6, b7] = (b4 ++ b5).toInt := rfl
  unfold clampScanOffset
  rw [anchored, offset]
  split
  · have kept : rowSetWord [b0, b1, b2, b3, b4, b5, b6, b7] 4 (BitVec.ofInt 16 (b4 ++ b5).toInt) = [b0, b1, b2, b3, b4, b5, b6, b7] := by
      rw [BitVec.ofInt_toInt]
      exact rowSetWord_same (r := [b0, b1, b2, b3, b4, b5, b6, b7]) (i := 4) (by simp)
    split
    · next below => rw [show max (-512) (min (b4 ++ b5).toInt 511) = -512 by omega]; rfl
    · split
      · next above => rw [show max (-512) (min (b4 ++ b5).toInt 511) = 511 by omega]; rfl
      · next within =>
        rw [show max (-512) (min (b4 ++ b5).toInt 511) = (b4 ++ b5).toInt by omega, ← kept]
        rfl
  · rw [clampWordMax_eq (by simp), rowWordNat_eq]
    rfl

theorem clampScan_eq (b0 b1 b2 b3 b4 b5 b6 b7 : Byte) :
    let k := if b2.toNat / 2 ^ 0 % 2 ^ 3 = 7 then 6 else b2.toNat / 2 ^ 0 % 2 ^ 3
    clampScan [b0, b1, b2, b3, b4, b5, b6, b7] =
      [if b0.toNat / 2 ^ 4 % 2 ^ 2 = 3 then b0 &&& 0xEF else b0, if b1.toNat / 2 ^ 4 % 2 ^ 2 = 3 then b1 &&& 0xEF else b1,
        if b2.toNat / 2 ^ 0 % 2 ^ 3 = 7 then b2 &&& 0xFE else b2,
        if 2 ^ k ≤ b3.toNat then BitVec.ofNat 8 (2 ^ k - 1) else b3] ++
      (if b0.getLsbD 1 then intBytes (max (-512) (min (b4 ++ b5).toInt 511)) else natBytes (min (b4.toNat * 256 + b5.toNat) 6399)) ++
      [b6, BitVec.ofNat 8 (min b7.toNat 23)] := by
  intro k
  have codes (b0 b1 b2 : Byte) : clampCode 2 0 3 7 6 (clampCode 1 4 2 3 2 (clampCode 0 4 2 3 2 [b0, b1, b2, b3, b4, b5, b6, b7])) =
      [if b0.toNat / 2 ^ 4 % 2 ^ 2 = 3 then b0 &&& 0xEF else b0, if b1.toNat / 2 ^ 4 % 2 ^ 2 = 3 then b1 &&& 0xEF else b1,
        if b2.toNat / 2 ^ 0 % 2 ^ 3 = 7 then b2 &&& 0xFE else b2, b3, b4, b5, b6, b7] := by
    rw [clampHighCode_eq (i := 0) (by simp), clampHighCode_eq (i := 1) (by simp), clampDivider_eq (by simp)]
    rfl
  have divider (b : Byte) : 2 ^ ((if b.toNat / 2 ^ 0 % 2 ^ 3 = 7 then b &&& 0xFE else b).toNat / 2 ^ 0 % 2 ^ 3) =
      2 ^ if b.toNat / 2 ^ 0 % 2 ^ 3 = 7 then 6 else b.toNat / 2 ^ 0 % 2 ^ 3 := by
    revert b; decide
  have flag (b : Byte) : (if b.toNat / 2 ^ 4 % 2 ^ 2 = 3 then b &&& 0xEF else b).getLsbD 1 = b.getLsbD 1 := by
    revert b; decide
  have phase (b0 b1 b2 : Byte) : clampScanPhase [b0, b1, b2, b3, b4, b5, b6, b7] =
      [b0, b1, b2, if 2 ^ (b2.toNat / 2 ^ 0 % 2 ^ 3) ≤ b3.toNat then BitVec.ofNat 8 (2 ^ (b2.toNat / 2 ^ 0 % 2 ^ 3) - 1) else b3,
        b4, b5, b6, b7] := by
    unfold clampScanPhase
    rw [show scanDivider [b0, b1, b2, b3, b4, b5, b6, b7] = 2 ^ (b2.toNat / 2 ^ 0 % 2 ^ 3) from rfl,
      show scanPhase [b0, b1, b2, b3, b4, b5, b6, b7] = b3.toNat from rfl]
    split <;> rfl
  rw [clampScan, codes, phase, clampScanOffset_eq, flag, divider]
  have two : (if b0.getLsbD 1 then intBytes (max (-512) (min (b4 ++ b5).toInt 511))
      else natBytes (min (b4.toNat * 256 + b5.toNat) 6399)).length = 2 := by split <;> rfl
  generalize (if b0.getLsbD 1 then intBytes (max (-512) (min (b4 ++ b5).toInt 511))
      else natBytes (min (b4.toNat * 256 + b5.toNat) 6399)) = offset at two
  match offset, two with
  | [x, y], _ =>
    rw [clampByteMax_eq (by simp)]
    rfl

theorem clampInput_eq (i : Nat) (b0 b1 b2 b3 b4 b5 : Byte) : clampInput i [b0, b1, b2, b3, b4, b5] =
    if i < 8 then [b0, b1, b2, b3, b4, b5]
    else [if b0.toNat / 2 ^ 2 % 2 ^ 2 = 3 then b0 &&& 0xFB else b0, if 4 ≤ b1.toNat ∧ b1.toNat ≠ 255 then 0xFF else b1, b2] ++
      natBytes (min (b3.toNat * 256 + b4.toNat) 1000) ++ [b5] := by
  unfold clampInput
  split
  · rfl
  · rw [clampEdges_eq (by simp), clampToNone_eq (by simp), clampWordMax_eq (by simp), rowWordNat_eq]
    rfl

theorem clampLimit_eq (b0 b1 b2 b3 b4 b5 b6 b7 b8 b9 b10 b11 b12 b13 b14 b15 : Byte) :
    clampLimit [b0, b1, b2, b3, b4, b5, b6, b7, b8, b9, b10, b11, b12, b13, b14, b15] =
      [b0, BitVec.ofNat 8 (min b1.toNat 25), b2, b3, b4, b5, b6, b7,
        (if b8.toNat / 2 ^ 0 % 2 ^ 4 = 0 then b8 ||| 0x01 else b8) ||| (if b8.toNat / 2 ^ 4 % 2 ^ 4 = 0 then 0x10 else 0),
        if 4 ≤ b9.toNat ∧ b9.toNat ≠ 255 then 0xFF else b9] ++ natBytes (min (b10.toNat * 256 + b11.toNat) 1000) ++
        [b12, b13, b14, b15] := by
  rw [← lowRun_high]
  unfold clampLimit
  rw [clampByteMax_eq (by simp), clampLowRun_eq (by simp), clampHighRun_eq (by simp),
    clampToNone_eq (by simp), clampWordMax_eq (by simp), rowWordNat_eq]
  rfl

theorem clampReflex_eq (b0 b1 b2 b3 b4 b5 b6 b7 : Byte) : clampReflex [b0, b1, b2, b3, b4, b5, b6, b7] =
    [b0, BitVec.ofNat 8 (min b1.toNat 30), b2] ++ natBytes (min (b3.toNat * 256 + b4.toNat) 1000) ++ [b5, b6, b7] := by
  unfold clampReflex
  rw [clampByteMax_eq (by simp), clampWordMax_eq (by simp), rowWordNat_eq]
  rfl

theorem clampSlot_eq (b0 b1 b2 b3 : Byte) : clampSlot [b0, b1, b2, b3] = [b0, BitVec.ofNat 8 (min b1.toNat 31),
    if b0.toNat / 2 ^ 1 % 2 ^ 2 = 0 then BitVec.ofNat 8 (min b2.toNat 3)
      else if b0.toNat / 2 ^ 1 % 2 ^ 2 = 2 then BitVec.ofNat 8 (min b2.toNat 2) else b2,
    if b0.toNat / 2 ^ 1 % 2 ^ 2 = 0 then (if 4 ≤ b3.toNat ∧ b3.toNat ≠ 255 then 0xFF else b3) else b3] := by
  unfold clampSlot
  rw [clampByteMax_eq (by simp)]
  have kind : slotKind [b0, BitVec.ofNat 8 (min b1.toNat 31), b2, b3] = match b0.toNat / 2 ^ 1 % 2 ^ 2 with
    | 0 => .drivePair
    | 1 => .samples
    | 2 => .motion
    | _ => .status := rfl
  change (match slotKind [b0, BitVec.ofNat 8 (min b1.toNat 31), b2, b3] with
    | .drivePair => clampToNone 3 4 (clampByteMax 2 3 [b0, BitVec.ofNat 8 (min b1.toNat 31), b2, b3])
    | .motion => clampByteMax 2 2 [b0, BitVec.ofNat 8 (min b1.toNat 31), b2, b3]
    | .samples => [b0, BitVec.ofNat 8 (min b1.toNat 31), b2, b3]
    | .status => [b0, BitVec.ofNat 8 (min b1.toNat 31), b2, b3]) = _
  rw [kind]
  have four : b0.toNat / 2 ^ 1 % 2 ^ 2 < 4 := Nat.mod_lt _ (by decide)
  generalize b0.toNat / 2 ^ 1 % 2 ^ 2 = code at four
  interval_cases code
  · rw [clampByteMax_eq (by simp), clampToNone_eq (by simp)]
    rfl
  · rfl
  · change clampByteMax 2 2 [b0, BitVec.ofNat 8 (min b1.toNat 31), b2, b3] = _
    rw [clampByteMax_eq (by simp)]
    rfl
  · rfl

/-- Settles O47: the write and its verdict, then each table's clamps. -/
theorem tableWriteStoresShadow : Obligations.TableWriteStoresShadow := by
  refine ⟨fun s r id first count bytes run here params range length => tableWrite_executed run here params range length,
    fun r i => ⟨fun len => ?_, fun len => ?_, fun len => ?_, fun len => ?_, fun len => ?_, fun len => ?_, fun len => ?_, rfl, rfl⟩⟩
  · match r, len with
    | [b0, b1, b2, b3], _ => exact clampBeat_eq b0 b1 b2 b3
  · match r, len with
    | [b0, b1, b2, b3, b4, b5, b6, b7, b8, b9, b10, b11, b12, b13, b14, b15], _ =>
      exact clampUnit_eq b0 b1 b2 b3 b4 b5 b6 b7 b8 b9 b10 b11 b12 b13 b14 b15
  · match r, len with
    | [b0, b1, b2, b3, b4, b5, b6, b7], _ => exact clampScan_eq b0 b1 b2 b3 b4 b5 b6 b7
  · match r, len with
    | [b0, b1, b2, b3, b4, b5], _ => exact clampInput_eq i b0 b1 b2 b3 b4 b5
  · match r, len with
    | [b0, b1, b2, b3, b4, b5, b6, b7, b8, b9, b10, b11, b12, b13, b14, b15], _ =>
      exact clampLimit_eq b0 b1 b2 b3 b4 b5 b6 b7 b8 b9 b10 b11 b12 b13 b14 b15
  · match r, len with
    | [b0, b1, b2, b3, b4, b5, b6, b7], _ => exact clampReflex_eq b0 b1 b2 b3 b4 b5 b6 b7
  · match r, len with
    | [b0, b1, b2, b3], _ => exact clampSlot_eq b0 b1 b2 b3

end Sys2Proof.Machine
end

section
/-! The structural tests of SCAN and SLOT (R150, R58): the first failing row, and what a row fails by. -/

namespace Sys2Proof.Machine

/-! ## The first failing row -/

/-- Row `j` of a table fails a test against the rows before it. -/
def FailsAt (test : List Row → Row → Bool) (rows : List Row) (j : Nat) : Prop :=
  j < rows.length ∧ test (rows.take j) (rows.getD j []) = true

/-- The first failing row from the end of `earlier` on. -/
theorem firstFailing_spec (test : List Row → Row → Bool) (earlier rest : List Row) :
    match firstFailing test earlier rest with
    | none => ∀ m, earlier.length ≤ m → ¬FailsAt test (earlier ++ rest) m
    | some n => earlier.length ≤ n ∧ FailsAt test (earlier ++ rest) n ∧
        ∀ m, earlier.length ≤ m → m < n → ¬FailsAt test (earlier ++ rest) m := by
  induction rest generalizing earlier with
  | nil =>
    intro m beyond fails
    have := fails.1
    simp at this
    omega
  | cons r rest ih =>
    have here : FailsAt test (earlier ++ r :: rest) earlier.length ↔ test earlier r = true := by
      simp [FailsAt, List.getD_eq_getElem?_getD]
    unfold firstFailing
    by_cases bad : test earlier r = true
    · rw [if_pos bad]
      exact ⟨le_rfl, here.mpr bad, fun m _ _ => by omega⟩
    · have later := ih (earlier ++ [r])
      rw [List.append_assoc, List.singleton_append, List.length_append, List.length_singleton] at later
      have past {m : Nat} (from_ : earlier.length ≤ m) (fails : FailsAt test (earlier ++ r :: rest) m) : earlier.length + 1 ≤ m := by
        by_contra same
        obtain rfl : m = earlier.length := by omega
        exact bad (here.mp fails)
      rw [if_neg bad]
      split
      · next e =>
        rw [e] at later
        exact fun m from_ fails => later m (past from_ fails) fails
      · next n e =>
        rw [e] at later
        exact ⟨by omega, later.2.1, fun m from_ less fails => later.2.2 m (past from_ fails) less fails⟩

theorem firstFailing_none {test : List Row → Row → Bool} {rows : List Row} {P : Nat → Prop} (same : ∀ j, FailsAt test rows j ↔ P j) :
    firstFailing test [] rows = none ↔ ¬∃ j, P j := by
  have spec := firstFailing_spec test [] rows
  simp only [List.nil_append, List.length_nil, Nat.zero_le, true_implies, same] at spec
  cases e : firstFailing test [] rows with
  | none => rw [e] at spec; simpa using spec
  | some n => rw [e] at spec; simpa using ⟨n, spec.2.1⟩

theorem firstFailing_some {test : List Row → Row → Bool} {rows : List Row} {P : Nat → Prop} (same : ∀ j, FailsAt test rows j ↔ P j)
    (n : Nat) : firstFailing test [] rows = some n ↔ P n ∧ ∀ m < n, ¬P m := by
  have spec := firstFailing_spec test [] rows
  simp only [List.nil_append, List.length_nil, Nat.zero_le, true_implies, same] at spec
  cases e : firstFailing test [] rows with
  | none => rw [e] at spec; simpa using fun fails => absurd fails (spec n)
  | some k =>
    rw [e] at spec
    obtain ⟨-, fails, first⟩ := spec
    simp only [Option.some.injEq]
    constructor
    · rintro rfl
      exact ⟨fails, first⟩
    · rintro ⟨mine, before⟩
      rcases Nat.lt_trichotomy k n with less | same | more
      · exact absurd fails (before k less)
      · exact same
      · exact absurd mine (first n more)

theorem any_take {rows : List Row} {p : Row → Bool} {j : Nat} (inside : j ≤ rows.length) :
    (rows.take j).any p = true ↔ ∃ i < j, p (rows.getD i []) = true := by
  constructor
  · intro some
    obtain ⟨q, mem, holds⟩ := List.any_eq_true.mp some
    obtain ⟨i, less, rfl⟩ := List.mem_iff_getElem.mp mem
    rw [List.length_take] at less
    refine ⟨i, by omega, ?_⟩
    rwa [List.getD_eq_getElem _ _ (by omega), ← List.getElem_take]
  · rintro ⟨i, less, holds⟩
    refine List.any_eq_true.mpr ⟨_, ?_, holds⟩
    rw [List.getD_eq_getElem _ _ (by omega)]
    exact List.mem_take_iff_getElem.mpr ⟨i, by omega, rfl⟩

/-! ## What a row fails by -/

theorem mem_slotUnits (r : Row) (u : Nat) : u ∈ slotUnits r ↔
    slotEnabled r = true ∧ slotKind r = .drivePair ∧ (slotFirst r = u ∨ (slotSecond r = u ∧ u ≤ 3)) := by
  unfold slotUnits
  split
  · next on =>
    split <;> simp [on.1, on.2, eq_comm (a := u)] <;> omega
  · next off =>
    have := fun a b => off ⟨a, b⟩
    simpa using fun a b => absurd b (this a)

theorem slotUnits_twice (r : Row) : ¬(slotUnits r).Nodup ↔
    slotEnabled r = true ∧ slotKind r = .drivePair ∧ slotSecond r = slotFirst r ∧ slotFirst r ≤ 3 := by
  unfold slotUnits
  split
  · next on =>
    split <;> simp [on.1, on.2] <;> omega
  · next off =>
    have := fun a b => off ⟨a, b⟩
    simpa using fun a b => absurd b (this a)

/-- Settles O51. -/
theorem structuralTestsNameTheRow : Obligations.StructuralTestsNameTheRow := by
  constructor
  · intro rows clash
    have same (j : Nat) : FailsAt scanRowFails rows j ↔ ∃ i, clash i j := by
      unfold FailsAt scanRowFails
      constructor
      · rintro ⟨inside, failed⟩
        rw [Bool.and_eq_true, any_take inside.le] at failed
        obtain ⟨enabled, i, less, other⟩ := failed
        rw [Bool.and_eq_true, decide_eq_true_eq] at other
        exact ⟨i, less, inside, other.1, enabled, other.2⟩
      · rintro ⟨i, less, inside, other, enabled, slot⟩
        rw [Bool.and_eq_true, any_take inside.le]
        exact ⟨inside, enabled, i, less, by rw [Bool.and_eq_true, decide_eq_true_eq]; exact ⟨other, slot⟩⟩
    refine ⟨?_, fun n => firstFailing_some same n⟩
    refine (firstFailing_none same).trans (not_congr ?_)
    rw [exists_comm]
  · intro rows row on second names clash twice beyond fails
    have same (j : Nat) : FailsAt slotRowFails rows j ↔ fails j := by
      have mine {i : Nat} (inside : i < rows.length) (u : Nat) : u ∈ slotUnits (row i) ↔ names i u := by
        rw [mem_slotUnits]
        simp only [names, on, second, inside, true_and, and_assoc]
      have earlier (inside : j < rows.length) : ((slotUnits (row j)).any fun u => (rows.take j).any fun q => (slotUnits q).contains u) = true ↔
          ∃ i < j, ∃ u, names i u ∧ names j u := by
        simp only [List.any_eq_true (l := slotUnits (row j)), any_take inside.le, List.contains_iff_mem]
        constructor
        · rintro ⟨u, here, i, less, there⟩
          exact ⟨i, less, u, (mine (by omega) u).mp there, (mine inside u).mp here⟩
        · rintro ⟨i, less, u, there, here⟩
          exact ⟨u, (mine inside u).mpr here, i, less, (mine (by omega) u).mpr there⟩
      have named {i u : Nat} (name : names i u) : slotEnabled (row i) = true := name.1.2.1
      unfold FailsAt
      constructor
      · rintro ⟨inside, failed⟩
        simp only [slotRowFails, Bool.and_eq_true, Bool.or_eq_true, decide_eq_true_eq] at failed
        rw [any_take inside.le] at failed
        obtain ⟨enabled, ((segment | unit) | own) | high⟩ := failed
        · obtain ⟨i, less, both⟩ := segment
          rw [Bool.and_eq_true, decide_eq_true_eq] at both
          exact .inl ⟨i, less, inside, both.1, enabled, .inl both.2⟩
        · obtain ⟨i, less, u, there, here⟩ := (earlier inside).mp unit
          exact .inl ⟨i, less, inside, named there, enabled, .inr ⟨u, there, here⟩⟩
        · obtain ⟨-, pair, second_, low⟩ := (slotUnits_twice _).mp own
          exact .inr (.inl ⟨⟨inside, enabled, pair⟩, second_, low⟩)
        · exact .inr (.inr ⟨⟨inside, enabled, high.1⟩, high.2⟩)
      · rintro (⟨i, less, inside, other, enabled, segment | ⟨u, there, here⟩⟩ | ⟨⟨inside, enabled, pair⟩, second_, low⟩ |
          ⟨⟨inside, enabled, samples⟩, high⟩) <;>
          simp only [slotRowFails, Bool.and_eq_true, Bool.or_eq_true, decide_eq_true_eq] <;>
          refine ⟨inside, enabled, ?_⟩
        · exact .inl (.inl (.inl ((any_take inside.le).mpr ⟨i, less, by rw [Bool.and_eq_true, decide_eq_true_eq]; exact ⟨other, segment⟩⟩)))
        · exact .inl (.inl (.inr ((earlier inside).mpr ⟨i, less, u, there, here⟩)))
        · exact .inl (.inr ((slotUnits_twice _).mpr ⟨enabled, pair, second_, low⟩))
        · exact .inr ⟨samples, high⟩
    exact ⟨firstFailing_none same, fun n => firstFailing_some same n⟩

end Sys2Proof.Machine
end

section
/-! The profile store: the packing of a section (R152), PROFILE_SAVE (R154) and the blocks of a save (R155). -/

namespace Sys2Proof.Machine

/-! ## A row packed and unpacked (R152) -/

/-- Bytes set one after the other, each from its own place. -/
theorem foldl_set_get (l : List Nat) (f : Nat → Byte) (base : List Byte) (k : Nat) :
    (l.foldl (fun r j => r.set j (f j)) base)[k]? = if k ∈ l ∧ k < base.length then some (f k) else base[k]? := by
  induction l generalizing base with
  | nil => simp
  | cons j l ih =>
    rw [List.foldl_cons, ih, List.length_set, List.getElem?_set]
    by_cases same : j = k
    · subst same
      by_cases inside : j < base.length <;> simp [inside]
    · simp [same, eq_comm (a := k)]

/-- A row unpacked from the bytes packed of it: those bytes in their places, every other one 0. -/
theorem unpackRow_get (id : TableId) (i : Nat) (r : Row) (k : Nat) :
    (unpackRow id i ((storedBytes id i).map (rowByte r)))[k]? =
      if k < id.rowSize then some (if k ∈ storedBytes id i then rowByte r k else 0) else none := by
  have zipped : (storedBytes id i).zip ((storedBytes id i).map (rowByte r)) = (storedBytes id i).map fun j => (j, rowByte r j) := by
    generalize storedBytes id i = l
    induction l with
    | nil => rfl
    | cons j l ih => simp [ih]
  unfold unpackRow
  rw [zipped, List.foldl_map, foldl_set_get, List.length_replicate, List.getElem?_replicate]
  by_cases inside : k < id.rowSize <;> by_cases mem : k ∈ storedBytes id i <;> simp [inside, mem]

/-- The spare bytes of a row (R152). -/
def spareByte (id : TableId) (i j : Nat) : Bool :=
  match id with
  | .limit => decide (13 ≤ j)
  | .reflex => decide (5 ≤ j)
  | .input => if i < 8 then decide (1 ≤ j) else decide (j = 5)
  | .beat => decide (j = 3)
  | .safe => decide (j = 1 ∨ 14 ≤ j)
  | .slot | .scan | .unit | .cal => false

theorem mem_storedBytes (id : TableId) (i j : Nat) (inside : j < id.rowSize) : j ∈ storedBytes id i ↔ spareByte id i j = false := by
  cases id <;> simp only [TableId.rowSize] at inside <;> simp only [storedBytes, spareByte]
  case input => grind
  case safe =>
    simp only [List.mem_cons, List.mem_map, List.mem_range, decide_eq_false_iff_not]
    constructor
    · rintro (rfl | ⟨k, less, rfl⟩) <;> omega
    · intro no
      rcases Nat.eq_zero_or_pos j with zero | pos
      · exact .inl zero
      · exact .inr ⟨j - 2, by omega, by omega⟩
  all_goals grind

/-- A row of its table's size unpacked from the bytes packed of it is the row with its spare bytes 0. -/
theorem unpackRow_packed {id : TableId} {i : Nat} {r : Row} (size : r.length = id.rowSize) :
    unpackRow id i ((storedBytes id i).map (rowByte r)) = r.mapIdx fun j b => if spareByte id i j then 0 else b := by
  refine List.ext_getElem? fun k => ?_
  rw [unpackRow_get, List.getElem?_mapIdx]
  by_cases inside : k < id.rowSize
  · have at_ : r[k]? = some (rowByte r k) := by
      rw [rowByte, List.getD_eq_getElem _ _ (by omega), List.getElem?_eq_getElem]
    rw [if_pos inside, at_, Option.map_some]
    congr 1
    cases spare : spareByte id i k with
    | false => simp [(mem_storedBytes id i k inside).mpr spare]
    | true =>
      have out : k ∉ storedBytes id i := fun mem => by simp [(mem_storedBytes id i k inside).mp mem] at spare
      simp [out]
  · rw [if_neg inside, List.getElem?_eq_none (by omega)]
    rfl

/-! ## A table packed and unpacked -/

/-- Rows packed from an index on. -/
def packFrom (id : TableId) (index : Nat) (rows : List Row) : List Byte :=
  (rows.mapIdx fun i r => (storedBytes id (index + i)).map (rowByte r)).flatten

theorem packFrom_zero (id : TableId) (rows : List Row) : packFrom id 0 rows = packTable id rows := by
  simp [packFrom, packTable]

theorem packFrom_cons (id : TableId) (index : Nat) (r : Row) (rows : List Row) :
    packFrom id index (r :: rows) = (storedBytes id index).map (rowByte r) ++ packFrom id (index + 1) rows := by
  simp [packFrom, List.mapIdx_cons, Nat.add_assoc, Nat.add_comm 1]

/-- Rows unpacked from the bytes packed of them, and the bytes behind them. -/
theorem unpackRows_packed {id : TableId} {rows : List Row} (size : ∀ r ∈ rows, r.length = id.rowSize) (index : Nat) (rest : List Byte) :
    unpackRows id index rows.length (packFrom id index rows ++ rest) =
      (rows.mapIdx fun i r => clampRow id (index + i) (r.mapIdx fun j b => if spareByte id (index + i) j then 0 else b), rest) := by
  induction rows generalizing index with
  | nil => simp [unpackRows, packFrom]
  | cons r rows ih =>
    have stored : ((storedBytes id index).map (rowByte r)).length = (storedBytes id index).length := List.length_map _
    simp only [List.length_cons, unpackRows, packFrom_cons, List.append_assoc]
    rw [List.take_append_of_le_length (by rw [stored]), List.take_of_length_le (by rw [stored]),
      List.drop_append_of_le_length (by rw [stored]), List.drop_of_length_le (by rw [stored]), List.nil_append,
      ih (fun r mem => size r (List.mem_cons_of_mem _ mem)), unpackRow_packed (size r List.mem_cons_self)]
    simp [List.mapIdx_cons, Nat.add_assoc, Nat.add_comm 1]

/-- Every table named is as its layout has it: so many rows of so many bytes. -/
def WellFormed (ids : List TableId) (t : Tables) : Prop :=
  ∀ id ∈ ids, (t.get id).length = id.rows ∧ ∀ row ∈ t.get id, row.length = id.rowSize

/-- Tables unpacked from the bytes packed of them: the rows packed, spare bytes 0, clamped. -/
theorem unpackTables_packed {ids : List TableId} {t : Tables} (wf : WellFormed ids t) (distinct : ids.Nodup) (u : Tables)
    (rest : List Byte) {id : TableId} : (unpackTables ids ((ids.map fun id => packTable id (t.get id)).flatten ++ rest) u).get id =
      if id ∈ ids then (t.get id).mapIdx fun i r => clampRow id i (r.mapIdx fun j b => if spareByte id i j then 0 else b)
      else u.get id := by
  unfold unpackTables
  induction ids generalizing u with
  | nil => simp
  | cons first ids ih =>
    obtain ⟨rows, size⟩ := wf first List.mem_cons_self
    have head := unpackRows_packed size 0 ((ids.map fun id => packTable id (t.get id)).flatten ++ rest)
    rw [packFrom_zero, rows] at head
    simp only [List.map_cons, List.flatten_cons, List.append_assoc, List.foldl_cons, head, Nat.zero_add]
    rw [ih (fun id mem => wf id (List.mem_cons_of_mem _ mem)) (List.nodup_cons.mp distinct).2, Tables.get_set]
    by_cases same : id = first
    · subst same
      simp [(List.nodup_cons.mp distinct).1]
    · simp [same]

/-! ## A section packed -/

/-- The bytes a section's well-formed tables take up. -/
theorem packTable_length {id : TableId} {rows : List Row} (length : rows.length = id.rows) :
    (packTable id rows).length = ((List.range id.rows).map fun i => (storedBytes id i).length).sum := by
  rw [packTable, List.length_flatten, ← length]
  congr 1
  refine List.ext_getElem (by simp) fun i _ _ => ?_
  simp

theorem sectionContents_length {sec : Section} {t : Tables} (wf : WellFormed sec.tableIds t) :
    (sectionContents sec t).length ≤ 32 * sec.blocks - 2 := by
  have tables : (sectionContents sec t).length =
      (sec.tableIds.map fun id => ((List.range id.rows).map fun i => (storedBytes id i).length).sum).sum := by
    rw [sectionContents, List.length_flatten, List.map_map]
    congr 1
    exact List.map_congr_left fun id mem => packTable_length (wf id mem).1
  rw [tables]
  cases sec <;> decide

/-- A section's image is its body and the check over it. -/
theorem sectionImage_eq (sec : Section) (t : Tables) : ∃ body, sectionImage sec t = body ++ wordBytes (crcOf body) ∧
    body = sectionContents sec t ++ List.replicate (32 * sec.blocks - 2 - (sectionContents sec t).length) 0 := ⟨_, rfl, rfl⟩

theorem sectionImage_long (sec : Section) (t : Tables) : 32 * sec.blocks ≤ (sectionImage sec t).length := by
  obtain ⟨body, eq, contents⟩ := sectionImage_eq sec t
  rw [eq, List.length_append, wordBytes_length, contents, List.length_append, List.length_replicate]
  omega

/-- The packing round trip of R152. -/
theorem section_packed {sec : Section} {t : Tables} (u : Tables) (wf : WellFormed sec.tableIds t) :
    let image := sectionImage sec t
    let body := image.take (32 * sec.blocks - 2)
    image.length = 32 * sec.blocks ∧ image = body ++ wordBytes (crcOf body) ∧ sectionCheckGood image = true ∧
    ∀ id ∈ sec.tableIds, ∀ i < id.rows, (unpackTables sec.tableIds image u).row id i =
      clampRow id i ((t.row id i).mapIdx fun j b => if spareByte id i j then 0 else b) := by
  obtain ⟨body, eq, contents⟩ := sectionImage_eq sec t
  have fits := sectionContents_length wf
  have two : 2 ≤ 32 * sec.blocks := by cases sec <;> decide
  have length : body.length = 32 * sec.blocks - 2 := by
    rw [contents, List.length_append, List.length_replicate]
    omega
  have taken : (body ++ wordBytes (crcOf body)).take (32 * sec.blocks - 2) = body := List.take_left' length
  have dropped : (body ++ wordBytes (crcOf body)).drop (32 * sec.blocks - 2) = wordBytes (crcOf body) := List.drop_left' length
  have whole : (body ++ wordBytes (crcOf body)).length = 32 * sec.blocks := by
    rw [List.length_append, wordBytes_length, length]
    omega
  rw [eq]
  dsimp only
  refine ⟨whole, by rw [taken], ?_, fun id mem i less => ?_⟩
  · rw [sectionCheckGood, whole, taken, dropped]
    simp
  · have distinct : sec.tableIds.Nodup := by cases sec <;> decide
    have inside : i < (t.get id).length := by rwa [(wf id mem).1]
    rw [contents, sectionContents, List.append_assoc, Tables.row, unpackTables_packed wf distinct, if_pos mem, Tables.row,
      List.getD_eq_getElem _ _ (by simpa using inside), List.getElem_mapIdx, List.getD_eq_getElem _ _ inside]

/-! ## The blocks of a save (R154) -/

/-- A run cut into pieces of 32 bytes. -/
theorem flatten_blocks (l : List Byte) (k : Nat) :
    ((List.range k).map fun i => (l.drop (32 * i)).take 32).flatten = l.take (32 * k) := by
  induction k with
  | zero => simp
  | succ k ih => rw [List.range_succ, List.map_append, List.flatten_append, ih, Nat.mul_succ, List.take_add]; simp

theorem sectionBlocks_filter (sec other : Section) (t : Tables) :
    (sectionBlocks sec t).filter (fun b => decide (b.sect = other)) = if sec = other then sectionBlocks sec t else [] := by
  unfold sectionBlocks
  split
  · next same => simp [same]
  · next ne => simp [ne]

theorem mem_sectionBlocks {sec : Section} {t : Tables} {b : SaveBlock} (mem : b ∈ sectionBlocks sec t) :
    b.sect = sec ∧ b.index < b.sect.blocks ∧ b.bytes = ((sectionImage b.sect t).drop (32 * b.index)).take 32 := by
  obtain ⟨i, less, rfl⟩ := List.mem_map.mp mem
  exact ⟨rfl, List.mem_range.mp less, rfl⟩

theorem mem_saveBlocks {cal safe tables : Bool} {t : Tables} {b : SaveBlock} (mem : b ∈ saveBlocks cal safe tables t) :
    ∃ sec, b ∈ sectionBlocks sec t := by
  unfold saveBlocks at mem
  simp only [List.mem_append] at mem
  rcases mem with (mem | mem) | mem <;> split at mem
  · exact ⟨_, mem⟩
  · simp at mem
  · exact ⟨_, mem⟩
  · simp at mem
  · exact ⟨_, mem⟩
  · simp at mem

theorem sectionBlocks_bytes (sec : Section) (t : Tables) :
    ((sectionBlocks sec t).map SaveBlock.bytes).flatten = (sectionImage sec t).take (32 * sec.blocks) := by
  rw [sectionBlocks, List.map_map]
  exact flatten_blocks _ _

theorem sectionBlocks_places (sec : Section) (t : Tables) :
    (sectionBlocks sec t).map (fun b => (b.sect, b.index)) = (List.range sec.blocks).map fun i => (sec, i) := by
  rw [sectionBlocks, List.map_map]
  rfl

theorem sectionBlocks_length (sec : Section) (t : Tables) : (sectionBlocks sec t).length = sec.blocks := by
  simp [sectionBlocks]

/-- A save names no section exactly when its parameter byte is 0. -/
theorem saves_none {m : Byte} (small : m.toNat < 8) : (m.getLsbD 0 || m.getLsbD 1 || m.getLsbD 2) = false ↔ m = 0 := by
  have all : ∀ m : Byte, m.toNat < 8 → ((m.getLsbD 0 || m.getLsbD 1 || m.getLsbD 2) = false ↔ m = 0) := by decide
  exact all m small

/-- Settles O55. -/
theorem profileSaveBegins : Obligations.ProfileSaveBegins := by
  refine ⟨fun s r m run here params small => ?_, fun sec t u wf => ?_⟩
  · have parsed : parseAsk 0x0B r.params = .ok (.profileSave (m.getLsbD 0) (m.getLsbD 1) (m.getLsbD 2)) := by
      rw [params]
      exact if_pos small
    rw [exec_record_asked (c := .profileSave r) rfl here parsed (.inl run), State.answerAsk]
    refine ⟨fun zero => ?_, fun names strap => ?_, fun names strap busy => ?_, fun names strap idle => ?_⟩
    · rw [if_pos ((saves_none small).mpr zero), State.replied_tell, doneReply_nil]
    · rw [if_neg (names ∘ (saves_none small).mp), if_pos strap, State.replied_refuse]
    · rw [if_neg (names ∘ (saves_none small).mp), if_neg (by simp [strap]), if_pos busy, State.replied_refuse]
    · rw [if_neg (names ∘ (saves_none small).mp), if_neg (by simp [strap]), if_neg idle, State.replied_accept]
      refine ⟨saveBlocks (m.getLsbD 0) (m.getLsbD 1) (m.getLsbD 2) s.tables, rfl, ?_, ?_, fun sec => ?_, fun b mem => ?_,
        fun b mem => ?_⟩
      · unfold saveBlocks
        rw [List.map_append, List.map_append]
        congr 1
        · congr 1
          · split
            · exact sectionBlocks_places _ _
            · rfl
          · split
            · exact sectionBlocks_places _ _
            · rfl
        · split
          · exact sectionBlocks_places _ _
          · rfl
      · simp only [saveBlocks, List.length_append, apply_ite List.length, sectionBlocks_length, List.length_nil]
        rfl
      · simp only [saveBlocks, List.filter_append, apply_ite (List.filter _), sectionBlocks_filter, List.filter_nil]
        cases sec <;> simp [apply_ite (List.map _), apply_ite List.flatten, sectionBlocks_bytes]
      · obtain ⟨sec, mine⟩ := mem_saveBlocks mem
        exact (mem_sectionBlocks mine).2.2
      · obtain ⟨sec, mine⟩ := mem_saveBlocks mem
        obtain ⟨-, index, bytes⟩ := mem_sectionBlocks mine
        have long := sectionImage_long b.sect s.tables
        refine ⟨?_, index⟩
        rw [bytes, List.length_take, List.length_drop]
        omega
  · exact section_packed u wf

/-! ## Blocks written (R155) -/

theorem Profile.setTorn_frame (p : Profile) (sec : Section) (b : Bool) : p.setTorn sec b = { p with torn := (p.setTorn sec b).torn } := by
  cases sec <;> rfl

theorem Profile.setTorn_isTorn (p : Profile) (sec other : Section) (b : Bool) :
    (p.setTorn sec b).isTorn other = if other = sec then b else p.isTorn other := by
  cases sec <;> cases other <;> rfl

theorem Profile.setBytes_bytesOf (p : Profile) (sec other : Section) (bytes : List Byte) :
    (p.setBytes sec bytes).bytesOf other = if other = sec then bytes else p.bytesOf other := by
  cases sec <;> cases other <;> rfl

theorem Profile.setBytes_isTorn (p : Profile) (sec other : Section) (bytes : List Byte) :
    (p.setBytes sec bytes).isTorn other = p.isTorn other := by
  cases sec <;> cases other <;> rfl

theorem Profile.setTorn_bytesOf (p : Profile) (sec other : Section) (b : Bool) :
    (p.setTorn sec b).bytesOf other = p.bytesOf other := by
  cases sec <;> cases other <;> rfl

/-- A block verified leaves the load's findings and the other sections. -/
theorem Profile.blockMatches_frame (p : Profile) (b : SaveBlock) (rest : List SaveBlock) :
    (p.blockMatches b rest).fallback = p.fallback ∧ (p.blockMatches b rest).serial = p.serial ∧
      (p.blockMatches b rest).identity = p.identity := by
  unfold Profile.blockMatches
  cases b.sect <;> exact ⟨rfl, rfl, rfl⟩

theorem Profile.blockMatches_bytesOf (p : Profile) (b : SaveBlock) (rest : List SaveBlock) (sec : Section) :
    (p.blockMatches b rest).bytesOf sec = if sec = b.sect then writeBlock (p.bytesOf b.sect) b else p.bytesOf sec := by
  have written : (p.blockMatches b rest).bytesOf sec =
      ((p.setBytes b.sect (writeBlock (p.bytesOf b.sect) b)).setTorn b.sect (!decide (b.index + 1 = b.sect.blocks))).bytesOf sec := by
    cases sec <;> rfl
  rw [written, Profile.setTorn_bytesOf, Profile.setBytes_bytesOf]

theorem Profile.blockMatches_isTorn (p : Profile) (b : SaveBlock) (rest : List SaveBlock) (sec : Section) :
    (p.blockMatches b rest).isTorn sec = if sec = b.sect then !decide (b.index + 1 = b.sect.blocks) else p.isTorn sec := by
  rw [← Profile.setBytes_isTorn p b.sect sec (writeBlock (p.bytesOf b.sect) b), ← Profile.setTorn_isTorn]
  cases sec <;> rfl

/-- Settles O56. -/
theorem profileBlocksWritten : Obligations.ProfileBlocksWritten := by
  intro s b rest busy job
  constructor
  · intro idle
    have begun : s.profile.beginBlock = { s.profile.setTorn b.sect true with writing := some 0 } := by
      unfold Profile.beginBlock
      rw [job]
      exact if_pos ⟨busy, idle⟩
    refine ⟨s.profile.beginBlock, rfl, ?_, ?_, fun sec other => ?_⟩
    · rw [begun, Profile.setTorn_frame]
    · rw [begun]
      exact (Profile.setTorn_isTorn _ _ b.sect _).trans (if_pos rfl)
    · rw [begun]
      exact (Profile.setTorn_isTorn _ _ sec _).trans (if_neg other)
  · intro k running four
    have done : s.profile.blockDone = true := by
      rw [Profile.blockDone, running]
      exact decide_eq_true four
    have verified (matched : Bool) : exec (.profileBlockVerified matched) s = .next (if matched then
        ({ s.clearDue .blockVerified with profile := s.profile.blockMatches b rest }).latchIf (decide (rest = [])) .profileDone
        else ({ s.clearDue .blockVerified with profile := s.profile.blockFails }).latch .profileFailed) := by
      change Host.Outcome.next ((s.clearDue .blockVerified).verifyBlock matched) = _
      unfold State.verifyBlock
      rw [show (s.clearDue .blockVerified).profile = s.profile from rfl, job]
      dsimp only
      rw [if_pos ⟨busy, done⟩]
    refine ⟨⟨s.profile.blockMatches b rest, ?_, rfl, rfl, rfl, rfl, (s.profile.blockMatches_frame b rest).1,
      (s.profile.blockMatches_frame b rest).2.1, (s.profile.blockMatches_frame b rest).2.2, ?_, fun len inside => ?_,
      fun sec other => ?_⟩, verified false⟩
    · rw [verified true, if_pos rfl]
      by_cases last : rest = []
      · rw [decide_eq_true last, if_pos last]; rfl
      · rw [decide_eq_false last, if_neg last]
        simp [State.latchIf, State.clearDue]
    · rw [Profile.blockMatches_isTorn, if_pos rfl]
      simp
    · have before : ((s.profile.bytesOf b.sect).take (32 * b.index)).length = 32 * b.index := by
        rw [List.length_take]; omega
      rw [Profile.blockMatches_bytesOf, if_pos rfl, writeBlock, List.append_assoc]
      refine ⟨?_, List.take_left' before, ?_⟩
      · rw [List.drop_left' before, List.take_left' len]
      · rw [← List.append_assoc, List.drop_left' (by rw [List.length_append, before, len])]
    · rw [Profile.blockMatches_bytesOf, if_neg other, Profile.blockMatches_isTorn, if_neg other]
      exact ⟨rfl, rfl⟩

end Sys2Proof.Machine
end

section
/-! What the course of an event can reach (R120, R123): the rows it may activate, the units it cannot hold, and the conditions that
such units keep qualified. -/

namespace Sys2Proof.Machine

/-! ## Sources by their kind (R120) -/

theorem State.sourceActive_limit (s : State) {i : Fin 31} {n : Fin 16} (e : i.val = n.val) :
    s.sourceActive i = (s.limits.rows.get n).active := by
  have index : Fin.ofNat 16 i.val = n := Fin.ext (by rw [Fin.val_ofNat, e, Nat.mod_eq_of_lt n.isLt])
  unfold State.sourceActive
  rw [if_pos (by omega), index]

theorem State.sourceActive_contact (s : State) {i : Fin 31} {c : Fin 8} (e : i.val = 16 + c.val) :
    s.sourceActive i = s.contactActive c := by
  have index : Fin.ofNat 8 (i.val - 16) = c := Fin.ext (by rw [Fin.val_ofNat, e]; omega)
  unfold State.sourceActive
  rw [if_neg (by omega), if_pos (by omega), index]

theorem State.sourceActive_stall (s : State) {i : Fin 31} {r : Fin 3} (e : i.val = 24 + r.val) :
    s.sourceActive i = (s.rotation.get r).stalled := by
  have index : Fin.ofNat 3 (i.val - 24) = r := Fin.ext (by rw [Fin.val_ofNat, e]; omega)
  unfold State.sourceActive
  rw [if_neg (by omega), if_neg (by omega), if_pos (by omega), index]

/-! ## Rows within reach -/

/-- The rows that are active, and those that a round may fire, all belong to a set. -/
structure State.Within (s : State) (A : Fin 16 → Prop) : Prop where
  active : ∀ n, (s.reflex.rows.get n).active = true → A n
  fires : ∀ n, reflexEnabled (s.tables.reflexRow n) = true → s.sourceActive (reflexSource (s.tables.reflexRow n)) = true → A n

/-- A row after a change of its source is active only if it was, or if it is enabled and its source is active. -/
theorem ReflexRow.follow_reach (x : ReflexRow) (row : Row) (was is : Bool) (h : (x.follow row was is).active = true) :
    x.active = true ∨ (reflexEnabled row = true ∧ is = true) := by
  unfold ReflexRow.follow at h
  split at h
  · next enabled =>
    split at h
    · next fires => exact .inr ⟨enabled, (Bool.and_eq_true _ _ ▸ fires).1⟩
    · split at h
      · exact .inl h
      · exact .inl (Bool.and_eq_true _ _ ▸ h).1
  · nomatch h

theorem State.Within.round {s : State} {A : Fin 16 → Prop} (h : s.Within A) (b : Bank Bool 31) : (s.settleRound b).Within A where
  active n on := by
    rw [State.settleRound_rows] at on
    rcases ReflexRow.follow_reach _ _ _ _ on with was | ⟨enabled, is⟩
    · exact h.active n was
    · exact h.fires n enabled is
  fires n enabled on := by
    rw [State.settleRound_tables] at enabled on
    exact h.fires n enabled (State.settleRound_sources s b _ on)

/-- In a settled part the active rows are all that a round may reach. -/
theorem State.Settled.within {s : State} (h : s.Settled) : s.Within fun n => (s.reflex.rows.get n).active = true where
  active _ on := on
  fires n enabled on := h.active n enabled on

/-- With the rows as they were, and sources active only if they were or if a set of rows watches them, that set may be reached too. -/
theorem State.Settled.within_after {s t : State} (h : s.Settled) (rows : t.reflex.rows = s.reflex.rows)
    (tables : ∀ n, t.tables.reflexRow n = s.tables.reflexRow n) {W : Fin 16 → Prop}
    (sources : ∀ n, reflexEnabled (s.tables.reflexRow n) = true → t.sourceActive (reflexSource (s.tables.reflexRow n)) = true →
      s.sourceActive (reflexSource (s.tables.reflexRow n)) = true ∨ W n) :
    t.Within fun n => (s.reflex.rows.get n).active = true ∨ W n where
  active n on := .inl (rows ▸ on)
  fires n enabled on := by
    rw [tables] at enabled on
    exact (sources n enabled on).imp (h.active n enabled) id

/-! ## Units out of reach -/

theorem Hold.fold_const {α : Type} (f : α → Hold) (l : List α) (a : Hold) (none : ∀ n ∈ l, f n = .none) :
    l.foldl (fun h n => h.worse (f n)) a = a := by
  induction l with
  | nil => rfl
  | cons n l ih =>
    rw [List.foldl_cons, none n List.mem_cons_self]
    have same : a.worse .none = a := by cases a <;> rfl
    rw [same]
    exact ih fun n mem => none n (List.mem_cons_of_mem _ mem)

/-- Where no active row holds a unit, its hold action is that of the safe state. -/
theorem State.holdOf_safe {s : State} {u : Fin 4}
    (free : ∀ n, (s.reflex.rows.get n).active = true → (reflexAction (s.tables.reflexRow n) u).hold = .none) :
    s.holdOf u = s.safeHold u := by
  unfold State.holdOf
  refine Hold.fold_const _ _ _ fun n mem => free n ?_
  simpa [State.activeRows] using mem

theorem State.settleRound_safeActive (s : State) (b : Bank Bool 31) : (s.settleRound b).safeActive = s.safeActive := by
  simp [State.settleRound, State.requalify, State.formHolds, State.followSources, State.safeActive]

theorem State.settleRound_safeHold (s : State) (b : Bank Bool 31) (u : Fin 4) : (s.settleRound b).safeHold u = s.safeHold u := by
  unfold State.safeHold
  rw [State.settleRound_tables, State.settleRound_safeActive]

theorem PulseUnit.deliverHold_none {u : PulseUnit} (row : Row) (free : u.state.held = false) : u.deliverHold row .none = u := by
  unfold PulseUnit.deliverHold
  cases e : u.state <;> simp_all [UnitState.held]

theorem State.stallQualified_congr {s t : State} {r : Fin 3} (phase : t.phase = s.phase) (tables : t.tables = s.tables)
    (units : ∀ u, rotationLinked (s.tables.rotationRow r) = some u → t.units.get u = s.units.get u) :
    t.stallQualified r = s.stallQualified r := by
  unfold State.stallQualified State.conditionerRunning
  rw [phase, tables]
  dsimp only
  cases e : rotationLinked (s.tables.rotationRow r) with
  | none => rfl
  | some u => simp only [units u e]

theorem State.limitQualified_congr {s t : State} {n : Fin 16} (phase : t.phase = s.phase) (tables : t.tables = s.tables)
    (units : ∀ u, limitQualifier (s.tables.limitRow n) = some u → t.units.get u = s.units.get u) :
    t.limitQualified n = s.limitQualified n := by
  unfold State.limitQualified State.conditionerRunning
  rw [phase, tables]
  dsimp only
  cases e : limitQualifier (s.tables.limitRow n) with
  | none => rfl
  | some u => simp only [units u e]

/-- A set of units, none of them HELD, that neither the safe state nor any row within reach holds. -/
structure State.Free (s : State) (A : Fin 16 → Prop) (U : Fin 4 → Prop) : Prop where
  within : s.Within A
  safe : ∀ u, U u → s.safeHold u = .none
  rows : ∀ u, U u → ∀ n, A n → (reflexAction (s.tables.reflexRow n) u).hold = .none
  state : ∀ u, U u → (s.units.get u).state.held = false

theorem State.Free.holdOf {s : State} {A : Fin 16 → Prop} {U : Fin 4 → Prop} (h : s.Free A U) (u : Fin 4) (mem : U u) :
    s.holdOf u = .none := (State.holdOf_none s u).mpr ⟨h.safe u mem, fun n on => h.rows u mem n (h.within.active n on)⟩

theorem State.Free.round_unit {s : State} {A : Fin 16 → Prop} {U : Fin 4 → Prop} (h : s.Free A U) (b : Bank Bool 31) (u : Fin 4)
    (mem : U u) : (s.settleRound b).units.get u = s.units.get u := by
  have hold : (s.settleRound b).holdOf u = .none := (State.holdOf_none _ u).mpr
    ⟨by rw [State.settleRound_safeHold]; exact h.safe u mem, fun n on => by
      rw [State.settleRound_tables]; exact h.rows u mem n ((h.within.round b).active n on)⟩
  rw [State.settleRound_units_get, hold, PulseUnit.deliverHold_none _ (h.state u mem)]

theorem State.Free.round {s : State} {A : Fin 16 → Prop} {U : Fin 4 → Prop} (h : s.Free A U) (b : Bank Bool 31) :
    (s.settleRound b).Free A U where
  within := h.within.round b
  safe u mem := by rw [State.settleRound_safeHold]; exact h.safe u mem
  rows u mem n reach := by rw [State.settleRound_tables]; exact h.rows u mem n reach
  state u mem := by rw [h.round_unit b u mem]; exact h.state u mem

/-- What a course keeps of free units: the units, and the limit rows and rotation inputs that only they qualify. -/
structure State.KeepsFree (s t : State) (U : Fin 4 → Prop) : Prop where
  phase : t.phase = s.phase
  tables : t.tables = s.tables
  units : ∀ u, U u → t.units.get u = s.units.get u
  limits : ∀ n, (∀ u, limitQualifier (s.tables.limitRow n) = some u → U u) → (s.limits.rows.get n).qualified = s.limitQualified n →
    t.limits.rows.get n = s.limits.rows.get n
  inputs : ∀ r, (∀ u, rotationLinked (s.tables.rotationRow r) = some u → U u) →
    (s.rotation.get r).stallTimer.isSome = s.stallQualified r → (s.stallQualified r = false → (s.rotation.get r).stalled = false) →
    t.rotation.get r = s.rotation.get r

/-- A course leaves units free of every hold as they are, and what only they qualify (R109, R99). -/
theorem State.Free.settle {s : State} {A : Fin 16 → Prop} {U : Fin 4 → Prop} (h : s.Free A U) (b : Bank Bool 31) :
    (s.settle b).Free A U ∧ s.KeepsFree (s.settle b) U := by
  refine State.settle_induct (fun t => t.Free A U ∧ s.KeepsFree t U) (fun t b k => ?_) s b
    ⟨h, rfl, rfl, fun _ _ => rfl, fun _ _ _ => rfl, fun _ _ _ _ => rfl⟩
  obtain ⟨free, kept⟩ := k
  have phase : (t.settleRound b).phase = s.phase := (State.settleRound_phase ..).trans kept.phase
  have tables : (t.settleRound b).tables = s.tables := (State.settleRound_tables t b).trans kept.tables
  have units (u : Fin 4) (mem : U u) : (t.settleRound b).units.get u = s.units.get u :=
    (free.round_unit b u mem).trans (kept.units u mem)
  refine ⟨free.round b, phase, tables, units, fun n only q => ?_, fun r only timed untimed => ?_⟩
  · rw [State.settleRound_limits_get, kept.limits n only q]
    exact LimitRow.requalify_same _ _ _ (q.trans (State.limitQualified_congr phase tables fun u e => units u (only u e)).symm)
  · rw [State.settleRound_rotation_get, kept.inputs r only timed untimed,
      State.stallQualified_congr phase tables fun u e => units u (only u e)]
    exact Rotation.requalify_same _ _ timed untimed

/-! ## A settled part with nothing to follow up -/

/-- What a course leaves of a settled part whatever it takes the sources to have been: every condition, and every unit in all that a
condition looks at. -/
structure State.Still (s t : State) : Prop where
  phase : t.phase = s.phase
  tables : t.tables = s.tables
  safe : t.safeActive = s.safeActive
  contacts : t.contacts = s.contacts
  rows : ∀ n, (t.reflex.rows.get n).active = (s.reflex.rows.get n).active
  units : ∀ u, (t.units.get u).state = (s.units.get u).state ∧ (t.units.get u).applied = (s.units.get u).applied ∧
    (t.units.get u).exhausted = (s.units.get u).exhausted
  limits : ∀ n, t.limits.rows.get n = s.limits.rows.get n
  inputs : ∀ r, t.rotation.get r = s.rotation.get r

namespace State.Still
variable {s t : State} (k : s.Still t)
include k

theorem sourceActive (i : Fin 31) : t.sourceActive i = s.sourceActive i := by
  unfold State.sourceActive State.contactActive State.conditionerRunning
  simp only [k.phase, k.tables, k.contacts, k.limits, k.inputs, k.units]

theorem limitQualified (n : Fin 16) : t.limitQualified n = s.limitQualified n := by
  unfold State.limitQualified State.conditionerRunning PulseUnit.drivesAtLeast
  simp only [k.phase, k.tables, k.units]

theorem stallQualified (r : Fin 3) : t.stallQualified r = s.stallQualified r := by
  unfold State.stallQualified State.conditionerRunning PulseUnit.drivesAtLeast
  simp only [k.phase, k.tables, k.units]

theorem holdOf (u : Fin 4) : t.holdOf u = s.holdOf u := by
  have rows : t.activeRows = s.activeRows := by
    unfold State.activeRows
    simp only [k.rows]
  unfold State.holdOf State.safeHold
  rw [rows, k.tables, k.safe]

end State.Still

/-- A row that agrees with its source is as active after it is followed. -/
theorem ReflexRow.follow_agreeing {x : ReflexRow} {row : Row} {is : Bool} (h : x.agrees row is = true) (was : Bool) :
    (x.follow row was is).active = x.active := by
  unfold ReflexRow.agrees at h
  unfold ReflexRow.follow ReflexRow.fire
  split at h
  · next enabled =>
    rw [if_pos enabled]
    split
    · next fires =>
      have on := (Bool.and_eq_true _ _ ▸ fires).1
      simp_all
    · split
      · rfl
      · simp_all
        cases a : x.active <;> simp_all
  · next disabled =>
    rw [if_neg disabled]
    simpa using h

/-- A hold action delivered to a unit that agrees with it leaves what conditions look at. -/
theorem PulseUnit.deliverHold_obeying {u : PulseUnit} {h : Hold} (row : Row) (obeys : u.obeys h = true) :
    (u.deliverHold row h).state = u.state ∧ (u.deliverHold row h).applied = u.applied ∧
      (u.deliverHold row h).exhausted = u.exhausted := by
  unfold PulseUnit.obeys at obeys
  unfold PulseUnit.deliverHold
  cases e : u.state <;> cases h <;> simp_all [Hold.heldState]

theorem State.Settled.still_round {s t : State} (h : s.Settled) (k : s.Still t) (b : Bank Bool 31) : s.Still (t.settleRound b) := by
  have tables : (t.settleRound b).tables = s.tables := (State.settleRound_tables t b).trans k.tables
  have phase : (t.settleRound b).phase = s.phase := (State.settleRound_phase ..).trans k.phase
  have safe : (t.settleRound b).safeActive = s.safeActive := (State.settleRound_safeActive t b).trans k.safe
  have rows (n : Fin 16) : ((t.settleRound b).reflex.rows.get n).active = (s.reflex.rows.get n).active := by
    rw [State.settleRound_rows, k.tables, k.sourceActive, ← k.rows]
    refine ReflexRow.follow_agreeing ?_ _
    have agrees := h.rows n
    unfold ReflexRow.agrees at agrees ⊢
    rwa [k.rows]
  have hold (u : Fin 4) : (t.settleRound b).holdOf u = s.holdOf u := by
    have active : (t.settleRound b).activeRows = s.activeRows := by
      unfold State.activeRows
      simp only [rows]
    unfold State.holdOf State.safeHold
    rw [active, tables, safe]
  have units (u : Fin 4) : ((t.settleRound b).units.get u).state = (s.units.get u).state ∧
      ((t.settleRound b).units.get u).applied = (s.units.get u).applied ∧
      ((t.settleRound b).units.get u).exhausted = (s.units.get u).exhausted := by
    obtain ⟨state, applied, exhausted⟩ := k.units u
    have obeys : (t.units.get u).obeys (s.holdOf u) = true := by
      have := h.holds.obeyed u
      unfold PulseUnit.obeys at this ⊢
      rwa [state]
    obtain ⟨state', applied', exhausted'⟩ := PulseUnit.deliverHold_obeying (t.tables.unitRow u) obeys
    rw [State.settleRound_units_get, hold]
    exact ⟨state'.trans state, applied'.trans applied, exhausted'.trans exhausted⟩
  refine ⟨phase, tables, safe, (State.settleRound_contacts ..).trans k.contacts, rows, units, fun n => ?_, fun r => ?_⟩
  · have qualified : (t.settleRound b).limitQualified n = s.limitQualified n := by
      unfold State.limitQualified State.conditionerRunning PulseUnit.drivesAtLeast
      simp only [phase, tables, units]
    rw [State.settleRound_limits_get, qualified, k.limits]
    exact LimitRow.requalify_same _ _ _ (h.qualified n)
  · have qualified : (t.settleRound b).stallQualified r = s.stallQualified r := by
      unfold State.stallQualified State.conditionerRunning PulseUnit.drivesAtLeast
      simp only [phase, tables, units]
    rw [State.settleRound_rotation_get, qualified, k.inputs]
    exact Rotation.requalify_same _ _ (h.timed r) (h.untimed r)

theorem State.Settled.still {s : State} (h : s.Settled) (b : Bank Bool 31) : s.Still (s.settle b) :=
  State.settle_induct (s.Still ·) (fun _ b k => h.still_round k b) s b
    ⟨rfl, rfl, rfl, rfl, fun _ => rfl, fun _ => ⟨rfl, rfl, rfl⟩, fun _ => rfl, fun _ => rfl⟩

end Sys2Proof.Machine
end

section
/-! Conditions that change: a filtered change, a stall, an accepted change, the link timer's expiry, a starvation (R91, R100, R95,
R141, R110). -/

namespace Sys2Proof.Machine

theorem Bank.set_get {α : Type} {n : Nat} (b : Bank α n) (i : Fin n) : b.set i (b.get i) = b := Bank.ext_get fun j => by
  rw [Bank.get_set]
  split
  · next e => rw [e]
  · rfl

/-- Everything a row that watches a source which becomes active in an event shows after its course (R121, R122). -/
theorem State.row_fires {s t : State} {n : Fin 16} (tables : t.tables = s.tables)
    (enabled : reflexEnabled (s.tables.reflexRow n) = true) (was : s.sourceActive (reflexSource (s.tables.reflexRow n)) = false)
    (is : t.sourceActive (reflexSource (s.tables.reflexRow n)) = true) :
    ((t.settle s.sources).reflex.rows.get n).fired = true ∧ (t.settle s.sources).status.events.getLsbD 9 = true ∧
      (reflexLatched (s.tables.reflexRow n) = true → ((t.settle s.sources).reflex.rows.get n).active = true) := by
  have fired := State.settle_fires t s.sources n (by rwa [tables]) (by rw [tables, State.sources_get]; exact was) (by rwa [tables])
  rwa [tables] at fired

/-! ## FILTERED_CHANGE (R91) -/

theorem Contact.wakes_iff (x : Contact) : x.wakes = true ↔ ∃ l, x.latch = some l ∧ l ≠ x.filtered := by
  unfold Contact.wakes
  split
  · next l e => simp [e]
  · next e => simp [e]

/-- Settles O27. -/
theorem filteredChangeTaken : Obligations.FilteredChangeTaken := by
  intro s c
  constructor
  · intro run standby
    have stopped : ¬(s.clearDue (.filtered c)).conditionerRunning = true := by
      rw [State.conditionerRunning_iff]
      exact not_or.mpr ⟨run, standby⟩
    exact congrArg _ (if_neg stopped)
  · intro settled runs
    have running : (s.clearDue (.filtered c)).conditionerRunning = true := (State.conditionerRunning_iff _).mpr runs
    have settled' := settled.clearDue (.filtered c)
    have ends : (((s.clearDue (.filtered c)).setContact c (s.contacts.get c).change).settle s.sources).Settled :=
      settled'.followed rfl (fun _ => rfl) settled'.fresh
    generalize hv : ((s.clearDue (.filtered c)).setContact c (s.contacts.get c).change).settle s.sources = v at ends
    have course := State.settle_course ((s.clearDue (.filtered c)).setContact c (s.contacts.get c).change) s.sources
    rw [hv] at course
    refine ⟨v, course, ends, ?_, fun n enabled source polarity => ?_⟩
    · have changed : (s.clearDue (.filtered c)).changeContact c =
          if v.phase = .standby ∧ (v.contacts.get c).wakes then v.markDue .wakeContact else v := by
        rw [← hv]
        exact if_pos running
      have contact : v.contacts.get c = (s.contacts.get c).change := by
        rw [course.contacts]
        exact Bank.get_set_self _ _ _
      change Host.Outcome.next ((s.clearDue (.filtered c)).changeContact c) = _
      have same : (v.phase = .standby ∧ (v.contacts.get c).wakes = true) ↔ s.phase = .standby ∧
          ∃ l, (s.contacts.get c).latch = some l ∧ l ≠ (s.contacts.get c).change.filtered := by
        rw [contact, course.phase, Contact.wakes_iff]
        rfl
      rw [changed]
      by_cases wakes : v.phase = .standby ∧ (v.contacts.get c).wakes = true
      · obtain ⟨standby, differs⟩ := same.mp wakes
        rw [if_pos wakes, State.markDue]
        by_cases due : DueEvent.wakeContact ∈ v.due
        · rw [if_pos due, if_neg fun k => k.2.2 due]
        · rw [if_neg due, if_pos ⟨standby, differs, due⟩]
      · rw [if_neg wakes, if_neg fun k => wakes (same.mpr ⟨k.1, k.2.1⟩)]
    · have is : ((s.clearDue (.filtered c)).setContact c (s.contacts.get c).change).sourceActive
          (reflexSource (s.tables.reflexRow n)) = true := by
        rw [State.sourceActive_contact _ source, State.contactActive,
          show ((s.clearDue (.filtered c)).setContact c (s.contacts.get c).change).contacts.get c = _ from Bank.get_set_self _ _ _]
        rw [Bool.and_eq_true]
        exact ⟨running, beq_iff_eq.mpr polarity⟩
      have was : s.sourceActive (reflexSource (s.tables.reflexRow n)) = false := by
        rw [State.sourceActive_contact _ source, State.contactActive, ← Bool.not_eq_true, Bool.and_eq_true]
        rintro ⟨-, same⟩
        have same : (s.contacts.get c).filtered = contactPolarity (s.tables.contactRow c) := by simpa using same
        simp [← same] at polarity
      obtain ⟨fired, event, -⟩ := State.row_fires (s := s) (t := (s.clearDue (.filtered c)).setContact c (s.contacts.get c).change) rfl
        enabled was is
      rw [hv] at fired event
      refine ⟨fired, ?_, event⟩
      have tables : v.tables = s.tables := congrArg (·.active) course.service
      refine ends.active n (by rwa [tables]) ?_
      rw [tables, State.sourceActive_contact _ source, ← is, State.sourceActive_contact _ source]
      unfold State.contactActive State.conditionerRunning
      rw [course.contacts, course.phase, tables]
      rfl

/-! ## STALL (R100) -/

theorem Rotation.atWindow_iff (x : Rotation) (w : Nat) : x.atWindow w = true ↔ 0 < w ∧ x.stallTimer = some w := by
  simp [Rotation.atWindow]

/-- The part with STn active. -/
abbrev State.stalledAt (s : State) (r : Fin 3) : State := s.setRotation r { s.rotation.get r with stalled := true }

theorem exec_stall_at {s : State} {r : Fin 3} (window : 0 < rotationStallWindow (s.tables.rotationRow r))
    (timer : (s.rotation.get r).stallTimer = some (rotationStallWindow (s.tables.rotationRow r))) :
    exec (.stall r) s = .next (((s.clearDue (.stall r)).stalledAt r).settle s.sources) :=
  congrArg _ (if_pos ((Rotation.atWindow_iff _ _).mpr ⟨window, timer⟩))

theorem exec_stall_none {s : State} {r : Fin 3} (h : rotationStallWindow (s.tables.rotationRow r) = 0 ∨
    (s.rotation.get r).stallTimer ≠ some (rotationStallWindow (s.tables.rotationRow r))) :
    exec (.stall r) s = .next { s with due := s.due.erase (.stall r) } := by
  refine congrArg _ (if_neg fun at_ => ?_)
  obtain ⟨window, timer⟩ := (Rotation.atWindow_iff _ _).mp at_
  rcases h with zero | other
  · exact absurd zero (Nat.pos_iff_ne_zero.mp window)
  · exact other timer

/-- A rotation input is stall-qualified only by a linked unit that drives hard enough (R99). -/
theorem State.stallQualified_iff (s : State) (r : Fin 3) : s.stallQualified r = true ↔ s.conditionerRunning = true ∧
    0 < rotationStallWindow (s.tables.rotationRow r) ∧ ∃ u, rotationLinked (s.tables.rotationRow r) = some u ∧
      (s.units.get u).drivesAtLeast (rotationStallDuty (s.tables.rotationRow r)) = true := by
  unfold State.stallQualified
  dsimp only
  cases rotationLinked (s.tables.rotationRow r) <;> simp [and_assoc]

theorem PulseUnit.drivesAtLeast_run {u : PulseUnit} {d : Nat} (h : u.drivesAtLeast d = true) : u.state = .run := by
  simp only [PulseUnit.drivesAtLeast, Bool.and_eq_true, decide_eq_true_eq] at h
  exact h.1

/-- An action that holds, or does not. -/
theorem ReflexAction.hold_none_iff (a : ReflexAction) : a.hold = .none ↔ a ≠ .coast ∧ a ≠ .brake := by
  cases a <;> simp [ReflexAction.hold]

/-- A unit that a settled part finds under a hold is HELD, or in OFF. -/
theorem State.Settled.held {s : State} (h : s.Settled) {u : Fin 4} (hold : s.holdOf u ≠ .none) (on : (s.units.get u).state ≠ .off) :
    (s.units.get u).state.held = true := by
  have obeys := h.holds.obeyed u
  unfold PulseUnit.obeys at obeys
  cases e : (s.units.get u).state <;> simp_all [UnitState.held]

/-- A course leaves no unit in OFF that was not. -/
theorem State.settle_on (s : State) (b : Bank Bool 31) {u : Fin 4} (on : (s.units.get u).state ≠ .off) :
    ((s.settle b).units.get u).state ≠ .off :=
  State.settle_units (fun v x => v = u → x.state ≠ .off) (fun v x row h k same => PulseUnit.deliverHold_on row h (k same)) s b
    (fun v same => by rw [same]; exact on) u rfl

/-- One rotation input changed: STn is its, every other source stands. -/
theorem State.setRotation_sourceActive (s : State) (r : Fin 3) (x : Rotation) (i : Fin 31) :
    (s.setRotation r x).sourceActive i = if i.val = 24 + r.val then x.stalled else s.sourceActive i := by
  by_cases stall : 24 ≤ i.val ∧ i.val < 27
  · obtain ⟨q, e⟩ : ∃ q : Fin 3, i.val = 24 + q.val := ⟨⟨i.val - 24, by omega⟩, by simp; omega⟩
    have set : (s.setRotation r x).rotation.get q = if q = r then x else s.rotation.get q := Bank.get_set _ _ _ _
    have same : i.val = 24 + r.val ↔ q = r := by rw [e, Fin.ext_iff]; omega
    rw [State.sourceActive_stall _ e, State.sourceActive_stall _ e, set, if_congr same rfl rfl, apply_ite Rotation.stalled]
  · rw [if_neg (by omega)]
    unfold State.sourceActive
    split
    · rfl
    · split
      · rfl
      · rw [if_neg (by omega), if_neg (by omega)]
        rfl

/-- What a stall does in a settled part (R100, R121). -/
theorem State.Settled.stall {s : State} (h : s.Settled) {r : Fin 3} (timer : (s.rotation.get r).stallTimer.isSome = true)
    (quiet : (s.rotation.get r).stalled = false) :
    let t := (s.stalledAt r).settle s.sources
    let watches (n : Fin 16) : Prop :=
      reflexEnabled (s.tables.reflexRow n) = true ∧ (reflexSource (s.tables.reflexRow n)).val = 24 + r.val
    t.Settled ∧
    ((∀ n u, watches n → rotationLinked (s.tables.rotationRow r) = some u →
        reflexAction (s.tables.reflexRow n) u ≠ .coast ∧ reflexAction (s.tables.reflexRow n) u ≠ .brake) →
      t.rotation.get r = { s.rotation.get r with stalled := true }) ∧
    (∀ n, watches n →
      (t.reflex.rows.get n).fired = true ∧ t.status.events.getLsbD 9 = true ∧
      (reflexLatched (s.tables.reflexRow n) = true → (t.reflex.rows.get n).active = true ∧
        ∀ u, rotationLinked (s.tables.rotationRow r) = some u →
          reflexAction (s.tables.reflexRow n) u = .coast ∨ reflexAction (s.tables.reflexRow n) u = .brake →
          (t.units.get u).state.held = true ∧ (t.rotation.get r).stalled = false)) := by
  intro t watches
  have settled : t.Settled := h.followed rfl (fun _ => rfl) h.fresh
  have tables : t.tables = s.tables := congrArg (·.active) (State.settle_course (s.stalledAt r) s.sources).service
  have input : (s.stalledAt r).rotation.get r = { s.rotation.get r with stalled := true } := Bank.get_set_self _ _ _
  have qualified : s.stallQualified r = true := (h.timed r).symm.trans timer
  obtain ⟨running, window, u, linked, drives⟩ := (s.stallQualified_iff r).mp qualified
  have run := PulseUnit.drivesAtLeast_run drives
  have unheld := (s.holdOf_none u).mp (h.unheld (u := u) (by simp [run, UnitState.driving]))
  refine ⟨settled, fun free => ?_, fun n watching => ?_⟩
  · have out : (s.stalledAt r).Free (fun n => (s.reflex.rows.get n).active = true ∨ watches n) (· = u) := by
      refine ⟨h.within_after (t := s.stalledAt r) rfl (fun _ => rfl) fun n enabled on => ?_, ?_, ?_, ?_⟩
      · rw [State.setRotation_sourceActive] at on
        split at on
        · next e => exact .inr ⟨enabled, e⟩
        · exact .inl on
      · rintro _ rfl
        exact unheld.1
      · rintro _ rfl n (active | watching)
        · exact unheld.2 n active
        · exact (ReflexAction.hold_none_iff _).mpr (free n _ watching linked)
      · rintro _ rfl
        simp [run, UnitState.held]
    have same : (s.stalledAt r).stallQualified r = s.stallQualified r := rfl
    have kept := (out.settle s.sources).2.inputs r (fun v e => Option.some.inj (e.symm.trans linked))
      (by rw [input, same]; exact h.timed r) (by rw [same, qualified]; simp)
    exact kept.trans input
  · obtain ⟨fired, event, latched⟩ := State.row_fires (s := s) (t := s.stalledAt r) rfl watching.1
      (by rw [State.sourceActive_stall _ watching.2]; exact quiet)
      (by rw [State.setRotation_sourceActive, if_pos watching.2])
    refine ⟨fired, event, fun latch => ⟨latched latch, fun v linked' holds => ?_⟩⟩
    obtain rfl : v = u := Option.some.inj (linked'.symm.trans linked)
    have hold : t.holdOf v ≠ .none := fun none => by
      have := (State.holdOf_none t v).mp none |>.2 n (latched latch)
      rw [tables, ReflexAction.hold_none_iff] at this
      rcases holds with coast | brake
      · exact this.1 coast
      · exact this.2 brake
    have held := settled.held hold (State.settle_on _ _ (by simp [run]))
    refine ⟨held, settled.untimed r ?_⟩
    rw [← Bool.not_eq_true, State.stallQualified_iff]
    rintro ⟨-, -, w, linked'', drives'⟩
    rw [tables, linked] at linked''
    obtain rfl := Option.some.inj linked''
    rw [PulseUnit.drivesAtLeast_run drives'] at held
    nomatch held

/-! ## ACCEPTED_CHANGE (R95, R96) -/

theorem edgeQualifies_iff (sel : EdgeSelect) (level : Bool) : edgeQualifies sel level = true ↔
    (sel = .rising ∧ level = true) ∨ (sel = .falling ∧ level = false) ∨ sel = .both := by
  cases sel <;> simp [edgeQualifies]

theorem State.edgeDir_rev (s : State) (r : Fin 3) :
    s.edgeDir r = .rev ↔ ∃ u, rotationLinked (s.tables.rotationRow r) = some u ∧ (s.units.get u).countDir = .rev := by
  unfold State.edgeDir
  cases rotationLinked (s.tables.rotationRow r) <;> simp

/-- The accepted change of an input that differs from its pin (R95). -/
theorem exec_acceptedChange {s : State} {r : Fin 3} (runs : s.phase = .run ∨ s.phase = .standby)
    (differs : s.pins.rotation.getLsbD r ≠ (s.rotation.get r).accepted) : exec (.acceptedChange r) s = .next
      (((s.clearDue (.accepted r)).setRotation r ((s.rotation.get r).accept (rotationEdge (s.tables.rotationRow r)) (s.edgeDir r)
        s.now)).settle s.sources) :=
  congrArg _ (if_pos ⟨(State.conditionerRunning_iff _).mpr runs, differs⟩)

theorem exec_acceptedChange_none {s : State} {r : Fin 3} (h : (s.phase ≠ .run ∧ s.phase ≠ .standby) ∨
    s.pins.rotation.getLsbD r = (s.rotation.get r).accepted) :
    exec (.acceptedChange r) s = .next { s with due := s.due.erase (.accepted r) } := by
  refine congrArg _ (if_neg fun both => ?_)
  obtain ⟨running, differs⟩ := both
  rcases h with ⟨run, standby⟩ | same
  · exact ((State.conditionerRunning_iff _).mp running).elim run standby
  · exact differs same

theorem Rotation.accept_plain {x : Rotation} {sel : EdgeSelect} (plain : edgeQualifies sel (!x.accepted) = false) (d : Dir) (now : Nat) :
    x.accept sel d now = { x with accepted := !x.accepted, persistence := none } := by
  unfold Rotation.accept
  rw [if_neg (by simpa using plain)]

theorem Rotation.accept_edge {x : Rotation} {sel : EdgeSelect} (edge : edgeQualifies sel (!x.accepted) = true) (d : Dir) (now : Nat) :
    x.accept sel d now = Rotation.edge { x with accepted := !x.accepted, persistence := none } d now := by
  unfold Rotation.accept
  exact if_pos edge

/-- One rotation input changed in nothing that a condition or a qualification looks at. -/
theorem State.Alike.setRotation (s : State) (r : Fin 3) {x : Rotation}
    (timer : x.stallTimer.isSome = (s.rotation.get r).stallTimer.isSome) (stalled : x.stalled = (s.rotation.get r).stalled) :
    s.Alike (s.setRotation r x) := by
  refine ⟨rfl, fun _ => rfl, fun _ => rfl, fun _ => rfl, fun _ => rfl, fun _ => rfl, rfl, rfl, fun _ => rfl, fun q => ?_,
    fun _ => ⟨rfl, rfl, rfl⟩⟩
  have set : (s.setRotation r x).rotation.get q = if q = r then x else s.rotation.get q := Bank.get_set _ _ _ _
  rw [set]
  split
  · next e => rw [e]; exact ⟨timer, stalled⟩
  · exact ⟨rfl, rfl⟩

/-- An input's edge in a settled part: its course leaves the input as the edge has it (R100). -/
theorem State.Settled.edge {s : State} (h : s.Settled) {r : Fin 3} {y : Rotation}
    (timer : y.stallTimer.isSome = (s.rotation.get r).stallTimer.isSome) (released : y.stalled = false) :
    ((s.setRotation r y).settle s.sources).rotation.get r = y := by
  have input : (s.setRotation r y).rotation.get r = y := Bank.get_set_self _ _ _
  have qualified : (s.setRotation r y).stallQualified r = s.stallQualified r := rfl
  cases q : s.stallQualified r with
  | false =>
    have quiet : y.stalled = (s.rotation.get r).stalled := released.trans (h.untimed r q).symm
    exact ((h.alike (State.Alike.setRotation s r timer quiet)).still _).inputs r |>.trans input
  | true =>
    obtain ⟨-, -, u, linked, drives⟩ := (s.stallQualified_iff r).mp q
    have run := PulseUnit.drivesAtLeast_run drives
    have unheld := (s.holdOf_none u).mp (h.unheld (u := u) (by simp [run, UnitState.driving]))
    have free : (s.setRotation r y).Free (fun n => (s.reflex.rows.get n).active = true ∨ False) (· = u) := by
      refine ⟨h.within_after (t := s.setRotation r y) rfl (fun _ => rfl) fun n enabled on => .inl ?_, ?_, ?_, ?_⟩
      · rw [State.setRotation_sourceActive] at on
        split at on
        · rw [released] at on
          nomatch on
        · exact on
      · rintro _ rfl
        exact unheld.1
      · rintro _ rfl n (active | none)
        · exact unheld.2 n active
        · exact none.elim
      · rintro _ rfl
        simp [run, UnitState.held]
    have kept := (free.settle s.sources).2.inputs r (fun v e => Option.some.inj (e.symm.trans linked))
      (by rw [input, qualified, timer]; exact h.timed r) (by rw [qualified, q]; simp)
    exact kept.trans input

/-- Settles O28. -/
theorem stallsAndEdgesTaken : Obligations.StallsAndEdgesTaken := by
  constructor
  · intro s r x w watches
    refine ⟨exec_stall_none, fun window timer => ⟨_, exec_stall_at window timer, State.settle_course _ _⟩,
      fun settled gates window timer stalled => ?_, fun settled window timer quiet => ?_⟩
    · rw [exec_stall_at window timer]
      have same : (s.clearDue (.stall r)).stalledAt r = s.clearDue (.stall r) := by
        have input : { s.rotation.get r with stalled := true } = s.rotation.get r := by
          rw [← stalled]
        unfold State.stalledAt State.setRotation
        rw [show (s.clearDue (.stall r)).rotation = s.rotation from rfl, input, Bank.set_get]
        rfl
      rw [same]
      exact congrArg _ (State.settle_same _ (settled.clearDue (.stall r)) gates)
    · have timed : (s.rotation.get r).stallTimer.isSome = true := by
        rw [show (s.rotation.get r).stallTimer = some w from timer]
        rfl
      exact ⟨_, exec_stall_at window timer, State.settle_course _ _, (settled.clearDue (.stall r)).stall timed quiet⟩
  · intro s r x row level qualifies backward
    refine ⟨exec_acceptedChange_none, fun runs differs => ⟨fun plain => ?_, fun edge => ?_⟩⟩
    · have flips : level = !x.accepted := by
        cases e : level <;> cases f : x.accepted <;> simp_all
      have accepted : (s.rotation.get r).accept (rotationEdge (s.tables.rotationRow r)) (s.edgeDir r) s.now =
          { x with accepted := level, persistence := none } := by
        rw [flips]
        refine Rotation.accept_plain ?_ _ _
        rw [← Bool.not_eq_true, edgeQualifies_iff, ← flips]
        exact plain
      refine ⟨_, exec_acceptedChange runs differs, ?_⟩
      rw [accepted]
      refine ⟨State.settle_course _ _, fun settled gates => ?_⟩
      have alike := State.Alike.setRotation (s.clearDue (.accepted r)) r (x := { x with accepted := level, persistence := none })
        rfl rfl
      have sources : s.sources = ((s.clearDue (.accepted r)).setRotation r { x with accepted := level, persistence := none }).sources :=
        Bank.ext_get fun i => by
          rw [State.sources_get, State.sources_get, alike.sourceActive]
          rfl
      rw [sources]
      exact State.settle_same _ ((settled.clearDue _).alike alike) gates
    · have flips : level = !x.accepted := by
        cases e : level <;> cases f : x.accepted <;> simp_all
      have accepted : (s.rotation.get r).accept (rotationEdge (s.tables.rotationRow r)) (s.edgeDir r) s.now =
          Rotation.edge { x with accepted := level, persistence := none } (s.edgeDir r) s.now := by
        rw [flips]
        refine Rotation.accept_edge ?_ _ _
        rw [edgeQualifies_iff, ← flips]
        exact edge
      refine ⟨_, Rotation.edge { x with accepted := level, persistence := none } (s.edgeDir r) s.now, exec_acceptedChange runs differs, ?_⟩
      rw [accepted]
      refine ⟨State.settle_course _ _, fun settled => ⟨(settled.clearDue (.accepted r)).followed rfl (fun _ => rfl) settled.fresh,
        (settled.clearDue (.accepted r)).edge (by simp [Rotation.edge, x]) rfl⟩, rfl, rfl, fun back => ?_, fun forth => ?_,
        rfl, rfl, rfl, rfl, fun k seen time => ?_, fun unseen => ?_, rfl⟩
      · rw [(s.edgeDir_rev r).mpr back]; rfl
      · have fwd : s.edgeDir r = .fwd := by
          cases e : s.edgeDir r with
          | fwd => rfl
          | rev => exact absurd ((s.edgeDir_rev r).mp e) forth
        rw [fwd]; rfl
      · simp [Rotation.edge, Rotation.intervalAt, time, seen, intervalBetween]
      · simp only [Rotation.edge, Rotation.intervalAt, unseen]
        split <;> simp

/-! ## LINK_TIMER_EXPIRY (R141, R127) -/

/-- The hold of a unit's safe action (R127). -/
def safeHoldOf (row : Row) : Hold := if unitSafeBrake row then .brake else .coast

theorem State.safeHold_active {s : State} (safe : s.safeActive = true) (u : Fin 4) : s.safeHold u = safeHoldOf (s.tables.unitRow u) := by
  unfold State.safeHold
  rw [if_pos safe]
  rfl

theorem safeHoldOf_ne (row : Row) : safeHoldOf row ≠ .none := by
  unfold safeHoldOf
  split <;> simp

/-- A held unit once a hold action is delivered to it (R34). -/
def PulseUnit.heldAs (x : PulseUnit) (h : Hold) : PulseUnit := { x with state := h.heldState }.present h.drive

theorem PulseUnit.deliverHold_held {x : PulseUnit} (held : x.state.held = true) (row : Row) {h : Hold} (some : h ≠ .none) :
    x.deliverHold row h = x.heldAs h := by
  unfold PulseUnit.deliverHold PulseUnit.heldAs
  cases e : x.state <;> cases h <;> simp_all [UnitState.held]

@[simp] theorem PulseUnit.heldAs_state (x : PulseUnit) (h : Hold) : (x.heldAs h).state = h.heldState := PulseUnit.present_state ..
@[simp] theorem PulseUnit.heldAs_drive (x : PulseUnit) (h : Hold) : (x.heldAs h).drive = h.drive := PulseUnit.present_drive ..

theorem Hold.heldState_held (h : Hold) : h.heldState.held = true := by cases h <;> rfl

/-- A unit that is held under an action already is left as it is by it. -/
theorem PulseUnit.heldAs_same {x : PulseUnit} {h : Hold} (state : x.state = h.heldState) (drive : x.drive = h.drive) : x.heldAs h = x := by
  have same : { x with state := h.heldState } = x := by rw [← state]
  rw [PulseUnit.heldAs, same]
  exact PulseUnit.present_same _ _ drive

/-- A held unit under its hold action follows it (R34). -/
theorem PulseUnit.heldAs_stays (x : PulseUnit) {h : Hold} (some : h ≠ .none) : PulseUnit.StaysHeld x (x.heldAs h) := by
  have drive : (if (x.heldAs h).state = .heldBrake then Drive.brake else .coast) = h.drive := by
    rw [x.heldAs_state]
    cases h <;> simp_all [Hold.heldState, Hold.drive]
  refine ⟨by rw [x.heldAs_state]; exact h.heldState_held, ?_⟩
  rw [drive, x.heldAs_state]
  exact PulseUnit.present_turns _ _

/-- A unit put into HELD has entered it as R33 says. -/
theorem PulseUnit.enterHeld_enters (x : PulseUnit) (row : Row) :
    PulseUnit.EntersHeld x (x.enterHeld row (safeHoldOf row)) row (unitSafeBrake row) := by
  unfold PulseUnit.EntersHeld PulseUnit.enterHeld PulseUnit.memoryAfterZero safeHoldOf
  by_cases forgets : x.demand ≠ 0 ∧ unitReversalPause row = 0
  · simp only [if_pos forgets, decide_eq_true forgets]
    cases unitSafeBrake row <;> exact PulseUnit.present_turns _ _
  · simp only [if_neg forgets, decide_eq_false forgets]
    cases unitSafeBrake row <;> exact PulseUnit.present_turns _ _

/-! ## Hold actions as a join (R32) -/

theorem Hold.worse_absorbs (a b : Hold) : (a.worse b).worse a = a.worse b ∧ (a.worse b).worse b = a.worse b := by
  cases a <;> cases b <;> decide

theorem Hold.absorbs_trans {a b c : Hold} (h : a.worse b = a) (k : b.worse c = b) : a.worse c = a := by
  revert h k
  cases a <;> cases b <;> cases c <;> decide

/-- The hold formed of several is no milder than any of them. -/
theorem Hold.fold_absorbs {α : Type} (f : α → Hold) (l : List α) (a : Hold) :
    (l.foldl (fun h n => h.worse (f n)) a).worse a = l.foldl (fun h n => h.worse (f n)) a ∧
      ∀ n ∈ l, (l.foldl (fun h n => h.worse (f n)) a).worse (f n) = l.foldl (fun h n => h.worse (f n)) a := by
  induction l generalizing a with
  | nil => exact ⟨by cases a <;> rfl, by simp⟩
  | cons n l ih =>
    obtain ⟨start, rest⟩ := ih (a.worse (f n))
    refine ⟨Hold.absorbs_trans start (Hold.worse_absorbs _ _).1, fun m mem => ?_⟩
    rcases List.mem_cons.mp mem with rfl | mem
    · exact Hold.absorbs_trans start (Hold.worse_absorbs _ _).2
    · exact rest m mem

theorem Hold.fold_same {α : Type} (f : α → Hold) (l : List α) (a : Hold) (milder : ∀ n ∈ l, a.worse (f n) = a) :
    l.foldl (fun h n => h.worse (f n)) a = a := by
  induction l with
  | nil => rfl
  | cons n l ih =>
    rw [List.foldl_cons, milder n List.mem_cons_self]
    exact ih fun m mem => milder m (List.mem_cons_of_mem _ mem)

/-- The hold action of a unit is no milder than its safe hold and than that of any active row. -/
theorem State.holdOf_absorbs (s : State) (u : Fin 4) : (s.holdOf u).worse (s.safeHold u) = s.holdOf u ∧
    ∀ n, (s.reflex.rows.get n).active = true →
      (s.holdOf u).worse (reflexAction (s.tables.reflexRow n) u).hold = s.holdOf u := by
  obtain ⟨start, rest⟩ := Hold.fold_absorbs (fun n => (reflexAction (s.tables.reflexRow n) u).hold) s.activeRows (s.safeHold u)
  exact ⟨start, fun n on => rest n (by simpa [State.activeRows] using on)⟩

/-- Where every active row is no worse than the safe hold, that is the hold action. -/
theorem State.holdOf_same {s : State} {u : Fin 4} (milder : ∀ n, (s.reflex.rows.get n).active = true →
    (s.safeHold u).worse (reflexAction (s.tables.reflexRow n) u).hold = s.safeHold u) : s.holdOf u = s.safeHold u :=
  Hold.fold_same _ _ _ fun n mem => milder n (by simpa [State.activeRows] using mem)

/-- Every enabled row with an active source is active: no round fires one anew. -/
abbrev State.Agreeing (s : State) : Prop := s.Within fun n => (s.reflex.rows.get n).active = true

theorem State.Agreeing.round {s : State} (h : s.Agreeing) (b : Bank Bool 31) : (s.settleRound b).Agreeing where
  active _ on := on
  fires n enabled on := by
    rw [State.settleRound_tables] at enabled on
    have is := State.settleRound_sources s b _ on
    rw [State.settleRound_rows]
    unfold ReflexRow.follow ReflexRow.fire
    rw [if_pos enabled, is, h.fires n enabled is]
    split
    · rfl
    · split <;> simp [h.fires n enabled is]

/-- A row active after a round of an agreeing part was active before it. -/
theorem State.Agreeing.released {s : State} (h : s.Agreeing) {b : Bank Bool 31} {n : Fin 16}
    (on : ((s.settleRound b).reflex.rows.get n).active = true) : (s.reflex.rows.get n).active = true := by
  rw [State.settleRound_rows] at on
  rcases ReflexRow.follow_reach _ _ _ _ on with was | ⟨enabled, is⟩
  · exact was
  · exact h.fires n enabled is

/-- A driving unit that a hold action reaches enters HELD; one that has entered it stays so under the same action. -/
theorem PulseUnit.deliverHold_driving {x : PulseUnit} (drives : x.state.driving = true) (row : Row) {h : Hold} (some : h ≠ .none) :
    x.deliverHold row h = x.enterHeld row h := by
  unfold PulseUnit.deliverHold
  cases e : x.state <;> cases h <;> simp_all [UnitState.driving]

theorem PulseUnit.deliverHold_entered (x : PulseUnit) (row : Row) {h : Hold} (some : h ≠ .none) :
    (x.enterHeld row h).deliverHold row h = x.enterHeld row h := by
  rw [PulseUnit.deliverHold_held (by rw [PulseUnit.enterHeld_state]; exact h.heldState_held) row some]
  exact PulseUnit.heldAs_same (PulseUnit.enterHeld_state ..) (PulseUnit.enterHeld_drive ..)

/-- What the rounds after a safe cause keep: the tables, the safe state, and no row active that was not. -/
structure State.Safe (s t : State) : Prop where
  within : t.Within fun n => (s.reflex.rows.get n).active = true
  agreeing : t.Agreeing
  tables : t.tables = s.tables
  safe : t.safeActive = true

theorem State.Safe.round {s t : State} (k : s.Safe t) (b : Bank Bool 31) : s.Safe (t.settleRound b) where
  within := k.within.round b
  agreeing := k.agreeing.round b
  tables := (State.settleRound_tables t b).trans k.tables
  safe := (State.settleRound_safeActive t b).trans k.safe

theorem State.Safe.hold {s t : State} (k : s.Safe t) (u : Fin 4) : t.safeHold u = safeHoldOf (s.tables.unitRow u) := by
  rw [State.safeHold_active k.safe, k.tables]

/-- A unit that no row of `s` holds enters HELD by its safe action, and stays so (R127). -/
theorem State.Safe.enters {s t : State} (k : s.Safe t) {u : Fin 4} {x : PulseUnit} (drives : x.state.driving = true)
    (unheld : ∀ n, (s.reflex.rows.get n).active = true → (reflexAction (s.tables.reflexRow n) u).hold = .none)
    (unit : t.units.get u = x ∨ t.units.get u = x.enterHeld (s.tables.unitRow u) (safeHoldOf (s.tables.unitRow u))) (b : Bank Bool 31) :
    (t.settleRound b).units.get u = x.enterHeld (s.tables.unitRow u) (safeHoldOf (s.tables.unitRow u)) := by
  have after := k.round b
  have hold : (t.settleRound b).holdOf u = safeHoldOf (s.tables.unitRow u) := by
    rw [State.holdOf_safe fun n on => ?_, after.hold]
    rw [after.tables]
    exact unheld n (after.within.active n on)
  rw [State.settleRound_units_get, hold, k.tables]
  rcases unit with e | e <;> rw [e]
  · exact PulseUnit.deliverHold_driving drives _ (safeHoldOf_ne _)
  · exact PulseUnit.deliverHold_entered _ _ (safeHoldOf_ne _)

/-- A unit HELD is left, or has gone over to its safe action, which no active row outdoes. -/
def State.Follows (s t : State) (u : Fin 4) : Prop :=
  let safe := safeHoldOf (s.tables.unitRow u)
  t.units.get u = s.units.get u ∨ (t.units.get u = (s.units.get u).heldAs safe ∧
    ∀ n, (t.reflex.rows.get n).active = true → safe.worse (reflexAction (s.tables.reflexRow n) u).hold = safe)

theorem Hold.brake_of_worse {a b : Hold} (some : a ≠ .none) (worse : a.worse b ≠ a) : b = .brake := by
  revert some worse
  cases a <;> cases b <;> decide

theorem Hold.absorbs_brake {a : Hold} (absorbs : a.worse .brake = a) : a = .brake := by
  revert absorbs
  cases a <;> decide

/-- The safe action replaces a milder one only: a unit under BRAKE by a row stays so while the row is active. -/
theorem State.Safe.follows {s t : State} (k : s.Safe t) {u : Fin 4} (held : (s.units.get u).state.held = true)
    (obeyed : (s.units.get u).heldAs (s.holdOf u) = s.units.get u) (f : s.Follows t u) (b : Bank Bool 31) :
    s.Follows (t.settleRound b) u := by
  have after := k.round b
  obtain ⟨absorbs, rows⟩ := (t.settleRound b).holdOf_absorbs u
  rw [after.hold] at absorbs
  rw [after.tables] at rows
  have unit := State.settleRound_units_get t b u
  rw [k.tables] at unit
  have some : (t.settleRound b).holdOf u ≠ .none := by
    intro none
    rw [none] at absorbs
    exact safeHoldOf_ne _ (Hold.worse_none.mp absorbs).2
  rcases f with same | ⟨moved, milder⟩
  · rw [same, PulseUnit.deliverHold_held held _ some] at unit
    by_cases eq : (t.settleRound b).holdOf u = safeHoldOf (s.tables.unitRow u)
    · rw [eq] at unit rows
      exact .inr ⟨unit, rows⟩
    · obtain ⟨n, on, worse⟩ : ∃ n, ((t.settleRound b).reflex.rows.get n).active = true ∧
          (safeHoldOf (s.tables.unitRow u)).worse (reflexAction (s.tables.reflexRow n) u).hold ≠ safeHoldOf (s.tables.unitRow u) := by
        by_contra none
        push Not at none
        refine eq ((State.holdOf_same fun n on => ?_).trans (after.hold u))
        rw [after.hold, after.tables]
        exact none n on
      have brakes := Hold.brake_of_worse (safeHoldOf_ne _) worse
      have now : (t.settleRound b).holdOf u = .brake := Hold.absorbs_brake (brakes ▸ rows n on)
      have then_ : s.holdOf u = .brake := Hold.absorbs_brake (brakes ▸ (s.holdOf_absorbs u).2 n (after.within.active n on))
      rw [now, ← then_, obeyed] at unit
      exact .inl unit
  · have milder' n (on : ((t.settleRound b).reflex.rows.get n).active = true) := milder n (k.agreeing.released on)
    have now : (t.settleRound b).holdOf u = safeHoldOf (s.tables.unitRow u) := by
      rw [State.holdOf_same fun n on => ?_, after.hold]
      rw [after.hold, after.tables]
      exact milder' n on
    rw [now, moved, PulseUnit.deliverHold_held (by rw [PulseUnit.heldAs_state]; exact Hold.heldState_held _) _ (safeHoldOf_ne _),
      PulseUnit.heldAs_same (PulseUnit.heldAs_state ..) (PulseUnit.heldAs_drive ..)] at unit
    exact .inr ⟨unit, milder'⟩

/-- A held unit of a settled part with sound gates is under its hold action, which it shows. -/
theorem State.Settled.heldAs {s : State} (h : s.Settled) {u : Fin 4} (gates : (s.units.get u).GatesSound)
    (held : (s.units.get u).state.held = true) : s.holdOf u ≠ .none ∧ (s.units.get u).heldAs (s.holdOf u) = s.units.get u := by
  have obeys := h.holds.obeyed u
  have fixed := ((s.units.get u).gatesSound_iff.mp gates).2
  unfold PulseUnit.obeys at obeys
  have shown : s.holdOf u ≠ .none ∧ (s.units.get u).state = (s.holdOf u).heldState ∧ (s.units.get u).drive = (s.holdOf u).drive := by
    cases e : (s.units.get u).state <;> cases f : s.holdOf u <;>
      simp_all [UnitState.held, Hold.heldState, Hold.drive, UnitState.fixedDrive]
  exact ⟨shown.1, PulseUnit.heldAs_same shown.2.1 shown.2.2⟩

/-- The part as the link timer's expiry sets it, before the course of its consequences (R141). -/
def State.linkLost (s : State) : State :=
  (({ s with link := { s.link with timer := .expired } } : State).latch .linkLost).setCause .link

theorem exec_linkTimerExpiry {s : State} {c : Nat} (timer : s.link.timer = .running c) (set : 0 < safeLinkTimeout s.tables.safeRow)
    (reached : safeLinkTimeout s.tables.safeRow ≤ c) :
    exec .linkTimerExpiry s = .next ((s.clearDue .linkExpiry).linkLost.settle s.sources) := by
  have expires : (s.clearDue .linkExpiry).expireLink = (s.clearDue .linkExpiry).linkLost.settle s.sources := by
    unfold State.expireLink
    rw [show (s.clearDue .linkExpiry).link.timer = .running c from timer]
    exact if_pos ⟨set, reached⟩
  exact congrArg _ expires

theorem exec_linkTimerExpiry_none {s : State}
    (none : ∀ c, s.link.timer = .running c → safeLinkTimeout s.tables.safeRow = 0 ∨ c < safeLinkTimeout s.tables.safeRow) :
    exec .linkTimerExpiry s = .next { s with due := s.due.erase .linkExpiry } := by
  have stays : (s.clearDue .linkExpiry).expireLink = s.clearDue .linkExpiry := by
    unfold State.expireLink
    split
    · next c timer =>
      refine if_neg fun both => ?_
      have := none c timer
      have set : 0 < safeLinkTimeout s.tables.safeRow := both.1
      have reached : safeLinkTimeout s.tables.safeRow ≤ c := both.2
      omega
    · rfl
    · rfl
  exact congrArg _ stays

/-- A loss of the link makes no row within reach that was not active. -/
theorem State.Settled.linkLost {s : State} (h : s.Settled) : s.Safe s.linkLost where
  within := ⟨fun _ on => on, fun n enabled on => h.active n enabled on⟩
  agreeing := ⟨fun _ on => on, fun n enabled on => h.active n enabled on⟩
  tables := rfl
  safe := rfl

/-- Settles O29. -/
theorem linkTimerExpires : Obligations.LinkTimerExpires := by
  intro s timeout
  refine ⟨exec_linkTimerExpiry_none, fun c settled timer set reached => ⟨_, exec_linkTimerExpiry timer set reached, ?_⟩⟩
  have course := State.settle_course (s.clearDue .linkExpiry).linkLost s.sources
  have before : (s.clearDue .linkExpiry).Safe (s.clearDue .linkExpiry).linkLost := (settled.clearDue .linkExpiry).linkLost
  have after : ((s.clearDue .linkExpiry).linkLost.settle s.sources).Settled :=
    (settled.clearDue .linkExpiry).followed rfl (fun _ => rfl) settled.fresh
  have idle := after.idle ((State.settle_safeActive _ _).trans before.safe)
  refine ⟨course, after, idle, course.off, fun u drives => ?_, fun gates u held => ?_⟩
  · have unheld := ((s.holdOf_none u).mp (settled.unheld drives)).2
    have entered : ((s.clearDue .linkExpiry).linkLost.settle s.sources).units.get u = s.units.get u ∨
        ((s.clearDue .linkExpiry).linkLost.settle s.sources).units.get u =
          (s.units.get u).enterHeld (s.tables.unitRow u) (safeHoldOf (s.tables.unitRow u)) :=
      (State.settle_induct (fun t => (s.clearDue .linkExpiry).Safe t ∧ (t.units.get u = s.units.get u ∨
        t.units.get u = (s.units.get u).enterHeld (s.tables.unitRow u) (safeHoldOf (s.tables.unitRow u))))
        (fun t b k => ⟨k.1.round b, .inr (k.1.enters drives unheld k.2 b)⟩) _ _ ⟨before, .inl rfl⟩).2
    rcases entered with same | enters
    · have := idle u
      rw [same, drives] at this
      nomatch this
    · rw [enters]
      exact PulseUnit.enterHeld_enters _ _
  · obtain ⟨some, obeyed⟩ := settled.heldAs (gates u) held
    have follows := (State.settle_induct (fun t => (s.clearDue .linkExpiry).Safe t ∧ (s.clearDue .linkExpiry).Follows t u)
      (fun t b k => ⟨k.1.round b, k.1.follows held obeyed k.2 b⟩) _ s.sources ⟨before, .inl rfl⟩).2
    rcases follows with same | ⟨moved, -⟩
    · rw [same, show (s.clearDue .linkExpiry).units.get u = (s.units.get u).heldAs (s.holdOf u) from obeyed.symm]
      exact PulseUnit.heldAs_stays _ some
    · rw [moved]
      exact PulseUnit.heldAs_stays _ (safeHoldOf_ne _)

end Sys2Proof.Machine
end

section
/-! What the sequencer does at a boundary (R59 to R66, R70): entries, queue and converter through the raising of triggers. -/

namespace Sys2Proof.Machine

/-! ## Drops (R68) -/

/-- A scan entry after a drop (R68). -/
def ScanEntry.dropped (x : ScanEntry) : ScanEntry := { x.restart with drops := if x.drops < 255 then x.drops + 1 else x.drops }

theorem State.drop_eq (s : State) (e : Fin 24) : s.drop e = (s.setEntry e (s.scan.entries.get e).dropped).latch .scanDrop := rfl

theorem State.drop_entry (s : State) (e k : Fin 24) :
    (s.drop e).scan.entries.get k = if k = e then (s.scan.entries.get k).dropped else s.scan.entries.get k := by
  rw [State.drop_eq, State.latch_scan, State.setEntry_entries, Bank.get_set]
  split
  · next same => rw [same]
  · rfl

@[simp] theorem State.drop_converter (s : State) (e : Fin 24) : (s.drop e).scan.converter = s.scan.converter := by simp [State.drop]

/-! ## A trigger as it is raised (R63, R65) -/

/-- The request that a trigger of an entry raises now. -/
def State.requestOf (s : State) (e : Fin 24) : ScanRequest :=
  { source := .entry e, input := scanInput (s.tables.scanRow e), raised := s.now, late := scanLateLimit (s.tables.scanRow e) }

/-- The trigger of an entry would find no place: overlap or a full queue (R65). -/
def State.NoPlace (s : State) (e : Fin 24) : Prop :=
  (∃ q ∈ s.scan.queue, q.source = .entry e) ∨ 4 ≤ (tableWaiting s.scan.queue).length

/-- The part with the plan of one entry spent (R63). -/
def State.spent (s : State) (e : Fin 24) : State := s.setEntry e { s.scan.entries.get e with planned := none }

theorem State.raiseEntry_dropped {s : State} {e : Fin 24} (h : s.NoPlace e) : s.raiseEntry e = (s.spent e).drop e := by
  unfold State.raiseEntry
  dsimp only
  rcases h with ⟨q, mem, same⟩ | full
  · exact if_pos (List.any_eq_true.mpr ⟨q, mem, by simpa using same⟩)
  · rw [if_pos full]
    exact ite_self _

theorem State.raiseEntry_joins {s : State} {e : Fin 24} (h : ¬s.NoPlace e) : s.raiseEntry e = (s.spent e).join (s.requestOf e) := by
  unfold State.raiseEntry
  dsimp only
  rw [if_neg fun any => ?_, if_neg fun full => h (.inr full)]
  · rfl
  · obtain ⟨q, mem, same⟩ := List.any_eq_true.mp any
    exact h (.inl ⟨q, mem, by simpa using same⟩)

theorem State.spent_entry (s : State) (e k : Fin 24) :
    (s.spent e).scan.entries.get k = if k = e then { s.scan.entries.get k with planned := none } else s.scan.entries.get k := by
  unfold State.spent
  rw [State.setEntry_entries, Bank.get_set]
  split
  · next same => rw [same]
  · rfl

/-! ## What holds of every entry -/

section
variable {P : Fin 24 → ScanEntry → Prop} (dropped : ∀ e x, P e x → P e x.dropped) {s : State}
include dropped

theorem State.drop_entries (e : Fin 24) (h : ∀ k, P k (s.scan.entries.get k)) (k : Fin 24) : P k ((s.drop e).scan.entries.get k) := by
  rw [State.drop_entry]
  split
  · exact dropped k _ (h k)
  · exact h k

theorem State.takeFrom_entries (q : List ScanRequest) (h : ∀ k, P k (s.scan.entries.get k)) (k : Fin 24) :
    P k ((s.takeFrom q).scan.entries.get k) := by
  have requested (r : ScanRequest) {s : State} (h : ∀ k, P k (s.scan.entries.get k)) (k : Fin 24) :
      P k ((s.dropRequest r).scan.entries.get k) := by
    unfold State.dropRequest
    split
    · exact State.drop_entries dropped _ h k
    · exact h k
    · exact h k
  induction q generalizing s with
  | nil => exact h k
  | cons r q ih =>
    unfold State.takeFrom
    split
    · exact ih (requested r h)
    · exact h k

theorem State.takeNext_entries (h : ∀ k, P k (s.scan.entries.get k)) (k : Fin 24) : P k (s.takeNext.scan.entries.get k) := by
  unfold State.takeNext
  split
  · exact State.takeFrom_entries dropped _ h k
  · exact h k

theorem State.join_entries (r : ScanRequest) (h : ∀ k, P k (s.scan.entries.get k)) (k : Fin 24) : P k ((s.join r).scan.entries.get k) :=
  State.takeNext_entries (s := s.setQueue (insertRequest r s.scan.queue) s.scan.converter) dropped h k

theorem State.raiseHousekeepingOfBeat_entries (h : ∀ k, P k (s.scan.entries.get k)) (k : Fin 24) :
    P k (s.raiseHousekeepingOfBeat.scan.entries.get k) := by
  unfold State.raiseHousekeepingOfBeat State.raiseHousekeeping
  (repeat' split) <;> first | exact State.join_entries dropped _ h k | exact h k

/-- A trigger raised: its own entry has nothing planned any more, others at most a drop. -/
theorem State.raiseEntry_entries (e : Fin 24) (spent : ∀ x, P e x → P e { x with planned := none }) (h : ∀ k, P k (s.scan.entries.get k))
    (k : Fin 24) : P k ((s.raiseEntry e).scan.entries.get k) := by
  have planless (k : Fin 24) : P k ((s.spent e).scan.entries.get k) := by
    rw [State.spent_entry]
    split
    · next same => exact same ▸ spent _ (same ▸ h k)
    · exact h k
  by_cases full : s.NoPlace e
  · rw [State.raiseEntry_dropped full]
    exact State.drop_entries dropped _ planless k
  · rw [State.raiseEntry_joins full]
    exact State.join_entries dropped _ planless k

theorem State.raiseAll_entries (spent : ∀ e x, P e x → P e { x with planned := none }) (l : List (Fin 24))
    (h : ∀ k, P k (s.scan.entries.get k)) (k : Fin 24) : P k ((l.foldl State.raiseEntry s).scan.entries.get k) := by
  induction l generalizing s with
  | nil => exact h k
  | cons e l ih => exact ih fun k => State.raiseEntry_entries dropped e (spent e) h k

theorem State.openScan_entries (planned : ∀ e x p, P e x → P e { x with planned := p }) (h : ∀ k, P k (s.scan.entries.get k))
    (k : Fin 24) : P k (s.openScan.scan.entries.get k) := by
  have plan {s : State} (h : ∀ k, P k (s.scan.entries.get k)) (k : Fin 24) : P k (s.plan.scan.entries.get k) := by
    unfold State.plan
    rw [Bank.get_mapIdx]
    exact planned k _ _ (h k)
  exact State.raiseHousekeepingOfBeat_entries dropped
    (State.raiseAll_entries dropped (fun e x => planned e x none) _ (plan (State.takeNext_entries dropped h))) k

end

/-! ## What is planned (R60, R61, R63) -/

theorem State.raiseEntry_planned (s : State) (e k : Fin 24) :
    ((s.raiseEntry e).scan.entries.get k).planned = if k = e then none else (s.scan.entries.get k).planned := by
  have after (k : Fin 24) : ((s.spent e).scan.entries.get k).planned = if k = e then none else (s.scan.entries.get k).planned := by
    rw [State.spent_entry]
    split <;> rfl
  have dropped : ∀ (k : Fin 24) (x : ScanEntry), (x.planned = if k = e then none else (s.scan.entries.get k).planned) →
      x.dropped.planned = if k = e then none else (s.scan.entries.get k).planned := fun _ _ h => h
  by_cases full : s.NoPlace e
  · rw [State.raiseEntry_dropped full]
    exact State.drop_entries dropped _ after k
  · rw [State.raiseEntry_joins full]
    exact State.join_entries dropped _ after k

theorem State.raiseAll_planned (s : State) (l : List (Fin 24)) (k : Fin 24) :
    ((l.foldl State.raiseEntry s).scan.entries.get k).planned = if k ∈ l then none else (s.scan.entries.get k).planned := by
  induction l generalizing s with
  | nil => rfl
  | cons e l ih =>
    rw [List.foldl_cons, ih, State.raiseEntry_planned]
    by_cases later : k ∈ l
    · rw [if_pos later, if_pos (List.mem_cons_of_mem e later)]
    · rw [if_neg later]
      by_cases here : k = e
      · rw [if_pos here, if_pos (here ▸ List.mem_cons_self)]
      · rw [if_neg here, if_neg (fun mem => (List.mem_cons.mp mem).elim here later)]

/-- The trigger a beat plans for an entry, before that of position 0 is raised (R59 to R61). -/
def State.planned (s : State) (e : Fin 24) : Option Nat :=
  if s.entryActive (s.tables.scanRow e) then s.triggerTime (s.tables.scanRow e) else none

theorem State.plan_entry (s : State) (e : Fin 24) : s.plan.scan.entries.get e = { s.scan.entries.get e with planned := s.planned e } := by
  unfold State.plan
  rw [Bank.get_mapIdx]
  rfl

/-- Planning does not depend on the sequencer's state. -/
theorem State.takeNext_planned (s : State) (e : Fin 24) : s.takeNext.planned e = s.planned e := by
  unfold State.planned State.entryActive State.triggerTime State.tables
  rw [State.takeNext_service, State.takeNext_beat, State.takeNext_units]

/-- The triggers raised at a boundary itself: those planned at position 0 (R63). -/
def State.raisedNow (s : State) : List (Fin 24) := (List.finRange 24).filter fun e => decide (s.planned e = some 0)

theorem State.mem_raisedNow {s : State} {e : Fin 24} : e ∈ s.raisedNow ↔ s.planned e = some 0 := by simp [State.raisedNow]

theorem State.raisedNow_nodup (s : State) : s.raisedNow.Nodup := (List.nodup_finRange 24).filter _

theorem State.openScan_eq (s : State) :
    s.openScan = (s.raisedNow.foldl State.raiseEntry s.takeNext.plan).raiseHousekeepingOfBeat := by
  have raised : s.takeNext.plan.triggersAt 0 = s.raisedNow := by
    unfold State.triggersAt State.raisedNow
    exact List.filter_congr fun e _ => by rw [State.plan_entry, State.takeNext_planned]
  exact congrArg (fun l => (List.foldl State.raiseEntry s.takeNext.plan l).raiseHousekeepingOfBeat) raised

/-- The plan of the beat after its boundary: what was planned at position 0 has been raised (R63). -/
theorem State.openScan_planned (s : State) (e : Fin 24) :
    (s.openScan.scan.entries.get e).planned = if s.planned e = some 0 then none else s.planned e := by
  have raised : ∀ k, ((s.raisedNow.foldl State.raiseEntry s.takeNext.plan).scan.entries.get k).planned =
      if s.planned k = some 0 then none else s.planned k := fun k => by
    rw [State.raiseAll_planned, State.plan_entry, State.takeNext_planned, if_congr State.mem_raisedNow rfl rfl]
  rw [State.openScan_eq]
  exact State.raiseHousekeepingOfBeat_entries
    (P := fun k x => x.planned = if s.planned k = some 0 then none else s.planned k) (fun _ _ h => h) raised e

/-! ## Queue and converter -/

/-- An IDLE converter means an empty queue: so it is wherever the converter has looked at the queue (R66). -/
def State.Served (s : State) : Prop := s.scan.converter = none → s.scan.queue = []

theorem State.takeFrom_served (s : State) (q : List ScanRequest) : (s.takeFrom q).Served := by
  induction q generalizing s with
  | nil => exact fun _ => rfl
  | cons r q ih =>
    unfold State.takeFrom
    split
    · exact ih _
    · exact nofun

theorem State.takeNext_busy {s : State} (busy : s.scan.converter ≠ none) : s.takeNext = s := if_neg fun h => busy h.2

theorem State.takeNext_idle {s : State} (run : s.phase = .run) (idle : s.scan.converter = none) : s.takeNext = s.takeFrom s.scan.queue :=
  if_pos ⟨by simpa [State.beatRunning] using run, idle⟩

theorem State.takeNext_served {s : State} (run : s.phase = .run) : s.takeNext.Served := by
  by_cases idle : s.scan.converter = none
  · rw [State.takeNext_idle run idle]
    exact s.takeFrom_served _
  · rw [State.takeNext_busy idle]
    exact fun e => absurd e idle

/-- A request of now never waits too long. -/
theorem ScanRequest.tooLate_fresh {r : ScanRequest} {now : Nat} (fresh : r.raised = now) : r.tooLate now = false := by
  simp [ScanRequest.tooLate, fresh]

theorem State.takeFrom_start (s : State) {r : ScanRequest} (inTime : r.tooLate s.now = false) (rest : List ScanRequest) :
    s.takeFrom (r :: rest) = s.setQueue rest (some { request := r, started := s.now, discard := false }) :=
  if_neg (by rw [inTime]; simp)

theorem State.takeFrom_late (s : State) {r : ScanRequest} (late : r.tooLate s.now = true) (rest : List ScanRequest) :
    s.takeFrom (r :: rest) = (s.dropRequest r).takeFrom rest := if_pos late

theorem State.join_busy {s : State} (busy : s.scan.converter ≠ none) (r : ScanRequest) :
    s.join r = s.setQueue (insertRequest r s.scan.queue) s.scan.converter := State.takeNext_busy (s := State.setQueue ..) busy

theorem State.join_idle {s : State} (run : s.phase = .run) (idle : s.scan.converter = none) (empty : s.scan.queue = []) {r : ScanRequest}
    (fresh : r.raised = s.now) : s.join r = s.setQueue [] (some { request := r, started := s.now, discard := false }) := by
  unfold State.join
  rw [State.takeNext_idle (s := s.setQueue (insertRequest r s.scan.queue) s.scan.converter) run idle, empty]
  exact State.takeFrom_start (s.setQueue (insertRequest r []) s.scan.converter) (ScanRequest.tooLate_fresh fresh) []

theorem insertRequest_sublist (r : ScanRequest) (q : List ScanRequest) : q.Sublist (insertRequest r q) := by
  induction q with
  | nil => exact List.nil_sublist _
  | cons x q ih =>
    unfold insertRequest
    split
    · exact List.sublist_cons_self _ _
    · exact ih.cons_cons x

theorem mem_insertRequest {r x : ScanRequest} {q : List ScanRequest} : x ∈ insertRequest r q ↔ x = r ∨ x ∈ q := by
  rw [(insertRequest_perm r q).mem_iff, List.mem_cons]

/-- A request waits, or is in conversion. -/
def State.Holds (s : State) (r : ScanRequest) : Prop := r ∈ s.scan.queue ∨ ∃ c, s.scan.converter = some c ∧ c.request = r

/-- `t` comes from `s` by requests that have joined, at the same tick, the entries' own state aside. -/
structure State.Grows (s t : State) : Prop where
  phase : t.phase = s.phase
  now : t.now = s.now
  tables : t.tables = s.tables
  served : s.Served → t.Served
  queue : s.scan.queue.Sublist t.scan.queue
  busy : ∀ c, s.scan.converter = some c → t.scan.converter = some c
  events : ∀ k, s.status.events.getLsbD k = true → t.status.events.getLsbD k = true

theorem State.Grows.refl (s : State) : s.Grows s := ⟨rfl, rfl, rfl, id, .refl _, fun _ h => h, fun _ h => h⟩

theorem State.Grows.trans {s t v : State} (h : s.Grows t) (k : t.Grows v) : s.Grows v where
  phase := k.phase.trans h.phase
  now := k.now.trans h.now
  tables := k.tables.trans h.tables
  served w := k.served (h.served w)
  queue := h.queue.trans k.queue
  busy c e := k.busy c (h.busy c e)
  events i e := k.events i (h.events i e)

theorem State.Grows.holds {s t : State} (h : s.Grows t) {r : ScanRequest} (holds : s.Holds r) : t.Holds r :=
  holds.imp h.queue.mem fun ⟨c, e, same⟩ => ⟨c, h.busy c e, same⟩

/-- A part that differs from `s` in its entries alone. -/
theorem State.Grows.of_entries {s t : State} (phase : t.phase = s.phase) (now : t.now = s.now) (tables : t.tables = s.tables)
    (queue : t.scan.queue = s.scan.queue) (converter : t.scan.converter = s.scan.converter)
    (events : ∀ k, s.status.events.getLsbD k = true → t.status.events.getLsbD k = true) : s.Grows t where
  phase := phase
  now := now
  tables := tables
  served h idle := by rw [queue]; exact h (converter ▸ idle)
  queue := by rw [queue]
  busy c e := by rw [converter]; exact e
  events := events

theorem State.grows_drop (s : State) (e : Fin 24) : s.Grows (s.drop e) :=
  .of_entries (by simp) (by simp) (by simp [State.tables]) (by simp) (by simp)
    fun k on => ((State.Latched.refl s).drop e).events k on

/-- A request of now joins a served part: it waits or is in conversion then. -/
theorem State.Served.join {s : State} (h : s.Served) (run : s.phase = .run) {r : ScanRequest} (fresh : r.raised = s.now) :
    s.Grows (s.join r) ∧ (s.join r).Holds r ∧ (s.join r).scan.entries = s.scan.entries ∧
      ∀ q ∈ (s.join r).scan.queue, q ∈ s.scan.queue ∨ q = r := by
  by_cases idle : s.scan.converter = none
  · have empty := h idle
    rw [State.join_idle run idle empty fresh]
    exact ⟨⟨rfl, rfl, rfl, fun _ => nofun, by rw [empty]; exact .refl _, fun c e => (nomatch idle.symm.trans e), fun _ on => on⟩,
      .inr ⟨_, rfl, rfl⟩, rfl, nofun⟩
  · rw [State.join_busy idle]
    exact ⟨⟨rfl, rfl, rfl, fun _ e => absurd e idle, insertRequest_sublist r _, fun _ e => e, fun _ on => on⟩,
      .inl (mem_insertRequest.mpr (.inl rfl)), rfl, fun q mem => (mem_insertRequest.mp mem).symm⟩

/-! ## What triggers leave of each other -/

theorem State.grows_spent (s : State) (e : Fin 24) : s.Grows (s.spent e) := .of_entries rfl rfl rfl rfl rfl fun _ on => on

/-- What a raised trigger leaves of other entries, and where their requests can come from. -/
structure State.Raises (s t : State) (l : List (Fin 24)) : Prop where
  grows : s.Grows t
  entry : ∀ k, k ∉ l → t.scan.entries.get k = s.scan.entries.get k
  source : ∀ q ∈ t.scan.queue, q ∈ s.scan.queue ∨ ∃ e ∈ l, q = s.requestOf e

theorem State.Served.raiseEntry {s : State} (h : s.Served) (run : s.phase = .run) (e : Fin 24) : s.Raises (s.raiseEntry e) [e] := by
  by_cases full : s.NoPlace e
  · rw [State.raiseEntry_dropped full]
    refine ⟨(s.grows_spent e).trans (State.grows_drop _ e), fun k other => ?_, fun q mem => .inl ?_⟩
    · have ne : k ≠ e := by simpa using other
      rw [State.drop_entry, if_neg ne, State.spent_entry, if_neg ne]
    · rw [State.drop_queue] at mem
      exact mem
  · rw [State.raiseEntry_joins full]
    obtain ⟨grows, -, entries, source⟩ := State.Served.join (s := s.spent e) h run (r := s.requestOf e) rfl
    refine ⟨(s.grows_spent e).trans grows, fun k other => ?_, fun q mem => ?_⟩
    · rw [entries, State.spent_entry, if_neg (by simpa using other)]
    · exact (source q mem).imp id fun same => ⟨e, by simp, same⟩

theorem State.Raises.trans {s t v : State} {l m : List (Fin 24)} (h : s.Raises t l) (k : t.Raises v m) : s.Raises v (l ++ m) where
  grows := h.grows.trans k.grows
  entry i out := by
    rw [List.mem_append, not_or] at out
    exact (k.entry i out.2).trans (h.entry i out.1)
  source q mem := by
    have same (e : Fin 24) : t.requestOf e = s.requestOf e := by unfold State.requestOf; rw [h.grows.tables, h.grows.now]
    rcases k.source q mem with before | ⟨e, on, is⟩
    · exact (h.source q before).imp id fun ⟨e, on, is⟩ => ⟨e, List.mem_append_left m on, is⟩
    · exact .inr ⟨e, List.mem_append_right l on, is.trans (same e)⟩

theorem State.Served.raiseAll {s : State} (h : s.Served) (run : s.phase = .run) (l : List (Fin 24)) :
    s.Raises (l.foldl State.raiseEntry s) l := by
  induction l generalizing s with
  | nil => exact ⟨.refl s, fun _ _ => rfl, fun _ mem => .inl mem⟩
  | cons e l ih =>
    have one := h.raiseEntry run e
    exact one.trans (ih (one.grows.served h) (one.grows.phase.trans run))

/-- The housekeeping request of a beat joins a served part, where its place is free (R70). -/
theorem State.Served.raiseHousekeepingOfBeat {s : State} (h : s.Served) (run : s.phase = .run) :
    s.Grows s.raiseHousekeepingOfBeat ∧ s.raiseHousekeepingOfBeat.scan.entries = s.scan.entries ∧
      ∀ q ∈ s.raiseHousekeepingOfBeat.scan.queue, q ∈ s.scan.queue ∨ (q.raised = s.now ∧ q.source.isEntry = false) := by
  have raised (src : RequestSource) (input : Fin 16) (house : src.isEntry = false) : s.Grows (s.raiseHousekeeping src input) ∧
      (s.raiseHousekeeping src input).scan.entries = s.scan.entries ∧
      ∀ q ∈ (s.raiseHousekeeping src input).scan.queue, q ∈ s.scan.queue ∨ (q.raised = s.now ∧ q.source.isEntry = false) := by
    unfold State.raiseHousekeeping
    split
    · obtain ⟨grows, -, entries, source⟩ := h.join run (r := { source := src, input := input, raised := s.now, late := 0 }) rfl
      exact ⟨grows, entries, fun q mem => (source q mem).imp id fun e => by subst e; exact ⟨rfl, house⟩⟩
    · exact ⟨.refl s, rfl, fun _ mem => .inl mem⟩
  unfold State.raiseHousekeepingOfBeat
  split
  · exact raised _ _ rfl
  · split
    · exact raised _ _ rfl
    · exact ⟨.refl s, rfl, fun _ mem => .inl mem⟩

end Sys2Proof.Machine
end

section
/-! The plan of a beat and the triggers raised at its boundary (R59 to R65), at each of the five boundaries (R8, R11). -/

namespace Sys2Proof.Machine

/-! ## The sequencer's opening of a beat -/

/-- An IDLE converter with no table request waiting: nothing can be dropped late when it looks (R66). -/
def State.IdleEmpty (s : State) : Prop := s.scan.converter = none → tableWaiting s.scan.queue = []

/-- Looking at a queue without table requests drops nothing. -/
theorem State.IdleEmpty.takeNext {s : State} (h : s.IdleEmpty) (run : s.phase = .run) :
    s.takeNext.scan.entries = s.scan.entries := by
  by_cases idle : s.scan.converter = none
  · rw [State.takeNext_idle run idle]
    cases e : s.scan.queue with
    | nil => rfl
    | cons r rest =>
      have house : r.source.isEntry = false := by
        have none := List.filter_eq_nil_iff.mp (h idle) r (by rw [e]; exact List.mem_cons_self)
        simpa using none
      rw [State.takeFrom_start s (by simp [ScanRequest.tooLate, house])]
      rfl
  · rw [State.takeNext_busy idle]

/-- The part with the triggers of a boundary raised up to some entry's, and what follows it (R63). -/
theorem State.openScan_raised {s : State} (run : s.phase = .run) :
    s.takeNext.plan.Served ∧ s.takeNext.plan.phase = .run ∧
      s.takeNext.plan.Raises (s.raisedNow.foldl State.raiseEntry s.takeNext.plan) s.raisedNow ∧
      (s.raisedNow.foldl State.raiseEntry s.takeNext.plan).Grows s.openScan ∧
      s.openScan.scan.entries = (s.raisedNow.foldl State.raiseEntry s.takeNext.plan).scan.entries := by
  have served : s.takeNext.plan.Served := State.takeNext_served run
  have runs : s.takeNext.plan.phase = .run := by simpa using run
  have raises := served.raiseAll runs s.raisedNow
  obtain ⟨grows, entries, -⟩ := (raises.grows.served served).raiseHousekeepingOfBeat (raises.grows.phase.trans runs)
  rw [State.openScan_eq]
  exact ⟨served, runs, raises, grows, entries⟩

/-- What a raised trigger has come to: its request has a place, or the sample is dropped for want of one (R65, R68). -/
def State.RaiseEnds (s t : State) (e : Fin 24) : Prop :=
  ((t.scan.entries.get e).drops = (s.scan.entries.get e).drops ∧ t.Holds (s.requestOf e)) ∨
  ((t.scan.entries.get e).drops = (s.scan.entries.get e).dropped.drops ∧ t.status.events.getLsbD 10 = true ∧
    ((∃ q ∈ t.scan.queue, q ∈ s.scan.queue ∧ q.source = .entry e) ∨ 4 ≤ (tableWaiting t.scan.queue).length))

theorem State.Served.raiseEntry_ends {s : State} (h : s.Served) (run : s.phase = .run) (e : Fin 24) : s.RaiseEnds (s.raiseEntry e) e := by
  by_cases full : s.NoPlace e
  · rw [State.raiseEntry_dropped full]
    refine .inr ⟨?_, State.latch_self _ .scanDrop, ?_⟩
    · rw [State.drop_entry, if_pos rfl, State.spent_entry, if_pos rfl]
      rfl
    · rw [State.drop_queue]
      exact full.imp (fun ⟨q, mem, source⟩ => ⟨q, mem, mem, source⟩) id
  · rw [State.raiseEntry_joins full]
    obtain ⟨-, holds, entries, -⟩ := State.Served.join (s := s.spent e) h run (r := s.requestOf e) rfl
    exact .inl ⟨by rw [entries, State.spent_entry, if_pos rfl], holds⟩

/-- Triggers raised before and after one entry's leave what its own has come to. -/
theorem State.RaiseEnds.within {s t u v : State} {e : Fin 24} {before : List (Fin 24)} (h : t.RaiseEnds u e)
    (first : s.Raises t before) (last : u.Grows v) (entry : (v.scan.entries.get e).drops = (u.scan.entries.get e).drops)
    (notBefore : e ∉ before) : s.RaiseEnds v e := by
  have same : t.requestOf e = s.requestOf e := by unfold State.requestOf; rw [first.grows.tables, first.grows.now]
  unfold State.RaiseEnds
  rw [entry]
  rcases h with ⟨drops, holds⟩ | ⟨drops, event, place⟩
  · rw [first.entry e notBefore] at drops
    exact .inl ⟨drops, same ▸ last.holds holds⟩
  · rw [first.entry e notBefore] at drops
    refine .inr ⟨drops, last.events _ event, place.imp (fun ⟨q, mem, was, source⟩ => ⟨q, last.queue.mem mem, ?_, source⟩)
      fun full => full.trans (last.queue.filter _).length_le⟩
    refine (first.source q was).resolve_right fun ⟨k, on, is⟩ => notBefore ?_
    rw [is] at source
    injection source with source
    exact source ▸ on

/-- At a boundary every trigger of position 0 has been raised (R63), every other entry's drop counter stands. -/
theorem State.IdleEmpty.openScan {s : State} (h : s.IdleEmpty) (run : s.phase = .run) (e : Fin 24) :
    (s.planned e = some 0 → s.RaiseEnds s.openScan e) ∧
      (s.planned e ≠ some 0 → (s.openScan.scan.entries.get e).drops = (s.scan.entries.get e).drops) := by
  obtain ⟨served, runs, raises, grows, entries⟩ := State.openScan_raised run
  have planned : (s.takeNext.plan.scan.entries.get e).drops = (s.scan.entries.get e).drops := by
    rw [State.plan_entry, h.takeNext run]
  refine ⟨fun now => ?_, fun later => ?_⟩
  · obtain ⟨before, after, split⟩ := List.append_of_mem (State.mem_raisedNow.mpr now)
    have distinct := s.raisedNow_nodup
    rw [split, List.nodup_append] at distinct
    obtain ⟨-, rest, apart⟩ := distinct
    have notAfter := (List.nodup_cons.mp rest).1
    have notBefore : e ∉ before := fun mem => apart e mem e List.mem_cons_self rfl
    have first := served.raiseAll runs before
    have servedThen := first.grows.served served
    have runsThen := first.grows.phase.trans runs
    have one := servedThen.raiseEntry runsThen e
    have last := (one.grows.served servedThen).raiseAll (one.grows.phase.trans runsThen) after
    rw [split, List.foldl_append, List.foldl_cons] at grows entries
    have ends : s.takeNext.plan.RaiseEnds s.openScan e := (servedThen.raiseEntry_ends runsThen e).within first (last.grows.trans grows)
      (by rw [entries, last.entry e notAfter]) notBefore
    unfold State.RaiseEnds at ends ⊢
    have request : s.takeNext.plan.requestOf e = s.requestOf e := by
      have tables : s.takeNext.plan.tables = s.tables := by simp [State.tables]
      unfold State.requestOf
      rw [tables]
      simp
    have dropped : (s.takeNext.plan.scan.entries.get e).dropped.drops = (s.scan.entries.get e).dropped.drops := by
      simp only [ScanEntry.dropped, planned]
    rw [planned, dropped, request] at ends
    exact ends.imp id fun ⟨drops, event, place⟩ => ⟨drops, event,
      place.imp (fun ⟨q, mem, was, source⟩ => ⟨q, mem, s.takeNext_queue.mem was, source⟩) id⟩
  · rw [entries, raises.entry e (fun mem => later (State.mem_raisedNow.mp mem)), planned]

/-! ## The five boundaries -/

/-- `v` is the part that a boundary of `s` has reached when the sequencer opens the beat. -/
structure State.Opens (s v : State) : Prop where
  run : v.phase = .run
  now : v.now = s.now
  length : v.beat.length = beatLength v.tables.beatRow
  scan : v.scan = s.scan ∨ v.scan = s.flush.scan
  events : ∀ k, s.status.events.getLsbD k = true → v.status.events.getLsbD k = true

/-- A second flush changes nothing (R71). -/
theorem State.flush_flush {s w : State} (h : w.scan = s.flush.scan) : w.flush.scan = s.flush.scan := by
  have entries : s.flush.scan.entries.map ScanEntry.restart = s.flush.scan.entries :=
    Bank.ext_get fun e => by simp [State.flush, ScanEntry.restart]
  have queue : housekeepingWaiting s.flush.scan.queue = s.flush.scan.queue := by
    simp [State.flush, housekeepingWaiting, List.filter_filter]
  have converter : s.flush.scan.converter.map (fun c => { c with discard := c.discard || c.request.source.isEntry }) =
      s.flush.scan.converter := by
    simp only [State.flush, Option.map_map]
    cases s.scan.converter <;> simp
  have flushed : w.flush.scan = ⟨w.scan.entries.map ScanEntry.restart, housekeepingWaiting w.scan.queue,
    w.scan.converter.map fun c => { c with discard := c.discard || c.request.source.isEntry }⟩ := rfl
  rw [flushed, h, entries, queue, converter]

/-- The common course of a boundary up to the sequencer, from a part whose sequencer is that of `s` or flushed. -/
theorem State.opens_decided {s w : State} (b : Bank Bool 31) (run : w.phase = .run) (now : w.now = s.now)
    (scan : w.scan = s.scan ∨ w.scan = s.flush.scan)
    (events : ∀ k, s.status.events.getLsbD k = true → w.status.events.getLsbD k = true) : s.Opens (w.decided b) where
  run := by simpa using run
  now := by simpa using now
  length := by
    have tables : (w.decided b).tables = w.takeSwaps.tables := by
      unfold State.tables
      rw [State.decided_service, State.swapped_service]
    rw [State.decided_beat, tables]
    rfl
  scan := by
    have flushed : w.flush.scan = s.flush.scan := by
      rcases scan with same | flushed
      · unfold State.flush
        rw [same]
      · exact State.flush_flush flushed
    rw [State.decided_scan, State.swapped_scan, State.takeSwaps_scan]
    split
    · exact .inr flushed
    · exact scan
  events k on := by
    have swapped : w.Latched w.swapped := ((State.Latched.refl w).takeSwaps).congr rfl rfl
    have computed {t : State} (h : w.Latched t) : w.Latched t.computeUnits := State.Latched.latchIf _ _ (h.congr rfl rfl)
    have driven : w.Latched (w.driven b) := computed (swapped.settle b)
    exact (driven.settle _).events k (events k on)

theorem State.ofBeat_nextBeat {s w : State} (run : w.phase = .run) (now : w.now = s.now)
    (scan : w.scan = s.scan ∨ w.scan = s.flush.scan) (status : w.status = s.status) :
    ∃ v d, w.nextBeat = { v.openScan with due := d } ∧ s.Opens v :=
  ⟨w.numbered.decided w.sources, _, by rw [← State.openBeat_eq]; exact w.nextBeat_frame,
    State.opens_decided _ run now scan fun _ on => status ▸ on⟩

/-- The restart's boundary, of a part whose restart is pending (R8). -/
theorem State.restartBoundary_eq {s : State} (run : s.phase = .run) (pending : s.beat.restart ≠ none) :
    s.restartBoundary = ({ s with beat := { s.beat with restart := none } } : State).flush.nextBeat :=
  if_pos ⟨by simpa [State.beatRunning] using run, pending⟩

theorem State.opens_restart {s w : State} (run : w.phase = .run) (pending : w.beat.restart ≠ none) (now : w.now = s.now)
    (scan : w.scan = s.scan) (status : w.status = s.status) :
    ∃ v d, w.restartBoundary = { v.openScan with due := d } ∧ s.Opens v := by
  rw [State.restartBoundary_eq run pending]
  exact State.ofBeat_nextBeat run now (.inr (by unfold State.flush; rw [scan])) status

/-- The part at a wake before the common course of its start boundary (R11, R157). -/
def State.woken (s : State) (cause : StartCause) : State :=
  ((({ s with
    phase := .run
    cause := cause
    beat := { s.beat with number := 0, position := 0, restart := none }
    slots := s.slots.map fun x => { x with age := 0 }
    contacts := s.contacts.map Contact.atWake
    rotation := s.rotation.map Rotation.atWake
    limits := { s.limits with rows := s.limits.rows.map LimitRow.atWake } } : State).latch .start).dropBeatDue).clearDue .wakeContact

theorem State.wakeUp_eq (s : State) (cause : StartCause) : s.wakeUp cause = (s.woken cause).openBeat s.sources := rfl

/-- The part loaded, before the common course of its start boundary (R11, R132). -/
def State.started (s : State) : State :=
  ((({ s with
    phase := .run
    beat := { s.beat with number := 0, position := 0, restart := takenUp s.now s.beat.restart }
    status := { s.status with mask := safeReportMask s.tables.safeRow } } : State).latch .start).ageSlots).dropBeatDue

theorem State.startAfterLoad_eq (s : State) (b : Bank Bool 31) : s.startAfterLoad b = s.started.openBeat b := rfl

/-- The part with its profile loaded and its conditioner started on the pins (R153, R103). -/
def State.loaded (s : State) (pins : Byte) : State :=
  (({ s with pins := { s.pins with contacts := pins } } : State).clearDue .loadEnd).loadProfile.startConditioner

theorem State.endLoad_starts {s : State} (loads : s.phase = .loading ∨ s.phase = .reloading) (pins : Byte) :
    s.endLoad pins = (s.loaded pins).startAfterLoad (Bank.all 31 false) := by
  unfold State.endLoad
  rw [if_pos (loads.imp id fun e => by simp [State.reloading, e]), if_neg (by rcases loads with e | e <;> rw [e] <;> decide)]
  rfl

theorem State.endLoad_parks {s : State} (loads : s.phase = .standbyReload) (pins : Byte) :
    s.endLoad pins = (s.loaded pins).parkAfterLoad (Bank.all 31 false) := by
  unfold State.endLoad
  rw [if_pos (.inr (by simp [State.reloading, loads])), if_pos loads]
  rfl

/-- The lowest contact that differs from its wake latch wakes the part (R94). -/
theorem State.wakeByContact_eq {s : State} (standby : s.phase = .standby) {c : Fin 8} (wakes : (s.contacts.get c).wakes = true) :
    ∃ k, s.wakeByContact = s.wakeUp (.wakeContact k) ∧ (s.contacts.get k).wakes = true ∧ ∀ j < k, (s.contacts.get j).wakes = false := by
  have mem : c ∈ s.wakingContacts := by simp [State.wakingContacts, wakes]
  cases e : s.wakingContacts with
  | nil => rw [e] at mem; nomatch mem
  | cons k rest =>
    refine ⟨k, ?_, ?_, fun j below => ?_⟩
    · unfold State.wakeByContact
      rw [if_pos standby, e]
    · have first : k ∈ s.wakingContacts := by rw [e]; exact List.mem_cons_self
      simpa [State.wakingContacts] using first
    · by_contra on
      have ordered : s.wakingContacts.Pairwise (· < ·) := (List.pairwise_lt_finRange 8).filter _
      have listed : j ∈ s.wakingContacts := by simpa [State.wakingContacts] using on
      rw [e] at ordered listed
      rcases List.mem_cons.mp listed with same | later
      · omega
      · have := (List.pairwise_cons.mp ordered).1 j later
        omega

theorem State.opens_wake {s w : State} (cause : StartCause) (now : w.now = s.now) (scan : w.scan = s.scan) (status : w.status = s.status) :
    ∃ v d, w.wakeUp cause = { v.openScan with due := d } ∧ s.Opens v := by
  have events (k : Nat) (on : s.status.events.getLsbD k = true) : (w.woken cause).status.events.getLsbD k = true :=
    ((State.Latched.refl w).latch .start).events k (status ▸ on)
  exact ⟨(w.woken cause).decided w.sources, (w.wakeUp cause).due,
    by rw [← State.openBeat_eq, ← State.wakeUp_eq], State.opens_decided _ rfl now (.inl scan) events⟩

theorem State.opens_load {s w : State} (b : Bank Bool 31) (now : w.now = s.now) (scan : w.scan = s.scan) (status : w.status = s.status) :
    ∃ v d, w.startAfterLoad b = { v.openScan with due := d } ∧ s.Opens v := by
  have events (k : Nat) (on : s.status.events.getLsbD k = true) : w.started.status.events.getLsbD k = true :=
    ((State.Latched.refl w).latch .start).events k (status ▸ on)
  exact ⟨w.started.decided b, (w.startAfterLoad b).due,
    by rw [← State.openBeat_eq, ← State.startAfterLoad_eq], State.opens_decided _ rfl now (.inl scan) events⟩

/-- A command that brings a boundary: the sequencer opens the beat from a part that the boundary has reached. -/
theorem State.OpensBeat.opens {s : State} {i : Instr} (h : s.OpensBeat i) :
    ∃ v d, exec i s = .next { v.openScan with due := d } ∧ s.Opens v := by
  rcases h with ⟨rfl, run⟩ | ⟨rfl, run, pending⟩ | ⟨⟨pins, rfl⟩, loads⟩ | ⟨rfl, standby, pending⟩ | ⟨rfl, standby, c, wakes⟩
  · have boundary : ∃ v d, (s.clearDue .boundary).naturalBoundary = { v.openScan with due := d } ∧ s.Opens v := by
      rcases State.naturalBoundary_cases (s.clearDue .boundary) with ⟨stopped, -⟩ | ⟨-, now, e⟩ | ⟨-, -, e⟩
      · simp [State.beatRunning, run] at stopped
      · rw [e]
        refine State.opens_restart (w := (s.clearDue .boundary).clearDue .restart) run (fun none => ?_) rfl rfl rfl
        have never : s.beat.restart = .none := none
        simp [State.restartNow, never] at now
      · rw [e]
        exact State.ofBeat_nextBeat (w := s.clearDue .boundary) run rfl (.inl rfl) rfl
    obtain ⟨v, d, e, opens⟩ := boundary
    exact ⟨v, d, congrArg _ e, opens⟩
  · obtain ⟨v, d, e, opens⟩ := State.opens_restart (s := s) (w := s.clearDue .restart) run pending rfl rfl rfl
    exact ⟨v, d, congrArg _ e, opens⟩
  · obtain ⟨v, d, e, opens⟩ := State.opens_load (s := s) (w := s.loaded pins) (Bank.all 31 false) rfl rfl rfl
    exact ⟨v, d, congrArg _ ((State.endLoad_starts loads pins).trans e), opens⟩
  · obtain ⟨v, d, e, opens⟩ := State.opens_wake (s := s) (w := s.clearDue .wakeStart) .wakeLink rfl rfl rfl
    exact ⟨v, d, congrArg _ ((if_pos ⟨standby, pending⟩).trans e), opens⟩
  · obtain ⟨k, wakesAt, -⟩ := State.wakeByContact_eq (s := s.clearDue .wakeContact) standby wakes
    obtain ⟨v, d, e, opens⟩ := State.opens_wake (s := s) (w := s.clearDue .wakeContact) (.wakeContact k) rfl rfl rfl
    exact ⟨v, d, congrArg _ (wakesAt.trans e), opens⟩

end Sys2Proof.Machine
end

section
/-! Settling the statements on the plan of a beat (R59 to R63) and on what a boundary opens and cuts (R1, R8). -/

namespace Sys2Proof.Machine

/-! ## From the part before the boundary -/

theorem State.flush_drops (s : State) (e : Fin 24) : (s.flush.scan.entries.get e).drops = (s.scan.entries.get e).drops := by
  unfold State.flush
  rw [Bank.get_map]
  rfl

theorem State.Opens.drops {s v : State} (h : s.Opens v) (e : Fin 24) : (v.scan.entries.get e).drops = (s.scan.entries.get e).drops := by
  rcases h.scan with same | flushed
  · rw [same]
  · rw [flushed, State.flush_drops]

theorem State.Opens.queue {s v : State} (h : s.Opens v) : v.scan.queue.Sublist s.scan.queue := by
  rcases h.scan with same | flushed
  · rw [same]
  · rw [flushed]
    exact List.filter_sublist

theorem State.Opens.idleEmpty {s v : State} (h : s.Opens v) (empty : s.IdleEmpty) : v.IdleEmpty := by
  intro idle
  have before : s.scan.converter = none := by
    rcases h.scan with same | flushed
    · rwa [same] at idle
    · rw [flushed] at idle
      exact Option.map_eq_none_iff.mp idle
  have part := h.queue.filter fun r => r.source.isEntry
  exact List.sublist_nil.mp (by rw [← empty before]; exact part)

/-- What the plan of an entry and a trigger at position 0 come to at a boundary (R60, R61, R63, R65). -/
theorem State.Opens.plan {s v : State} (h : s.Opens v) (d : List DueEvent) (e : Fin 24) :
    let t : State := { v.openScan with due := d }
    (t.scan.entries.get e).planned = (if v.planned e = some 0 then none else v.planned e) ∧
    (s.IdleEmpty → v.planned e = some 0 → s.RaisedAtBoundary t e) ∧
    (s.IdleEmpty → v.planned e ≠ some 0 → (t.scan.entries.get e).drops = (s.scan.entries.get e).drops) := by
  refine ⟨v.openScan_planned e, fun empty now => ?_, fun empty later => (((h.idleEmpty empty).openScan h.run e).2 later).trans (h.drops e)⟩
  have ends := ((h.idleEmpty empty).openScan h.run e).1 now
  unfold State.RaiseEnds at ends
  have request : v.requestOf e = ⟨.entry e, scanInput (v.openScan.tables.scanRow e), s.now,
      scanLateLimit (v.openScan.tables.scanRow e)⟩ := by
    have tables : v.openScan.tables = v.tables := by simp [State.tables]
    unfold State.requestOf
    rw [h.now, tables]
  have dropped : (v.scan.entries.get e).dropped.drops =
      if (s.scan.entries.get e).drops < 255 then (s.scan.entries.get e).drops + 1 else (s.scan.entries.get e).drops := by
    unfold ScanEntry.dropped
    rw [h.drops]
  rw [h.drops, dropped, request] at ends
  exact ends.imp id fun ⟨drops, event, place⟩ => ⟨drops, event,
    place.imp (fun ⟨q, mem, was, source⟩ => ⟨q, mem, h.queue.mem was, source⟩) id⟩

/-- An entry plans as the beat, its tables and the units of the part afterwards have it. -/
theorem State.planned_of {v t : State} (beat : t.beat = v.beat) (tables : t.tables = v.tables) (units : t.units = v.units) (e : Fin 24) :
    v.planned e = if scanEnabled (t.tables.scanRow e) = true ∧
        t.beat.number.toNat % scanDivider (t.tables.scanRow e) = scanPhase (t.tables.scanRow e)
      then t.triggerTime (t.tables.scanRow e) else none := by
  unfold State.planned State.entryActive State.triggerTime
  rw [beat, tables, units]
  simp only [Bool.and_eq_true, decide_eq_true_eq]

section
variable (v : State) (d : List DueEvent)

theorem State.opened_beat : ({ v.openScan with due := d } : State).beat = v.beat := by simp

theorem State.opened_tables : ({ v.openScan with due := d } : State).tables = v.tables := by simp [State.tables]

theorem State.opened_units : ({ v.openScan with due := d } : State).units = v.units := by simp

end

/-- Settles O35. -/
theorem timedTriggerPlanned : Obligations.TimedTriggerPlanned := by
  intro s i e opens
  obtain ⟨v, d, runs, h⟩ := opens.opens
  have beat := v.opened_beat d
  have tables := v.opened_tables d
  obtain ⟨planned, raised, stands⟩ := h.plan d e
  have plan := State.planned_of beat tables (v.opened_units d) e
  refine ⟨_, runs, ?_, fun active timed => ?_, fun inactive => ?_⟩
  · rw [beat, h.length, tables]
    rfl
  · have length : ({ v.openScan with due := d } : State).beat.length = beatLength (({ v.openScan with due := d } : State).tables.row .beat 0) := by
      rw [beat, h.length, tables]
      rfl
    rw [if_pos active, State.triggerTime, timed, if_neg (by simp), length] at plan
    rw [plan] at planned raised stands
    refine ⟨?_, fun empty zero => raised empty (congrArg some zero), fun empty some_ => stands empty (by simpa using some_)⟩
    simpa using planned
  · rw [if_neg inactive] at plan
    rw [plan] at planned stands
    exact ⟨planned, fun empty => stands empty nofun⟩

/-- Settles O36. -/
theorem anchoredTriggerPlanned : Obligations.AnchoredTriggerPlanned := by
  intro s i e opens
  obtain ⟨v, d, runs, h⟩ := opens.opens
  obtain ⟨planned, raised, stands⟩ := h.plan d e
  have plan := State.planned_of (v.opened_beat d) (v.opened_tables d) (v.opened_units d) e
  refine ⟨_, runs, ?_⟩
  intro row B n phase idleEmpty plans enabled active anchored
  rw [if_pos ⟨enabled, active⟩, State.triggerTime, if_pos anchored] at plan
  have comes (at_ : Option Nat) (point : anchorPosition (scanAnchorPoint row) phase n B = at_) : plans at_ := by
    have position : v.planned e = at_.map fun a => (((a : Int) + scanAnchoredOffset row) % (B : Int)).toNat := by
      rw [← point]
      exact plan
    rw [position] at planned raised stands
    exact ⟨planned, raised, stands⟩
  exact ⟨fun start => comes _ (by rw [start]; rfl), fun center => comes _ (by rw [center]; rfl), fun off => comes _ (by rw [off]; rfl)⟩

end Sys2Proof.Machine
end

section
/-! What a boundary opens and what a SYNC restart cuts (R1, R2, R8, R70, R72, R82). -/

namespace Sys2Proof.Machine

/-! ## The sequencer through a boundary -/

/-- A conversion in progress goes on through the opening of a beat. -/
theorem State.openScan_busy {s : State} {c : Conversion} (busy : s.scan.converter = some c) : s.openScan.scan.converter = some c := by
  have house {s : State} (busy : s.scan.converter = some c) : s.raiseHousekeepingOfBeat.scan.converter = some c := by
    have one (src : RequestSource) (input : Fin 16) : (s.raiseHousekeeping src input).scan.converter = some c := by
      unfold State.raiseHousekeeping
      split
      · rw [State.join_busy (by rw [busy]; simp)]
        exact busy
      · exact busy
    unfold State.raiseHousekeepingOfBeat
    (repeat' split) <;> first | exact one _ _ | exact busy
  have raise (l : List (Fin 24)) {s : State} (busy : s.scan.converter = some c) : (l.foldl State.raiseEntry s).scan.converter = some c := by
    induction l generalizing s with
    | nil => exact busy
    | cons e l ih =>
      refine ih ?_
      by_cases full : s.NoPlace e
      · rw [State.raiseEntry_dropped full, State.drop_converter]
        exact busy
      · rw [State.raiseEntry_joins full, State.join_busy (s := s.spent e) (show s.scan.converter ≠ none by rw [busy]; simp)]
        exact busy
  rw [State.openScan_eq]
  refine house (raise _ ?_)
  rw [State.takeNext_busy (by rw [busy]; simp)]
  exact busy

/-- The head of a queue that the converter starts is one of its requests, with a value that counts (R66). -/
theorem State.takeFrom_converter (s : State) (q : List ScanRequest) {c : Conversion} (e : (s.takeFrom q).scan.converter = some c) :
    c.discard = false ∧ c.request ∈ q := by
  induction q generalizing s with
  | nil => nomatch e
  | cons r q ih =>
    unfold State.takeFrom at e
    split at e
    · obtain ⟨counts, mem⟩ := ih _ e
      exact ⟨counts, List.mem_cons_of_mem r mem⟩
    · injection e with e
      subst e
      exact ⟨rfl, List.mem_cons_self⟩

/-- Requests after the opening of a beat are those that waited before, or of this tick. -/
theorem State.openScan_queue {s : State} (run : s.phase = .run) (q : ScanRequest) (mem : q ∈ s.openScan.scan.queue) :
    q ∈ s.scan.queue ∨ q.raised = s.now := by
  obtain ⟨served, runs, raises, -, -⟩ := State.openScan_raised run
  have now : (s.raisedNow.foldl State.raiseEntry s.takeNext.plan).now = s.now := by rw [raises.grows.now]; simp [State.plan]
  rw [State.openScan_eq] at mem
  obtain ⟨-, -, house⟩ := (raises.grows.served served).raiseHousekeepingOfBeat (raises.grows.phase.trans runs)
  rcases house q mem with before | ⟨fresh, -⟩
  · rcases raises.source q before with waited | ⟨e, -, is⟩
    · exact .inl (s.takeNext_queue.mem waited)
    · rw [is]
      exact .inr (by simp [State.requestOf, State.plan])
  · exact .inr (fresh.trans now)

/-- A housekeeping request whose place is free is raised with its beat (R70). -/
theorem State.openScan_housekeeping {s : State} (run : s.phase = .run) (clear : housekeepingWaiting s.scan.queue = [])
    {src : RequestSource} {input : Fin 16} (beat : (s.beat.number.toNat % 64 = 0 ∧ src = .temp ∧ input = 15) ∨
      (s.beat.number.toNat % 64 = 32 ∧ src = .supply ∧ input = 14)) :
    s.openScan.Holds { source := src, input := input, raised := s.now, late := 0 } := by
  obtain ⟨served, runs, raises, -, -⟩ := State.openScan_raised run
  have then_ := raises.grows.served served
  generalize opened : s.raisedNow.foldl State.raiseEntry s.takeNext.plan = t at raises then_
  have now : t.now = s.now := by rw [raises.grows.now]; simp [State.plan]
  have number : t.beat = s.beat := by
    rw [← opened]
    exact (State.raiseAll_beat _ _).trans (State.takeNext_beat s)
  have room : housekeepingWaiting t.scan.queue = [] := List.filter_eq_nil_iff.mpr fun q mem => by
    rcases raises.source q mem with waited | ⟨e, -, is⟩
    · exact List.filter_eq_nil_iff.mp clear q (s.takeNext_queue.mem waited)
    · rw [is]
      simp [State.requestOf, RequestSource.isEntry]
  have joins : t.raiseHousekeepingOfBeat = t.join { source := src, input := input, raised := t.now, late := 0 } := by
    unfold State.raiseHousekeepingOfBeat State.raiseHousekeeping
    rw [number]
    rcases beat with ⟨zero, rfl, rfl⟩ | ⟨half, rfl, rfl⟩
    · rw [if_pos zero, if_pos room]
    · rw [if_neg (by omega), if_pos half, if_pos room]
  rw [State.openScan_eq, opened, joins, ← now]
  exact (then_.join (raises.grows.phase.trans runs) rfl).2.1

/-! ## What a boundary that advances the number leaves -/

/-- An element that a filter drops anyway may be erased first. -/
theorem filter_erase_of_neg {α : Type} [DecidableEq α] {p : α → Bool} {a : α} (l : List α) (drops : p a = false) :
    (l.erase a).filter p = l.filter p := by
  induction l with
  | nil => rfl
  | cons x l ih =>
    rw [List.erase_cons]
    split
    · next same =>
      rw [beq_iff_eq] at same
      rw [same, List.filter_cons_of_neg (by rw [drops]; simp)]
    · rw [List.filter_cons, List.filter_cons, ih]

/-- What is on the agenda after it belongs to no beat, and was there before or is a starvation (R8, R111). -/
theorem State.nextBeat_due (s : State) : ∃ d, s.nextBeat = { s.numbered.openBeat s.sources with due := d } ∧
    ∀ e ∈ d, e.ofBeat = false ∧ (e ∈ s.due ∨ ∃ n, e = .starvation n) := by
  refine ⟨_, s.nextBeat_frame, fun e mem => ?_⟩
  rw [s.nextBeat_eq] at mem
  unfold State.markStarving State.markFirst at mem
  rcases List.mem_append.mp mem with starves | before
  · obtain ⟨n, -, rfl⟩ := List.mem_map.mp starves
    exact ⟨rfl, .inr ⟨n, rfl⟩⟩
  · have waited : e ∈ s.dropBeatDue.due := by
      have := (List.mem_filter.mp before).1
      simpa using this
    obtain ⟨was, kept⟩ := List.mem_filter.mp waited
    exact ⟨by simpa using kept, .inl was⟩

/-- The agenda of the beat that ends plays no part in the next. -/
theorem State.nextBeat_agenda (s : State) {d : List DueEvent}
    (due : (d.filter fun e => !e.ofBeat) = s.due.filter fun e => !e.ofBeat) : ({ s with due := d } : State).nextBeat = s.nextBeat := by
  have numbered : ({ s with due := d } : State).numbered = s.numbered :=
    congrArg (fun l => ({ s.countStarvation.ageSlots with due := l, beat := { s.beat with number := s.beat.number + 1 } } : State)) due
  rw [State.nextBeat_eq, State.nextBeat_eq, numbered]
  rfl

/-- A unit in OFF or HELD discards a pending setpoint and drives nothing (R24, R50). -/
theorem PulseUnit.reckoned_silent {x : PulseUnit} (silent : x.state = .off ∨ x.state.held = true) (row : Row) (n : Nat) (w : Bool)
    (c : Option Nat) : x.reckoned row n w c = { x with pending := none }.idleBeat := by
  unfold PulseUnit.reckoned
  cases e : x.state <;> simp_all [UnitState.held]

/-- A unit in OFF stays there at a boundary, and forgets a pending setpoint (R24, R50). -/
theorem State.openBeat_off {s : State} (b : Bank Bool 31) {u : Fin 4} (off : (s.units.get u).state = .off) :
    ((s.openBeat b).units.get u).state = .off ∧ ((s.openBeat b).units.get u).pending = none := by
  have swapped : (s.swapped.units.get u).state = .off := by
    rw [State.swapped_units, State.takeSwaps_units]
    split
    · rw [Bank.get_map]
      exact off
    · exact off
  have followed := (State.settle_course s.swapped b).off u swapped
  have driven : ((s.driven b).units.get u).state = .off ∧ ((s.driven b).units.get u).pending = none := by
    unfold State.driven
    rw [State.computeUnits_get, followed, PulseUnit.boundary_fst, PulseUnit.present_state, PulseUnit.present_pending,
      PulseUnit.reckoned_silent (.inl swapped)]
    exact ⟨swapped, rfl⟩
  have decided : (s.decided b).units.get u = (s.driven b).units.get u := (State.settle_course _ _).off u driven.1
  rw [State.openBeat_eq, State.openScan_units, decided]
  exact driven

section
variable (s : State) (b : Bank Bool 31)

theorem State.openBeat_warnLive : (s.openBeat b).limits.warnLive = s.limits.warnLive := by
  rw [State.openBeat_eq, State.openScan_limits, State.decided, State.settle_warnLive, State.driven, State.computeUnits_limits,
    State.settle_warnLive, State.swapped_limits, State.takeSwaps_limits]

theorem State.openBeat_shadow : (s.openBeat b).service.shadow = s.service.shadow := by
  rw [State.openBeat_service, State.takeMarks, State.latchIf_service]

/-- The swaps leave the safe causes. -/
theorem State.takeSwaps_causes : s.takeSwaps.reflex.link = s.reflex.link ∧ s.takeSwaps.reflex.thermal = s.reflex.thermal ∧
    s.takeSwaps.reflex.supply = s.reflex.supply := by
  rw [← s.swapOwners_reflex]
  exact ⟨s.takeSwaps_field (·.reflex.link) (by simp [State.decideRows]), s.takeSwaps_field (·.reflex.thermal) (by simp [State.decideRows]),
    s.takeSwaps_field (·.reflex.supply) (by simp [State.decideRows])⟩

theorem State.openBeat_causes : (s.openBeat b).reflex.link = s.reflex.link ∧ (s.openBeat b).reflex.thermal = s.reflex.thermal ∧
    (s.openBeat b).reflex.supply = s.reflex.supply := by
  have after := State.settle_causes (s.driven b) (s.driven b).sources
  have before := State.settle_causes s.swapped b
  rw [State.openBeat_eq, State.openScan_reflex]
  rw [State.driven, State.computeUnits_reflex, before.1, before.2.1, before.2.2, State.swapped_reflex, s.takeSwaps_causes.1,
    s.takeSwaps_causes.2.1, s.takeSwaps_causes.2.2] at after
  exact after

end

theorem State.age_get (s : State) (n : Fin 26) :
    s.ageSlots.slots.get n = { s.slots.get n with age := min ((s.slots.get n).age + 1) 65535 } := by
  unfold State.ageSlots
  exact Bank.get_map ..

theorem State.beatRunning_iff (s : State) : s.beatRunning = true ↔ s.phase = .run := decide_eq_true_iff

/-- At the instant of a pending restart the natural boundary is the restart's (R8). -/
theorem exec_boundary_restart {s : State} (run : s.phase = .run) {r : Nat} (pending : s.beat.restart = some r) (come : r ≤ s.now) :
    exec .naturalBeatBoundary s = exec .syncRestart s := by
  have restart : s.beat.restart ≠ none := by rw [pending]; simp
  have boundary : (s.clearDue .boundary).naturalBoundary = ((s.clearDue .boundary).clearDue .restart).restartBoundary := by
    have now : (s.clearDue .boundary).restartNow = true := by simp [State.restartNow, pending, come]
    exact (if_pos ((State.beatRunning_iff (s.clearDue .boundary)).mpr run)).trans (if_pos now)
  have cut : ((s.clearDue .boundary).clearDue .restart).restartBoundary = (s.clearDue .restart).restartBoundary := by
    rw [State.restartBoundary_eq (s := (s.clearDue .boundary).clearDue .restart) run restart,
      State.restartBoundary_eq (s := s.clearDue .restart) run restart]
    refine State.nextBeat_agenda ({ s.clearDue .restart with beat := { s.beat with restart := none } } : State).flush ?_
    show ((s.due.erase .boundary).erase .restart).filter _ = (s.due.erase .restart).filter _
    rw [List.erase_comm]
    exact filter_erase_of_neg _ rfl
  exact congrArg _ (boundary.trans cut)

theorem exec_boundary_stopped {s : State} (stopped : s.phase ≠ .run) :
    exec .naturalBeatBoundary s = .next { s with due := s.due.erase .boundary } :=
  congrArg _ (if_neg fun run => stopped ((State.beatRunning_iff _).mp run))

/-- With no restart come, the natural boundary advances the number by itself (R1, R2). -/
theorem exec_boundary_next {s : State} (run : s.phase = .run) (later : ∀ r, s.beat.restart = some r → s.now < r) :
    exec .naturalBeatBoundary s = .next (s.clearDue .boundary).nextBeat := by
  have goes : (s.clearDue .boundary).naturalBoundary = (s.clearDue .boundary).nextBeat := by
    rcases State.naturalBoundary_cases (s.clearDue .boundary) with ⟨stopped, -⟩ | ⟨-, now, -⟩ | ⟨-, -, e⟩
    · simp [State.beatRunning, run] at stopped
    · cases pending : s.beat.restart with
      | none => simp [State.restartNow, pending] at now
      | some r =>
        simp [State.restartNow, pending] at now
        exact absurd (later r pending) (Nat.not_lt.mpr (of_decide_eq_true now))
    · exact e
  exact congrArg _ goes

/-- The part as a restart leaves it for its boundary: none pending, the sequencer flushed (R8, R72). -/
def State.cut (s : State) : State := ({ s.clearDue .restart with beat := { s.beat with restart := none } } : State).flush

theorem exec_syncRestart {s : State} (run : s.phase = .run) (pending : s.beat.restart ≠ none) :
    exec .syncRestart s = .next s.cut.nextBeat :=
  congrArg _ (State.restartBoundary_eq (s := s.clearDue .restart) run pending)

theorem exec_syncRestart_none {s : State} (none : s.phase ≠ .run ∨ s.beat.restart = none) :
    exec .syncRestart s = .next { s with due := s.due.erase .restart } := by
  refine congrArg _ (if_neg fun ⟨run, pending⟩ => ?_)
  exact none.elim (fun stopped => stopped ((State.beatRunning_iff _).mp run)) pending

/-- The sequencer after a boundary of a flushed part (R71, R72): partial sums are 0, no table request is older than the boundary, and
a conversion in progress goes on as the flush has it. -/
theorem State.Opens.flushed {s v : State} (h : s.Opens v) (flushed : v.scan = s.flush.scan) :
    (∀ e, (v.openScan.scan.entries.get e).sum = 0 ∧ (v.openScan.scan.entries.get e).samples = 0 ∧
      (s.scan.entries.get e).drops ≤ (v.openScan.scan.entries.get e).drops) ∧
    (∀ q ∈ v.openScan.scan.queue, q.source.isEntry = true → q.raised = s.now) ∧
    (∀ q ∈ v.openScan.scan.queue, q.source.isEntry = false → q.raised = s.now ∨ q ∈ s.scan.queue) ∧
    ∀ c, s.scan.converter = some c → v.openScan.scan.converter = some { c with discard := c.discard || c.request.source.isEntry } := by
  have before (q : ScanRequest) (mem : q ∈ v.openScan.scan.queue) :
      (q ∈ s.scan.queue ∧ q.source.isEntry = false) ∨ q.raised = s.now := by
    rcases State.openScan_queue h.run q mem with waited | fresh
    · rw [flushed] at waited
      obtain ⟨was, house⟩ := List.mem_filter.mp waited
      exact .inl ⟨was, by simpa using house⟩
    · exact .inr (fresh.trans h.now)
  refine ⟨fun e => ?_, fun q mem entry => ?_, fun q mem house => ?_, fun c busy => ?_⟩
  · refine State.openScan_entries (P := fun e x => x.sum = 0 ∧ x.samples = 0 ∧ (s.scan.entries.get e).drops ≤ x.drops)
      (fun e x k => ⟨rfl, rfl, ?_⟩) (fun _ _ _ k => k) (fun e => ?_) e
    · have := k.2.2
      simp only [ScanEntry.dropped]
      split <;> omega
    · rw [flushed]
      exact ⟨by simp [State.flush, ScanEntry.restart], by simp [State.flush, ScanEntry.restart], (s.flush_drops e).ge⟩
  · rcases before q mem with ⟨-, house⟩ | fresh
    · rw [entry] at house
      nomatch house
    · exact fresh
  · exact (before q mem).symm.imp id And.left
  · refine State.openScan_busy ?_
    rw [flushed]
    simp [State.flush, busy]

/-- Settles O23. -/
theorem syncRestartCutsBeat : Obligations.SyncRestartCutsBeat := by
  intro s
  refine ⟨exec_syncRestart_none, fun run pending => ⟨_, exec_syncRestart run pending, s.cut.nextBeat_beat, ?_⟩⟩
  obtain ⟨d, frame, agenda⟩ := s.cut.nextBeat_due
  have opens := State.opens_decided (s := s) (w := s.cut.numbered) s.cut.sources run rfl (.inr rfl) fun _ on => on
  have flushed : (s.cut.numbered.decided s.cut.sources).scan = s.flush.scan := by
    rw [State.decided_scan, State.swapped_scan, State.takeSwaps_scan]
    split
    · exact State.flush_flush rfl
    · rfl
  obtain ⟨entries, table, housekeeping, converter⟩ := opens.flushed flushed
  rw [← State.openBeat_eq] at entries table housekeeping converter
  rw [frame]
  refine ⟨fun n => ?_, entries, table, housekeeping, converter, fun e mem => ?_, by simp [State.cut], by simp [State.cut],
    by simp [State.cut], by simp [State.cut], by simp [State.cut], by simp [State.cut], by simp [State.cut], by simp [State.cut]⟩
  · rw [State.openBeat_slots]
    exact s.age_get n
  · obtain ⟨kept, came⟩ := agenda e mem
    exact ⟨kept, came.imp List.mem_of_mem_erase id⟩

/-- Settles O21. -/
theorem naturalBoundaryOpensBeat : Obligations.NaturalBoundaryOpensBeat := by
  intro s
  refine ⟨exec_boundary_stopped, fun run ⟨r, pending, come⟩ => exec_boundary_restart run pending come, fun run later => ?_⟩
  have latched := (State.Latched.refl (s.clearDue .boundary)).nextBeat
  have beat := (s.clearDue .boundary).nextBeat_beat
  have off (u : Fin 4) (off : (s.units.get u).state = .off) : ((s.clearDue .boundary).nextBeat.units.get u).state = .off := by
    rw [State.nextBeat_frame]
    exact (State.openBeat_off (s := (s.clearDue .boundary).numbered) _ off).1
  refine ⟨_, exec_boundary_next run later, beat, ?_⟩
  obtain ⟨d, frame, agenda⟩ := (s.clearDue .boundary).nextBeat_due
  have opens := State.opens_decided (s := s) (w := (s.clearDue .boundary).numbered) s.sources run rfl (.inl rfl) fun _ on => on
  have number : ((s.clearDue .boundary).numbered.decided s.sources).beat.number = (s.clearDue .boundary).nextBeat.beat.number := by
    rw [beat, State.decided_beat, State.swapped_beat]
    rfl
  refine ⟨fun n => ?_, fun clear r beats => ?_, fun e mem => ?_, latched.events, off, ?_⟩
  · rw [frame, State.openBeat_slots]
    exact s.age_get n
  · have clear' : housekeepingWaiting ((s.clearDue .boundary).numbered.decided s.sources).scan.queue = [] :=
      List.sublist_nil.mp (by rw [← clear]; exact opens.queue.filter _)
    have holds (src : RequestSource) (input : Fin 16) (at_ : ((s.clearDue .boundary).nextBeat.beat.number.toNat % 64 = 0 ∧ src = .temp ∧
        input = 15) ∨ ((s.clearDue .boundary).nextBeat.beat.number.toNat % 64 = 32 ∧ src = .supply ∧ input = 14)) :
        ((s.clearDue .boundary).numbered.openBeat s.sources).Holds { source := src, input := input, raised := s.now, late := 0 } := by
      rw [State.openBeat_eq, ← opens.now]
      exact State.openScan_housekeeping opens.run clear' (number ▸ at_)
    have waits : ((s.clearDue .boundary).numbered.openBeat s.sources).Holds r := by
      rcases beats with ⟨zero, rfl⟩ | ⟨half, rfl⟩
      · exact holds _ _ (.inl ⟨zero, rfl, rfl⟩)
      · exact holds _ _ (.inr ⟨half, rfl, rfl⟩)
    rw [frame]
    exact waits
  · rw [frame] at mem
    obtain ⟨kept, came⟩ := agenda e mem
    exact ⟨kept, came.imp List.mem_of_mem_erase id⟩
  · rw [frame]
    simp [State.openBeat_warnLive, State.openBeat_shadow, State.openBeat_causes, State.countStarvation]

end Sys2Proof.Machine
end

section
/-! A boundary at which no table is swapped: what stands before its units are computed, and what follows them (R3, R109). -/

namespace Sys2Proof.Machine

/-! ## A course with sources that are only released -/

/-- What every round keeps that no row fires in, a course with no new source keeps. -/
theorem State.settle_quiet_induct (P : State → Prop)
    (round : ∀ t b, (∀ i, t.sourceActive i = true → b.get i = true) → P t → P (t.settleRound b)) (s : State) (b : Bank Bool 31)
    (quiet : ∀ i, s.sourceActive i = true → b.get i = true) (h : P s) : P (s.settle b) := by
  have all (m : Nat) : ∀ (t : State) (c : Bank Bool 31), (∀ i, t.sourceActive i = true → c.get i = true) → P t →
      P (State.settleFuel m c t) := by
    induction m with
    | zero => exact fun t c _ k => k
    | succ m ih =>
      intro t c old k
      have after := round t c old k
      unfold State.settleFuel
      dsimp only
      split
      · exact after
      · exact ih _ _ (fun i on => by rw [State.sources_get]; exact State.settleRound_sources t c i on) after
  exact all 4 s b quiet h

/-! ## No mark but SLOT's -/

section
variable {s : State} (marks : beatMarks s.service.marks = 0)
include marks

theorem State.unmarked_tables : s.takeSwaps.tables = s.tables := by
  have opened := State.openBeat_unmarked s (Bank.all 31 false) marks
  unfold State.tables at opened ⊢
  rw [State.openBeat_service, ← State.takeSwaps_service] at opened
  exact opened

theorem State.unmarked_units : s.takeSwaps.units = s.units := by
  rw [State.takeSwaps_units, marks]
  rfl

theorem State.unmarked_rotation : s.takeSwaps.rotation = s.rotation := by
  rw [State.takeSwaps_rotation, marks]
  rfl

theorem State.unmarked_limits : s.takeSwaps.limits = s.limits := by
  rw [State.takeSwaps_limits, marks]
  rfl

theorem State.unmarked_reflex : s.takeSwaps.reflex = s.reflex := by
  rw [State.takeSwaps_eq, marks]
  exact s.swapOwners_reflex

/-- Nothing that a condition looks at changes up to the drive computation. -/
theorem State.Alike.unmarked : s.Alike s.swapped :=
  .of_blocks (by simp) (State.unmarked_tables marks) (State.unmarked_reflex marks) (congrArg _ (State.unmarked_limits marks)) (by simp)
    (State.unmarked_rotation marks) (State.unmarked_units marks)

end

/-! ## The counts of a boundary -/

/-- A limit row once its starvation count has advanced (R110). -/
def LimitRow.counted (x : LimitRow) (limit : Nat) : LimitRow := { x with starve := x.starve.map fun c => min (c + 1) limit }

theorem State.numbered_limit (s : State) (n : Fin 16) :
    s.numbered.limits.rows.get n = (s.limits.rows.get n).counted (limitStarvation (s.tables.limitRow n)) := by
  rw [State.numbered_limits, State.countStarvation]
  exact Bank.get_mapIdx ..

theorem State.numbered_sourceActive (s : State) (i : Fin 31) : s.numbered.sourceActive i = s.sourceActive i := by
  unfold State.sourceActive
  rw [State.numbered_limit]
  rfl

/-- Counts that advance settle nothing afresh. -/
theorem State.Settled.numbered {s : State} (h : s.Settled) : s.numbered.Settled where
  rows n := by rw [State.numbered_sourceActive]; exact h.rows n
  holds := ⟨h.holds.obeyed, h.holds.kept, h.holds.capped⟩
  qualified n := by rw [State.numbered_limit]; exact h.qualified n
  unqualified n q := by rw [State.numbered_limit, h.unqualified n q]; rfl
  timed := h.timed
  untimed := h.untimed

/-- The natural boundary advances the number, whether or not a restart has come, and no block but agenda, beat and sequencer differs
before it (R1, R8). -/
theorem exec_boundary_scan {s : State} (run : s.phase = .run) : ∃ d r q,
    exec .naturalBeatBoundary s = .next ({ s with due := d, beat := { s.beat with restart := r }, scan := q } : State).nextBeat ∧
      (q = s.scan ∨ q = s.flush.scan) := by
  by_cases later : ∀ r, s.beat.restart = some r → s.now < r
  · exact ⟨_, _, _, exec_boundary_next run later, .inl rfl⟩
  · push Not at later
    obtain ⟨r, pending, come⟩ := later
    exact ⟨_, _, _, (exec_boundary_restart run pending come).trans (exec_syncRestart run (by rw [pending]; simp)), .inr rfl⟩

theorem exec_boundary {s : State} (run : s.phase = .run) : ∃ d r q,
    exec .naturalBeatBoundary s = .next ({ s with due := d, beat := { s.beat with restart := r }, scan := q } : State).nextBeat := by
  obtain ⟨d, r, q, runs, -⟩ := exec_boundary_scan run
  exact ⟨d, r, q, runs⟩

/-! ## Limit rows and their qualifiers at a boundary (R109) -/

/-- A course leaves a limit row that no unit qualifies. -/
theorem State.settle_limit_alone {s : State} {n : Fin 16} (alone : limitQualifier (s.tables.limitRow n) = none)
    (qualified : (s.limits.rows.get n).qualified = s.limitQualified n) (b : Bank Bool 31) :
    (s.settle b).limits.rows.get n = s.limits.rows.get n := by
  have free : s.Free (fun _ => True) (fun _ => False) :=
    ⟨⟨fun _ _ => trivial, fun _ _ _ => trivial⟩, fun _ h => h.elim, fun _ h => h.elim, fun _ h => h.elim⟩
  refine (free.settle b).2.limits n (fun u e => ?_) qualified
  rw [alone] at e
  nomatch e

/-- A limit row that no unit qualifies goes through a boundary with its count alone advanced. -/
theorem State.nextBeat_limit_alone {s : State} (marks : beatMarks s.service.marks = 0) {n : Fin 16}
    (alone : limitQualifier (s.tables.limitRow n) = none) (qualified : (s.limits.rows.get n).qualified = s.limitQualified n) :
    s.nextBeat.limits.rows.get n = (s.limits.rows.get n).counted (limitStarvation (s.tables.limitRow n)) := by
  have kept {t : State} (b : Bank Bool 31) (phase : t.phase = s.phase) (tables : t.tables = s.tables)
      (row : t.limits.rows.get n = (s.limits.rows.get n).counted (limitStarvation (s.tables.limitRow n))) :
      (t.settle b).limits.rows.get n = t.limits.rows.get n := by
    refine State.settle_limit_alone (by rw [tables, alone]) ?_ b
    rw [row, State.limitQualified_congr phase tables fun u e => by rw [alone] at e; nomatch e]
    exact qualified
  have before : s.numbered.swapped.tables = s.tables := State.unmarked_tables (s := s.numbered) marks
  have swapped : s.numbered.swapped.limits.rows.get n = (s.limits.rows.get n).counted (limitStarvation (s.tables.limitRow n)) := by
    rw [State.swapped_limits, State.unmarked_limits (s := s.numbered) marks]
    exact s.numbered_limit n
  have followed := kept s.sources (by simp) before swapped
  have driven : (s.numbered.driven s.sources).limits.rows.get n =
      (s.limits.rows.get n).counted (limitStarvation (s.tables.limitRow n)) := by
    rw [State.driven, State.computeUnits_limits, followed, swapped]
  have decided := kept (t := s.numbered.driven s.sources) (s.numbered.driven s.sources).sources (by simp)
    (by unfold State.tables at before ⊢; rw [State.driven_service, before]) driven
  rw [State.nextBeat_frame, State.openBeat_eq, State.openScan_limits]
  exact decided.trans driven

/-! ## Starvation (R110, R111) -/

/-- The part as a starvation sets it, before the course of its consequences (R111). -/
def State.starvedAt (s : State) (n : Fin 16) : State :=
  (s.setLimit n { s.limits.rows.get n with tripRun := 0, releaseRun := 0, active := true, declared := true }).latch .starved

theorem exec_starvation {s : State} {n : Fin 16} (set : 0 < limitStarvation (s.tables.limitRow n))
    (reached : (s.limits.rows.get n).starve = some (limitStarvation (s.tables.limitRow n)))
    (undeclared : (s.limits.rows.get n).declared = false) :
    exec (.starvation n) s = .next (((s.clearDue (.starvation n)).starvedAt n).settle s.sources) := by
  have row : (s.limits.rows.get n).starved (limitStarvation (s.tables.limitRow n)) =
      { s.limits.rows.get n with tripRun := 0, releaseRun := 0, active := true, declared := true } := by
    unfold LimitRow.starved
    rw [← reached]
  have starves : (s.clearDue (.starvation n)).starve n = (((s.clearDue (.starvation n)).setLimit n
      ((s.limits.rows.get n).starved (limitStarvation (s.tables.limitRow n)))).latch .starved).settle s.sources :=
    if_pos ⟨set, reached, undeclared⟩
  rw [row] at starves
  exact congrArg _ starves

theorem exec_starvation_none {s : State} {n : Fin 16} (none : limitStarvation (s.tables.limitRow n) = 0 ∨
    (s.limits.rows.get n).starve ≠ some (limitStarvation (s.tables.limitRow n)) ∨ (s.limits.rows.get n).declared = true) :
    exec (.starvation n) s = .next { s with due := s.due.erase (.starvation n) } := by
  refine congrArg _ (if_neg fun ⟨set, reached, undeclared⟩ => ?_)
  rcases none with zero | other | declared
  · exact absurd zero (Nat.pos_iff_ne_zero.mp set)
  · exact other reached
  · exact nomatch undeclared.symm.trans declared

/-- The starvation count of a row that no unit qualifies, at a boundary; a row whose count reaches its limit there stands first on the
agenda (R110, R111). -/
theorem State.nextBeat_starves {s : State} (marks : beatMarks s.service.marks = 0) {n : Fin 16}
    (alone : limitQualifier (s.tables.limitRow n) = none) (qualified : (s.limits.rows.get n).qualified = s.limitQualified n) {c : Nat}
    (count : (s.limits.rows.get n).starve = some c) :
    (s.nextBeat.limits.rows.get n).starve = some (min (c + 1) (limitStarvation (s.tables.limitRow n))) ∧
    (s.nextBeat.limits.rows.get n).declared = (s.limits.rows.get n).declared ∧
    (c + 1 = limitStarvation (s.tables.limitRow n) → ∃ first rest, s.nextBeat.due = first ++ rest ∧ DueEvent.starvation n ∈ first ∧
      ∀ e ∈ first, ∃ m, e = .starvation m) := by
  have row := State.nextBeat_limit_alone marks alone qualified
  have after : (s.nextBeat.limits.rows.get n).starve = some (min (c + 1) (limitStarvation (s.tables.limitRow n))) := by
    rw [row, LimitRow.counted, count, Option.map_some]
  have tables : (s.numbered.openBeat s.sources).tables = s.tables := State.openBeat_unmarked s.numbered s.sources marks
  refine ⟨after, by rw [row]; rfl, fun reaches => ⟨_, _, congrArg State.due s.nextBeat_eq,
    List.mem_map.mpr ⟨n, List.mem_filter.mpr ⟨by simp [State.starvingRows, count, reaches], ?_⟩, rfl⟩, fun e mem => ?_⟩⟩
  · rw [s.nextBeat_frame, ← reaches, min_self, reaches] at after
    rw [tables]
    exact decide_eq_true after
  · obtain ⟨m, -, rfl⟩ := List.mem_map.mp mem
    exact ⟨m, rfl⟩

/-- Settles O40. -/
theorem starvationDeclared : Obligations.StarvationDeclared := by
  constructor
  · intro s n limit x y
    refine ⟨exec_starvation_none, fun settled set reached undeclared => ⟨_, exec_starvation set reached undeclared,
      State.settle_course _ _, ?_, fun alone => ?_, fun quiet k enabled source => ?_⟩⟩
    · have ends := (settled.clearDue (.starvation n)).starve n
      have same := exec_starvation set reached undeclared
      injection same with same
      exact same ▸ ends
    · have row : ((s.clearDue (.starvation n)).starvedAt n).limits.rows.get n = y := by
        rw [State.starvedAt, State.latch_limits, State.setLimit_rows, Bank.get_set_self]
        rfl
      refine (State.settle_limit_alone (s := (s.clearDue (.starvation n)).starvedAt n) alone ?_ _).trans row
      rw [row]
      exact (settled.qualified n).trans (State.limitQualified_congr (s := (s.clearDue (.starvation n)).starvedAt n) rfl rfl fun _ _ => rfl)
    · refine (State.row_fires (s := s) (t := (s.clearDue (.starvation n)).starvedAt n) rfl enabled ?_ ?_).1
      · rw [State.sourceActive_limit _ source]
        exact quiet
      · rw [State.sourceActive_limit _ source, State.starvedAt, State.latch_limits, State.setLimit_rows, Bank.get_set_self]
  · intro s n c run marks settled alone count limit
    obtain ⟨d, r, q, runs⟩ := exec_boundary run
    exact ⟨_, runs, State.nextBeat_starves (s := { s with due := d, beat := { s.beat with restart := r }, scan := q }) marks alone
      (settled.qualified n) count⟩

end Sys2Proof.Machine
end

section
/-! A store and what its readers make of it (R84, R107 to R110), before and after the course of its consequences. -/

namespace Sys2Proof.Machine

/-! ## The readers of a store -/

/-- The slot written and every reader served, before the course of the consequences (R84). -/
def State.delivered (s : State) (slot : Fin 26) (v : Nat) : State :=
  ((({ s with slots := s.slots.set slot (Slot.stored slot v) } : State).storeToLimits slot v).storeToChecks slot v).storeToUnits slot v

theorem State.storeResult_eq (s : State) (slot : Fin 26) (v : Nat) : s.storeResult slot v = (s.delivered slot v).settle s.sources := rfl

/-- The fixed checks leave limit rows and reflex rows, and what is latched. -/
theorem State.storeToChecks_rows (s : State) (slot : Fin 26) (v : Nat) :
    (s.storeToChecks slot v).limits.rows = s.limits.rows ∧ (s.storeToChecks slot v).reflex.rows = s.reflex.rows := by
  unfold State.storeToChecks State.checkTemp State.checkSupply
  dsimp only
  (repeat' split) <;> simp

theorem State.Latched.storeToChecks {s t : State} (slot : Fin 26) (v : Nat) (h : s.Latched t) : s.Latched (t.storeToChecks slot v) := by
  have temp : s.Latched (t.checkTemp v) := by
    unfold State.checkTemp
    dsimp only
    split
    · exact latch _ (setCause _ (latchIf _ _ (h.congr rfl rfl)))
    · exact latchIf _ _ (h.congr rfl rfl)
  have supply : s.Latched (t.checkSupply v) := by
    unfold State.checkSupply
    dsimp only
    (repeat' split) <;> first | exact latch _ (setCause _ (h.congr rfl rfl)) | exact h.congr rfl rfl
  unfold State.storeToChecks
  (repeat' split) <;> first | exact temp | exact supply | exact h

section
variable (s : State) (slot : Fin 26) (v : Nat)

theorem State.delivered_phase : (s.delivered slot v).phase = s.phase := by simp [State.delivered]

theorem State.delivered_tables : (s.delivered slot v).tables = s.tables := by simp [State.delivered, State.tables]

theorem State.delivered_rows : (s.delivered slot v).reflex.rows = s.reflex.rows := by
  unfold State.delivered
  rw [State.storeToUnits_reflex, (State.storeToChecks_rows ..).2]
  simp

/-- A limit row that watches the slot receives the value, every other stands (R108). -/
theorem State.delivered_limit (n : Fin 16) : (s.delivered slot v).limits.rows.get n =
    if limitSource (s.tables.limitRow n) = slot.val then ((s.limits.rows.get n).receive (s.tables.limitRow n) v).1
    else s.limits.rows.get n := by
  unfold State.delivered
  rw [State.storeToUnits_limits, (State.storeToChecks_rows ..).1]
  simp only [State.storeToLimits, State.latchIf_limits, Bank.get_mapIdx]
  exact if_congr decide_eq_true_iff rfl rfl

/-- A unit whose current slot is stored into evaluates the value, every other stands (R51). -/
theorem State.delivered_unit (u : Fin 4) : (s.delivered slot v).units.get u = (s.storeToUnits slot v).units.get u := by
  have units : (s.delivered slot v).units = (s.storeToUnits slot v).units := by
    unfold State.delivered State.storeToUnits State.tables
    simp only [State.storeToChecks_units, State.storeToLimits_units, State.storeToChecks_service, State.storeToLimits_service]
  rw [units]

theorem State.storeToUnits_get (u : Fin 4) : (s.storeToUnits slot v).units.get u =
    if unitCurrentSlot (s.tables.unitRow u) = some slot.val then (s.units.get u).foldResult (s.tables.unitRow u) v
    else s.units.get u := Bank.get_mapIdx ..

end

theorem PulseUnit.foldResult_drive (x : PulseUnit) (row : Row) (v : Nat) :
    (x.foldResult row v).state = x.state ∧ (x.foldResult row v).applied = x.applied := by
  unfold PulseUnit.foldResult PulseUnit.foldAbove PulseUnit.foldBelow
  dsimp only
  (repeat' split) <;> exact ⟨rfl, rfl⟩

/-- A store leaves every unit's state and applied duty. -/
theorem State.delivered_drive (s : State) (slot : Fin 26) (v : Nat) (u : Fin 4) :
    ((s.delivered slot v).units.get u).state = (s.units.get u).state ∧
      ((s.delivered slot v).units.get u).applied = (s.units.get u).applied := by
  rw [State.delivered_unit, State.storeToUnits_get]
  split
  · exact PulseUnit.foldResult_drive ..
  · exact ⟨rfl, rfl⟩

theorem State.delivered_qualified (s : State) (slot : Fin 26) (v : Nat) (n : Fin 16) :
    (s.delivered slot v).limitQualified n = s.limitQualified n := by
  unfold State.limitQualified State.conditionerRunning PulseUnit.drivesAtLeast
  simp only [State.delivered_phase, State.delivered_tables, State.delivered_drive]

/-- The units that no enabled row and no safe cause holds are free at a store (R120). -/
theorem State.Settled.delivered {s : State} (h : s.Settled) (slot : Fin 26) (v : Nat) {U : Fin 4 → Prop}
    (safe : ∀ u, U u → (s.delivered slot v).safeActive = false)
    (rows : ∀ u, U u → ∀ k, reflexEnabled (s.tables.reflexRow k) = true →
      reflexAction (s.tables.reflexRow k) u ≠ .coast ∧ reflexAction (s.tables.reflexRow k) u ≠ .brake)
    (unheld : ∀ u, U u → (s.units.get u).state.held = false) :
    (s.delivered slot v).Free (fun k => reflexEnabled (s.tables.reflexRow k) = true) U where
  within :=
    { active := fun k on => by
        rw [State.delivered_rows] at on
        have agrees := h.rows k
        unfold ReflexRow.agrees at agrees
        by_contra disabled
        rw [if_neg disabled, on] at agrees
        nomatch agrees
      fires := fun k enabled _ => by rwa [State.delivered_tables] at enabled }
  safe u mem := by
    unfold State.safeHold
    rw [safe u mem]
    rfl
  rows u mem k enabled := by
    rw [State.delivered_tables, ReflexAction.hold_none_iff]
    exact rows u mem k enabled
  state u mem := by rw [(State.delivered_drive ..).1]; exact unheld u mem

/-! ## Limit rows (R107, R109) -/

/-- An enabled row is qualified while the conditioner runs and its qualifier, if any, drives hard enough (R109). -/
theorem State.limitQualified_iff {s : State} {n : Fin 16} (running : s.conditionerRunning = true)
    (enabled : limitEnabled (s.tables.limitRow n) = true) : s.limitQualified n = true ↔
      ∀ u, limitQualifier (s.tables.limitRow n) = some u →
        (s.units.get u).state = .run ∧ limitMinDuty (s.tables.limitRow n) ≤ (s.units.get u).applied.natAbs := by
  unfold State.limitQualified
  dsimp only
  rw [running, enabled]
  cases limitQualifier (s.tables.limitRow n) <;> simp [PulseUnit.drivesAtLeast]

/-- A limit row whose qualification begins (R109, R110). -/
def LimitRow.begun (starvation : Nat) : LimitRow :=
  ⟨0, 0, false, true, if 0 < starvation then some 0 else none, false⟩

/-- A row that is as after reset, or as where qualification begins, stays one of the two. -/
theorem LimitRow.requalify_begun {x : LimitRow} {v : Nat} (h : x = LimitRow.atReset ∨ x = LimitRow.begun v) (q : Bool) :
    x.requalify q v = LimitRow.atReset ∨ x.requalify q v = LimitRow.begun v := by
  unfold LimitRow.requalify
  split
  · exact h
  · split
    · exact .inr rfl
    · exact .inl rfl

/-- A row not qualified before a course, and qualified after it, is as where qualification begins. -/
theorem State.settle_begins {s : State} {n : Fin 16} (fresh : s.limits.rows.get n = LimitRow.atReset) (b : Bank Bool 31)
    (qualified : ((s.settle b).limits.rows.get n).qualified = true) :
    (s.settle b).limits.rows.get n = LimitRow.begun (limitStarvation (s.tables.limitRow n)) := by
  have either := State.settle_induct (fun t => t.tables = s.tables ∧ (t.limits.rows.get n = LimitRow.atReset ∨
      t.limits.rows.get n = LimitRow.begun (limitStarvation (s.tables.limitRow n))))
    (fun t c k => ⟨(State.settleRound_tables t c).trans k.1, by
      rw [State.settleRound_limits_get, k.1]
      exact LimitRow.requalify_begun k.2 _⟩) s b ⟨rfl, .inl fresh⟩
  refine either.2.resolve_left fun reset => ?_
  rw [reset] at qualified
  nomatch qualified

/-- A trip sets LIMIT_TRIPPED (R107). -/
theorem State.storeResult_trips {s : State} {slot : Fin 26} {n : Fin 16} (watches : limitSource (s.tables.limitRow n) = slot.val) {v : Nat}
    (trips : ((s.limits.rows.get n).receive (s.tables.limitRow n) v).2 = true) :
    (s.storeResult slot v).status.events.getLsbD 8 = true := by
  have stored : (({ s with slots := s.slots.set slot (Slot.stored slot v) } : State).storeToLimits slot v).status.events.getLsbD 8 = true := by
    unfold State.storeToLimits
    refine (State.latchIf_self ..).trans ?_
    rw [Bool.or_eq_true]
    exact .inr (List.any_eq_true.mpr ⟨n, List.mem_finRange n, by
      rw [Bool.and_eq_true]
      exact ⟨decide_eq_true watches, trips⟩⟩)
  have checked := ((State.Latched.refl _).storeToChecks slot v).events 8 stored
  exact State.settle_keeps (s.delivered slot v) s.sources 8 checked

/-- Runs and condition of a row after a judged result, case by case (R107). -/
theorem LimitRow.judge_cases (x : LimitRow) (row : Row) (j : Judged) :
    (x.active = false → j = .tripping → limitTripCount row ≤ x.tripRun + 1 →
      x.judge row j = ({ x with active := true, tripRun := 0 }, true)) ∧
    (x.active = false → j = .tripping → x.tripRun + 1 < limitTripCount row →
      (x.judge row j).1 = { x with tripRun := x.tripRun + 1 }) ∧
    (x.active = false → j ≠ .tripping → (x.judge row j).1 = { x with tripRun := 0 }) ∧
    (x.active = true → j = .releasing → limitReleaseCount row ≤ x.releaseRun + 1 →
      (x.judge row j).1 = { x with active := false, releaseRun := 0 }) ∧
    (x.active = true → j = .releasing → x.releaseRun + 1 < limitReleaseCount row →
      (x.judge row j).1 = { x with releaseRun := x.releaseRun + 1 }) ∧
    (x.active = true → j ≠ .releasing → (x.judge row j).1 = { x with releaseRun := 0 }) := by
  unfold LimitRow.judge
  refine ⟨fun off is reached => ?_, fun off is short => ?_, fun off not => ?_, fun on is reached => ?_, fun on is short => ?_,
    fun on not => ?_⟩
  · simp [off, is, reached]
  · simp [off, is, show ¬limitTripCount row ≤ x.tripRun + 1 by omega]
  · cases j <;> simp_all
  · simp [on, is, reached]
  · simp [on, is, show ¬limitReleaseCount row ≤ x.releaseRun + 1 by omega]
  · cases j <;> simp_all

/-- The course of a store leaves a qualified row as its judgement left it, where nothing can take its qualifier out of RUN. -/
theorem State.Settled.storeResult_limit {s : State} (h : s.Settled) {slot : Fin 26} {v : Nat} {n : Fin 16} (running : s.conditionerRunning = true)
    (enabled : limitEnabled (s.tables.limitRow n) = true) (qualified : s.limitQualified n = true)
    (undisturbed : ∀ u, limitQualifier (s.tables.limitRow n) = some u → (s.storeResult slot v).safeActive = false ∧
      ∀ k, reflexEnabled (s.tables.reflexRow k) = true →
        reflexAction (s.tables.reflexRow k) u ≠ .coast ∧ reflexAction (s.tables.reflexRow k) u ≠ .brake) :
    (s.storeResult slot v).limits.rows.get n = (s.delivered slot v).limits.rows.get n := by
  have free := h.delivered slot v (U := fun u => limitQualifier (s.tables.limitRow n) = some u)
    (fun u names => (State.settle_safeActive _ _).symm.trans (undisturbed u names).1) (fun u names => (undisturbed u names).2)
    (fun u names => by rw [((State.limitQualified_iff running enabled).mp qualified u names).1]; rfl)
  refine (free.settle s.sources).2.limits n (fun u e => by rwa [State.delivered_tables] at e) ?_
  rw [State.delivered_qualified, State.delivered_limit, ← h.qualified n]
  split
  · unfold LimitRow.receive LimitRow.judge
    dsimp only
    (repeat' split) <;> rfl
  · rfl

/-- A row at a store that ends or begins its qualification (R109). -/
theorem State.Settled.storeResult_requalifies {s : State} (h : s.Settled) (slot : Fin 26) (v : Nat) (n : Fin 16) :
    ((s.storeResult slot v).limitQualified n = false → (s.storeResult slot v).limits.rows.get n = LimitRow.atReset) ∧
    (s.limitQualified n = false → (s.storeResult slot v).limitQualified n = true →
      (s.storeResult slot v).limits.rows.get n = LimitRow.begun (limitStarvation (s.tables.limitRow n))) := by
  have ends := h.storeResult slot v
  refine ⟨fun out => ends.unqualified n out, fun out now => ?_⟩
  have fresh : (s.delivered slot v).limits.rows.get n = LimitRow.atReset := by
    rw [State.delivered_limit, h.unqualified n out]
    exact ite_self _
  have begun := State.settle_begins fresh s.sources ((ends.qualified n).trans now)
  rwa [State.delivered_tables] at begun

/-! ## A boundary up to its drive computations -/

theorem UnitState.held_of_driving {d : UnitState} (h : d.driving = true) : d.held = false := by
  revert h
  cases d <;> decide

/-- The drive computation of a unit that drives leaves it driving. -/
theorem PulseUnit.boundary_driving {x : PulseUnit} (drives : x.state.driving = true) (row : Row) (n : Nat) (w : Bool) (c : Option Nat) :
    (x.boundary row n w c).1.state.driving = true := by
  have applied : x.applyPending.1.state = x.state := by
    obtain ⟨t, f, e⟩ := x.applyPending_frame
    rw [e]
  rw [PulseUnit.boundary_fst, PulseUnit.present_state]
  refine PulseUnit.reckoned_cases (P := fun y => y.state.driving = true) x row n w c (fun silent => ?_) (fun _ => ?_) (fun _ => ?_)
  · cases e : x.state <;> simp_all [UnitState.held, UnitState.driving]
  · unfold PulseUnit.compute PulseUnit.place PulseUnit.rampAndDecide
    dsimp only
    (repeat' split) <;> rfl
  · exact (congrArg UnitState.driving applied).trans drives

section
variable {s : State} (h : s.Settled) (marks : beatMarks s.service.marks = 0)
include h marks

/-- The part before its units are computed is settled, and its course moves no condition. -/
theorem State.Settled.followed_still : s.numbered.swapped.Settled ∧
    s.numbered.swapped.Still (s.numbered.swapped.settle s.sources) := by
  have settled : s.numbered.swapped.Settled := h.numbered.alike (State.Alike.unmarked (s := s.numbered) marks)
  exact ⟨settled, settled.still s.sources⟩

/-- What of the part with its units computed a course looks at: that of the part before, but for the units. -/
theorem State.Settled.driven_conditions : (s.numbered.driven s.sources).Agreeing ∧
    (∀ u, (s.numbered.driven s.sources).holdOf u = s.holdOf u) ∧
    (∀ n, (s.numbered.driven s.sources).limits.rows.get n = (s.limits.rows.get n).counted (limitStarvation (s.tables.limitRow n))) ∧
    (s.numbered.driven s.sources).tables = s.tables ∧
    (∀ u, ((s.numbered.swapped.settle s.sources).units.get u).state = (s.units.get u).state) := by
  obtain ⟨settled, still⟩ := h.followed_still marks
  have unmarked := State.Alike.unmarked (s := s.numbered) marks
  have reflex : (s.numbered.driven s.sources).reflex = (s.numbered.swapped.settle s.sources).reflex := State.computeUnits_reflex _
  have tables : (s.numbered.driven s.sources).tables = s.numbered.swapped.tables := by
    unfold State.tables
    rw [State.driven_service]
  refine ⟨⟨fun _ on => on, fun n enabled on => ?_⟩, fun u => ?_, fun n => ?_, ?_, fun u => ?_⟩
  · rw [tables] at enabled on
    rw [State.driven, State.computeUnits_sourceActive, still.sourceActive] at on
    rw [reflex, still.rows]
    exact settled.active n enabled on
  · have formed : (s.numbered.driven s.sources).holdOf u = (s.numbered.swapped.settle s.sources).holdOf u :=
      State.holdOf_congr (congrArg _ reflex) (by unfold State.safeActive; rw [reflex])
        ((State.driven_service _ _).trans (State.settle_service _ _).symm) u
    rw [formed, still.holdOf, unmarked.holdOf]
    rfl
  · rw [State.driven, State.computeUnits_limits, still.limits, State.swapped_limits, State.unmarked_limits (s := s.numbered) marks,
      State.numbered_limit]
  · rw [tables]
    exact State.unmarked_tables (s := s.numbered) marks
  · rw [(still.units u).1, State.swapped_units, State.unmarked_units (s := s.numbered) marks]
    rfl

/-- A unit that drives is free through a boundary: nothing holds it. -/
theorem State.Settled.driven_free {u : Fin 4} (drives : (s.units.get u).state.driving = true) :
    (s.numbered.driven s.sources).Free (fun n => ((s.numbered.driven s.sources).reflex.rows.get n).active = true) (· = u) := by
  obtain ⟨agreeing, hold, -, -, states⟩ := h.driven_conditions marks
  have unheld := (State.holdOf_none _ u).mp ((hold u).trans (h.unheld drives))
  refine ⟨agreeing, fun w same => ?_, fun w same n on => ?_, fun w same => ?_⟩ <;> rw [same]
  · exact unheld.1
  · exact unheld.2 n on
  · refine UnitState.held_of_driving ?_
    rw [State.driven, State.computeUnits_get]
    exact PulseUnit.boundary_driving (by rw [states]; exact drives) ..

end

/-- A limit row with a qualifier unit at a boundary: its qualification ends, begins or lasts (R109, R110). -/
theorem State.Settled.nextBeat_limit {s : State} (h : s.Settled) (run : s.phase = .run) (marks : beatMarks s.service.marks = 0)
    {n : Fin 16} {u : Fin 4} (enabled : limitEnabled (s.tables.limitRow n) = true) (names : limitQualifier (s.tables.limitRow n) = some u) :
    (s.nextBeat.limitQualified n = false → s.nextBeat.limits.rows.get n = LimitRow.atReset) ∧
    (s.limitQualified n = false → s.nextBeat.limitQualified n = true →
      s.nextBeat.limits.rows.get n = LimitRow.begun (limitStarvation (s.tables.limitRow n))) ∧
    (s.limitQualified n = true → s.nextBeat.limitQualified n = true →
      s.nextBeat.limits.rows.get n = (s.limits.rows.get n).counted (limitStarvation (s.tables.limitRow n))) := by
  have ends := h.nextBeat
  obtain ⟨-, -, rows, tables, -⟩ := h.driven_conditions marks
  have row : s.nextBeat.limits.rows.get n = (s.numbered.decided s.sources).limits.rows.get n := by
    rw [State.nextBeat_frame, State.openBeat_eq, State.openScan_limits]
  refine ⟨fun out => ends.unqualified n out, fun out now => ?_, fun was now => ?_⟩
  · have fresh : (s.numbered.driven s.sources).limits.rows.get n = LimitRow.atReset := by
      rw [rows, h.unqualified n out]
      rfl
    have begun := State.settle_begins fresh (s.numbered.driven s.sources).sources (by
      have qualified := (ends.qualified n).trans now
      rwa [row] at qualified)
    rw [tables] at begun
    exact row.trans begun
  · have running : s.conditionerRunning = true := (State.conditionerRunning_iff s).mpr (.inl run)
    have drives := ((State.limitQualified_iff running enabled).mp was u names).1
    obtain ⟨-, kept⟩ := (h.driven_free marks (u := u) (by rw [drives]; rfl)).settle (s.numbered.driven s.sources).sources
    have unit : s.nextBeat.units.get u = (s.numbered.driven s.sources).units.get u := by
      rw [State.nextBeat_frame, State.openBeat_eq, State.openScan_units]
      exact kept.units u rfl
    have same : (s.numbered.driven s.sources).limitQualified n = true := by
      rw [← now]
      refine State.limitQualified_congr ?_ ?_ fun w e => ?_
      · rw [State.nextBeat_frame]
        simp
      · rw [tables, State.nextBeat_frame]
        exact (State.openBeat_unmarked s.numbered s.sources marks).symm
      · rw [State.nextBeat_frame] at e
        have same : w = u := by
          have tables' : (s.numbered.openBeat s.sources).tables = s.tables := State.openBeat_unmarked s.numbered s.sources marks
          rw [show ({ s.numbered.openBeat s.sources with due := s.nextBeat.due } : State).tables = s.tables from tables', names] at e
          exact (Option.some.inj e).symm
        rw [same, unit]
    rw [row, ← rows n]
    refine kept.limits n (fun w e => ?_) ?_
    · rw [tables, names] at e
      exact (Option.some.inj e).symm
    · rw [rows, same]
      exact (h.qualified n).trans was

/-- Settles O38. -/
theorem limitRowCountsRuns : Obligations.LimitRowCountsRuns := by
  constructor
  · intro s slot v n settled running row x t y z qualifies undisturbed enabled
    have runs : t.conditionerRunning = true := by
      unfold State.conditionerRunning at running ⊢
      rwa [show t.phase = s.phase from (State.settle_phase _ _).trans (s.delivered_phase slot v)]
    have tables : t.tables = s.tables := (congrArg (·.active) (State.settle_service _ _)).trans (s.delivered_tables slot v)
    have before : s.limitQualified n = true ↔ qualifies s := State.limitQualified_iff running enabled
    have after : t.limitQualified n = true ↔ qualifies t := by
      have iff := State.limitQualified_iff (s := t) (n := n) runs (by rw [tables]; exact enabled)
      rwa [tables] at iff
    obtain ⟨ends, begins⟩ := settled.storeResult_requalifies slot v n
    have lasts (was : qualifies s) (calm : undisturbed) : y = (s.delivered slot v).limits.rows.get n :=
      settled.storeResult_limit running enabled (before.mpr was) calm
    refine ⟨fun out => ends (by rwa [← after, Bool.not_eq_true] at out), fun out now => begins (by rwa [← before, Bool.not_eq_true] at out)
      (after.mpr now), fun was calm other => ?_, fun was calm watches => ?_⟩
    · rw [lasts was calm, State.delivered_limit, if_neg other]
    · have qualified : z.qualified = true := (settled.qualified n).trans (before.mpr was)
      have received : x.receive row v = z.judge row (judgeResult row v) := if_pos qualified
      have judged : y = (z.judge row (judgeResult row v)).1 := by
        rw [lasts was calm, State.delivered_limit, if_pos watches, ← received]
      obtain ⟨trips, counts, falls, releases, counts', falls'⟩ := z.judge_cases row (judgeResult row v)
      rw [judged]
      exact ⟨fun off is reached => ⟨by rw [trips off is reached],
        State.storeResult_trips watches (by rw [show _ = _ from received, trips off is reached])⟩, counts, falls, releases, counts', falls'⟩
  · intro s n u settled run marks row x qualifies enabled names
    obtain ⟨d, r, q, runs⟩ := exec_boundary run
    refine ⟨_, runs, ?_⟩
    generalize same : ({ s with due := d, beat := { s.beat with restart := r }, scan := q } : State) = w
    have settled' : w.Settled := by rw [← same]; exact settled.blocks rfl rfl rfl rfl rfl rfl rfl
    have marks' : beatMarks w.service.marks = 0 := by rw [← same]; exact marks
    have phase : w.phase = .run := by rw [← same]; exact run
    have tables : w.tables = s.tables := by rw [← same]; rfl
    have rows : w.limits.rows.get n = x := by rw [← same]
    have after : w.nextBeat.phase = .run ∧ w.nextBeat.tables = s.tables := by
      rw [State.nextBeat_frame, ← tables]
      exact ⟨(State.openBeat_phase _ _).trans phase, State.openBeat_unmarked w.numbered w.sources marks'⟩
    have qualified {v : State} (phase : v.phase = .run) (tables : v.tables = s.tables) : v.limitQualified n = true ↔ qualifies v := by
      rw [State.limitQualified_iff ((State.conditionerRunning_iff v).mpr (.inl phase)) (by rw [tables]; exact enabled), tables, names]
      exact ⟨fun all => all u rfl, fun at_ _ e => Option.some.inj e ▸ at_⟩
    have before : w.limitQualified n = true ↔ qualifies s := by
      rw [qualified phase tables, ← same]
    obtain ⟨ends, begins, lasts⟩ := settled'.nextBeat_limit phase marks' (n := n) (u := u) (by rw [tables]; exact enabled)
      (by rw [tables]; exact names)
    rw [tables] at begins lasts
    rw [rows] at lasts
    refine ⟨fun out => ends ?_, fun out now => begins ?_ ((qualified after.1 after.2).mpr now),
      fun was now => lasts (before.mpr was) ((qualified after.1 after.2).mpr now)⟩
    · rwa [← qualified after.1 after.2, Bool.not_eq_true] at out
    · rwa [← before, Bool.not_eq_true] at out

end Sys2Proof.Machine
end

section
/-! The units at a natural boundary at which no table is swapped (R24 to R29, R38 to R48, R50). -/

namespace Sys2Proof.Machine

/-! ## A pending setpoint (R24) -/

/-- The target a unit has for the beat, before it is clamped: the pending one, else its own. -/
def PulseUnit.rawTarget (x : PulseUnit) : Int :=
  match x.pending with
  | some sp => sp.target.toInt
  | none => x.target

/-- The target a unit takes into the beat (R24). -/
def PulseUnit.nextTarget (x : PulseUnit) : Int :=
  match x.pending with
  | some _ => if x.rawTarget < 0 ∧ x.kind = .unidir then 0 else max (-1000) (min x.rawTarget 1000)
  | none => x.target

/-- The stop flag a unit takes into the beat (R24). -/
def PulseUnit.nextFlag (x : PulseUnit) : Bool :=
  match x.pending with
  | some sp => sp.flags.getLsbD 0
  | none => x.stopFlag

theorem clampTarget_eq (kind : Kind) (t : Int) :
    clampTarget kind t = if t < 0 ∧ kind = .unidir then 0 else max (-1000) (min t 1000) := by
  unfold clampTarget
  cases kind <;> simp only [reduceCtorEq, if_true, if_false, and_true, and_false, true_and, false_and] <;> (repeat' split) <;> omega

theorem PulseUnit.applyPending_eq (x : PulseUnit) :
    x.applyPending.1 = { x with target := x.nextTarget, stopFlag := x.nextFlag, pending := none } ∧
      x.applyPending.2 = decide (x.nextTarget ≠ x.rawTarget) := by
  unfold PulseUnit.applyPending PulseUnit.nextTarget PulseUnit.nextFlag PulseUnit.rawTarget
  cases e : x.pending with
  | none => exact ⟨by simp only; rw [← e], by simp⟩
  | some sp => simp only [clampTarget_eq, true_and]

/-! ## Ramp and decision (R25 to R29) -/

/-- A nonzero demand after the ramp gives memory and count direction its direction, and keeps or brings RUN. -/
theorem PulseUnit.rampAndDecide_moves {v : PulseUnit} {row : Row}
    (moves : rampStep (unitRampStep row) v.target v.demand v.dirMemory ≠ 0) :
    v.rampAndDecide row = { v with
      state := .run
      demand := rampStep (unitRampStep row) v.target v.demand v.dirMemory
      dirMemory := some (dirOf (rampStep (unitRampStep row) v.target v.demand v.dirMemory))
      countDir := dirOf (rampStep (unitRampStep row) v.target v.demand v.dirMemory)
      zeroCount := none } := if_pos moves

/-- A demand of 0 after the ramp: the memory of R26 decides between PAUSE, BRAKE and RUN (R27, R29). -/
theorem PulseUnit.rampAndDecide_rests {v : PulseUnit} {row : Row}
    (rests : rampStep (unitRampStep row) v.target v.demand v.dirMemory = 0) :
    let m := v.memoryAfterZero row
    let braking := v.demand ≠ 0 ∧ v.target = 0 ∧ v.stopFlag = true ∧ 0 < unitBrakeTime row
    v.rampAndDecide row = { m with
      demand := 0
      state := if opposes v.target m.dirMemory then .pause else if braking then .brake else .run
      brakeCount := if braking then .waiting (unitBrakeTime row) else v.brakeCount } := by
  have unopposed (zero : v.target = 0) : opposes v.target (v.memoryAfterZero row).dirMemory = false := by
    rw [zero]
    unfold opposes
    split <;> rfl
  unfold PulseUnit.rampAndDecide
  dsimp only
  rw [rests, if_neg (by simp), ← PulseUnit.memoryAfterZero_brakeCount v row]
  by_cases opposed : opposes v.target (v.memoryAfterZero row).dirMemory = true
  · have rolling : ¬(v.demand ≠ 0 ∧ v.target = 0 ∧ v.stopFlag = true ∧ 0 < unitBrakeTime row) := fun h => by
      rw [unopposed h.2.1] at opposed
      nomatch opposed
    rw [if_pos opposed, if_pos opposed, if_neg rolling]
  · rw [if_neg opposed, if_neg opposed]
    split <;> rfl

/-! ## The pulse of the beat (R42 to R48, R16) -/

theorem capFor_eq (live : Bool) (thermal : Nat) (cap : Option Nat) : capFor live thermal cap =
    min (if live then min 1000 thermal else 1000) (match cap with | some c => c | none => 1000) := by
  unfold capFor
  cases cap with
  | some c => rfl
  | none =>
    dsimp only
    split <;> omega

theorem onTimeFor_eq (row : Row) (a : Int) (length : Nat) : onTimeFor row a length =
    if (if length ≤ unitMinOff row then 0 else min ((a.natAbs * length + 500) / 1000) (length - unitMinOff row)) < unitMinOn row then 0
    else if length ≤ unitMinOff row then 0 else min ((a.natAbs * length + 500) / 1000) (length - unitMinOff row) := by
  unfold onTimeFor clampMinOn clampMinOff roundedOnTime
  split
  · rfl
  · have least : (if length - unitMinOff row < (a.natAbs * length + 500) / 1000 then length - unitMinOff row
        else (a.natAbs * length + 500) / 1000) = min ((a.natAbs * length + 500) / 1000) (length - unitMinOff row) := by
      split <;> omega
    rw [least]

/-- Position 0 lies in an on-time that the beat has room for, as R47 says it. -/
theorem inOnTime_zero (row : Row) (a : Int) (length : Nat) :
    inOnTime (placement row length) (onTimeFor row a length) length 0 = true ↔
      (0 - min (unitPhaseOffset row : Int) (length - 1)) % (length : Int) < onTimeFor row a length := by
  rcases Nat.eq_zero_or_pos length with none | some
  · have empty : onTimeFor row a length = 0 := by rw [onTimeFor_eq, none]; simp
    rw [empty, none]
    simp only [inOnTime, Nat.mod_zero, decide_eq_true_eq]
    omega
  · exact inOnTime_iff row _ length 0 some

theorem dir_of_duty (a : Int) (d : Dir) : (if a = 0 then d else dirOf a) = if 0 < a then .fwd else if a < 0 then .rev else d := by
  unfold dirOf
  (repeat' split) <;> first | rfl | omega

/-- A unit in RUN, or one that rests without a demand, opens its beat as R42 to R48 place the pulse, whatever its level and memory. -/
theorem PulseUnit.place_opens {v x : PulseUnit} (row : Row) (length : Nat) (live : Bool) (cap : Option Nat)
    (drive : v.drive = x.drive) (lines : v.lines = x.lines) (dead : v.dead = x.dead) (level : v.foldLevel = x.foldLevel)
    (dir : v.driveDir = x.driveDir) (rests : v.state = .run ∨ (v.demand = 0 ∧ (v.state = .pause ∨ ∃ k, v.state = .brake ∧ v.brakeCount = .waiting k))) :
    PulseUnit.OpensPulse x ((v.place row length live cap).present ((v.place row length live cap).driveAt row length 0)) row length
      (capFor live (unitThermalCap row) cap) := by
  generalize placed : v.place row length live cap = z
  have applied : z.applied = appliedDuty (foldedDemand v.demand x.foldLevel) (capFor live (unitThermalCap row) cap) := by
    rw [← placed, ← level]
    rfl
  have demand : z.demand = v.demand := by rw [← placed]; rfl
  have onTime : z.onTime = onTimeFor row z.applied length := by rw [← placed]; rfl
  have driveDir : z.driveDir = if z.applied = 0 then x.driveDir else dirOf z.applied := by rw [← placed, ← dir]; rfl
  have before : z.drive = x.drive ∧ z.lines = x.lines ∧ z.dead = x.dead := by rw [← placed]; exact ⟨drive, lines, dead⟩
  have called : z.driveAt row length 0 = if inOnTime (placement row length) z.onTime length 0 then z.driveDir.drive else offTimeDrive row := by
    have state : z.state = v.state ∧ z.brakeCount = v.brakeCount := by rw [← placed]; exact ⟨rfl, rfl⟩
    unfold PulseUnit.driveAt
    rw [state.1, state.2]
    rcases rests with run | ⟨still, idle⟩
    · rw [run]
    · have never : inOnTime (placement row length) z.onTime length 0 = false := by
        rw [onTime, applied, still]
        simp [foldedDemand, appliedDuty, inOnTime]
      rw [never]
      rcases idle with pause | ⟨k, brake, waiting⟩
      · rw [pause]; rfl
      · rw [brake, waiting]; rfl
  unfold PulseUnit.OpensPulse
  simp only [PulseUnit.present_applied, PulseUnit.present_demand, PulseUnit.present_onTime, PulseUnit.present_driveDir,
    PulseUnit.present_drive]
  refine ⟨by rw [applied, demand]; rfl, ?_, ?_, ?_, fun same => ?_, fun turns => ?_⟩
  · rw [onTime, applied, demand]
    exact onTimeFor_eq ..
  · rw [driveDir, dir_of_duty, applied, ← demand]
    rfl
  · rw [called, onTime, if_congr (inOnTime_zero row z.applied length) (Dir.drive_eq _) rfl, onTimeFor_eq, applied,
      ← demand]
    rfl
  · rw [PulseUnit.present_same z _ (before.1.trans same)]
    exact ⟨before.2.1, before.2.2⟩
  · have differs : z.drive ≠ z.driveAt row length 0 := fun same => turns (before.1.symm.trans same)
    rw [PulseUnit.present_lines z _ differs, PulseUnit.present_dead z _ differs, before.2.1]
    exact ⟨rfl, rfl⟩

/-- Ramp and decision leave what the pulse is placed from but for the demand; a unit they do not leave in RUN rests. -/
theorem PulseUnit.rampAndDecide_frame (v : PulseUnit) (row : Row) :
    ((v.rampAndDecide row).drive = v.drive ∧ (v.rampAndDecide row).lines = v.lines ∧ (v.rampAndDecide row).dead = v.dead) ∧
    ((v.rampAndDecide row).foldLevel = v.foldLevel ∧ (v.rampAndDecide row).driveDir = v.driveDir ∧ (v.rampAndDecide row).kind = v.kind) ∧
    ((v.rampAndDecide row).target = v.target ∧ (v.rampAndDecide row).stopFlag = v.stopFlag ∧
      (v.rampAndDecide row).pending = v.pending) ∧
    ((v.rampAndDecide row).state = .run ∨ ((v.rampAndDecide row).demand = 0 ∧ ((v.rampAndDecide row).state = .pause ∨
      ∃ k, (v.rampAndDecide row).state = .brake ∧ (v.rampAndDecide row).brakeCount = .waiting k))) := by
  unfold PulseUnit.rampAndDecide
  dsimp only
  (repeat' split) <;> simp

/-- The pulse of a unit that computes (R42 to R48). -/
theorem PulseUnit.compute_opens (v : PulseUnit) (row : Row) (length : Nat) (live : Bool) (cap : Option Nat) :
    PulseUnit.OpensPulse v ((v.compute row length live cap).present ((v.compute row length live cap).driveAt row length 0)) row length
      (capFor live (unitThermalCap row) cap) := by
  obtain ⟨⟨drive, lines, dead⟩, ⟨level, dir, -⟩, -, rests⟩ := v.rampAndDecide_frame row
  exact PulseUnit.place_opens row length live cap drive lines dead level dir rests

/-! ## A unit through a boundary -/

section
variable {s : State} (h : s.Settled) (gates : ∀ u, (s.units.get u).GatesSound) (marks : beatMarks s.service.marks = 0)
include h gates marks

/-- The part before its units are computed has the units, UNIT rows, length, warning and caps that R24 to R48 name. -/
theorem State.Settled.before_driven : s.numbered.swapped.settle s.sources = s.numbered.swapped ∧ s.numbered.swapped.units = s.units ∧
    ∀ u, (s.units.get u).boundary (s.numbered.swapped.tables.unitRow u) s.numbered.swapped.beat.length s.numbered.swapped.limits.warnLive
        (s.numbered.swapped.reflex.cap.get u) =
      (s.units.get u).boundary (s.tables.unitRow u) (beatLength s.tables.beatRow) s.limits.warnLive (s.capOf u) := by
  have unmarked := State.Alike.unmarked (s := s.numbered) marks
  have units : s.numbered.swapped.units = s.units := (State.swapped_units _).trans (State.unmarked_units (s := s.numbered) marks)
  have tables : s.numbered.swapped.tables = s.tables := State.unmarked_tables (s := s.numbered) marks
  have sources : s.sources = s.numbered.swapped.sources := Bank.ext_get fun i => by
    rw [State.sources_get, State.sources_get, unmarked.sourceActive, State.numbered_sourceActive]
  have length : s.numbered.swapped.beat.length = beatLength s.tables.beatRow := by rw [← tables]; rfl
  have live : s.numbered.swapped.limits.warnLive = s.limits.warnLive := by
    rw [State.swapped_limits, State.unmarked_limits (s := s.numbered) marks]
    rfl
  have cap (u : Fin 4) : s.numbered.swapped.reflex.cap.get u = s.capOf u := by
    rw [State.swapped_reflex, State.unmarked_reflex (s := s.numbered) marks]
    exact h.holds.capped u
  refine ⟨?_, units, fun u => by rw [tables, length, live, cap]⟩
  rw [sources]
  exact State.settle_same _ (h.followed_still marks).1 (by rw [units]; exact gates)

/-- A unit whose boundary has been computed, before what its new state decides (R24 to R48). -/
theorem State.Settled.driven_unit (u : Fin 4) : (s.numbered.driven s.sources).units.get u =
    ((s.units.get u).boundary (s.tables.unitRow u) (beatLength s.tables.beatRow) s.limits.warnLive (s.capOf u)).1 := by
  obtain ⟨still, units, boundary⟩ := h.before_driven gates marks
  rw [State.driven, still, State.computeUnits_get, units, boundary]

/-- A unit that drives ends a boundary as it has computed it. -/
theorem State.Settled.nextBeat_driving {u : Fin 4} (drives : (s.units.get u).state.driving = true) : s.nextBeat.units.get u =
    ((s.units.get u).boundary (s.tables.unitRow u) (beatLength s.tables.beatRow) s.limits.warnLive (s.capOf u)).1 := by
  rw [← h.driven_unit gates marks u, State.nextBeat_frame, State.openBeat_eq, State.openScan_units]
  exact ((h.driven_free marks drives).settle _).2.units u rfl

/-- A setpoint that was clamped sets SETPOINT_CLAMPED (R24). -/
theorem State.Settled.nextBeat_clamped {u : Fin 4} (clamped : ((s.units.get u).boundary (s.tables.unitRow u) (beatLength s.tables.beatRow)
    s.limits.warnLive (s.capOf u)).2 = true) : s.nextBeat.status.events.getLsbD 12 = true := by
  obtain ⟨still, units, boundary⟩ := h.before_driven gates marks
  have latched : (s.numbered.driven s.sources).status.events.getLsbD 12 = true := by
    rw [State.driven, still, State.computeUnits]
    refine (State.latchIf_self _ _ .setpointClamped).trans ?_
    rw [Bool.or_eq_true]
    exact .inr (List.any_eq_true.mpr ⟨u, List.mem_finRange u, by
      rw [units]
      exact (congrArg Prod.snd (boundary u)).trans clamped⟩)
  have kept := ((State.Latched.refl (s.numbered.driven s.sources)).settle (s.numbered.driven s.sources).sources).openScan.events 12 latched
  rw [State.nextBeat_frame, State.openBeat_eq]
  exact kept

end

/-- What a unit in RUN, or one that leaves PAUSE, has of the ramp (R25 to R29). -/
theorem PulseUnit.compute_ramp (v : PulseUnit) (row : Row) (length : Nat) (live : Bool) (cap : Option Nat) :
    let y := (v.compute row length live cap).present ((v.compute row length live cap).driveAt row length 0)
    let D := rampStep (unitRampStep row) v.target v.demand v.dirMemory
    let arrives := decide (v.demand ≠ 0 ∧ D = 0)
    let memory : Option Dir := if D ≠ 0 then some (dirOf D) else if arrives ∧ unitReversalPause row = 0 then none else v.dirMemory
    let braking := arrives ∧ v.target = 0 ∧ v.stopFlag ∧ 0 < unitBrakeTime row
    y.demand = D ∧ y.dirMemory = memory ∧
    (D ≠ 0 → y.state = .run ∧ y.countDir = dirOf D ∧ y.zeroCount = none ∧ y.brakeCount = v.brakeCount) ∧
    (D = 0 → y.countDir = v.countDir ∧
      y.state = (if (memory = some .fwd ∧ v.target < 0) ∨ (memory = some .rev ∧ 0 < v.target) then .pause
        else if braking then .brake else .run) ∧
      y.zeroCount = (if arrives ∧ unitReversalPause row = 0 then none else v.zeroCount) ∧
      y.brakeCount = (if braking then .waiting (unitBrakeTime row) else v.brakeCount)) := by
  intro y D arrives memory braking
  by_cases rests : D = 0
  · have ramp := PulseUnit.rampAndDecide_rests (v := v) (row := row) rests
    have arrived : arrives = true ↔ v.demand ≠ 0 := decide_eq_true_iff.trans (and_iff_left rests)
    have zeroed : v.memoryAfterZero row =
        if arrives ∧ unitReversalPause row = 0 then { v with dirMemory := none, zeroCount := none } else v := by
      unfold PulseUnit.memoryAfterZero
      exact if_congr (and_congr_left fun _ => arrived.symm) rfl rfl
    have remembered : (v.memoryAfterZero row).dirMemory = memory := by
      have resting : memory = if arrives ∧ unitReversalPause row = 0 then none else v.dirMemory := if_neg fun moves => moves rests
      rw [zeroed, resting]
      split <;> rfl
    have counted : (v.memoryAfterZero row).zeroCount = if arrives ∧ unitReversalPause row = 0 then none else v.zeroCount := by
      rw [zeroed]
      split <;> rfl
    have brakes : braking ↔ v.demand ≠ 0 ∧ v.target = 0 ∧ v.stopFlag = true ∧ 0 < unitBrakeTime row := and_congr_left fun _ => arrived
    dsimp only at ramp
    rw [← if_congr brakes rfl rfl, ← if_congr brakes rfl rfl, remembered] at ramp
    refine ⟨?_, ?_, fun moves => absurd rests moves, fun _ => ⟨?_, ?_, ?_, ?_⟩⟩
    all_goals simp only [y, PulseUnit.present_demand, PulseUnit.present_dirMemory, PulseUnit.present_countDir, PulseUnit.present_state,
      PulseUnit.present_zeroCount, PulseUnit.present_brakeCount, PulseUnit.compute, PulseUnit.place, ramp]
    · exact rests.symm
    · exact PulseUnit.memoryAfterZero_countDir v row
    · exact if_congr (opposes_iff _ _) rfl rfl
    · exact counted
  · have ramp := PulseUnit.rampAndDecide_moves (v := v) (row := row) rests
    refine ⟨?_, ?_, fun _ => ⟨?_, ?_, ?_, ?_⟩, fun zero => absurd zero rests⟩
    all_goals simp only [y, PulseUnit.present_demand, PulseUnit.present_dirMemory, PulseUnit.present_countDir, PulseUnit.present_state,
      PulseUnit.present_zeroCount, PulseUnit.present_brakeCount, PulseUnit.compute, PulseUnit.place, ramp]
    · rfl
    · exact (if_pos rests).symm
    · rfl

/-- A unit in RUN, or one whose pause is over, computes its beat (R28, R38). -/
theorem PulseUnit.boundary_computes {x : PulseUnit} (computes : x.state = .run ∨ (x.state = .pause ∧ x.applyPending.1.pauseOver = true))
    (row : Row) (n : Nat) (w : Bool) (c : Option Nat) : x.boundary row n w c =
      ((x.applyPending.1.compute row n w c).present ((x.applyPending.1.compute row n w c).driveAt row n 0), x.applyPending.2) := by
  unfold PulseUnit.boundary
  rcases computes with run | ⟨pause, over_⟩
  · rw [run]
  · rw [pause]
    dsimp only
    rw [if_pos over_]

/-- A unit that stays in PAUSE or BRAKE drives nothing in the beat (R28, R30). -/
theorem PulseUnit.boundary_idles {x : PulseUnit} (idles : x.state = .brake ∨ (x.state = .pause ∧ x.applyPending.1.pauseOver = false))
    (row : Row) (n : Nat) (w : Bool) (c : Option Nat) : x.boundary row n w c =
      (x.applyPending.1.idleBeat.present (x.applyPending.1.idleBeat.driveAt row n 0), x.applyPending.2) := by
  unfold PulseUnit.boundary PulseUnit.idleBeat
  rcases idles with brake | ⟨pause, stays⟩
  · rw [brake]
  · rw [pause]
    dsimp only
    rw [stays]
    rfl

theorem PulseUnit.compute_frame (v : PulseUnit) (row : Row) (n : Nat) (w : Bool) (c : Option Nat) (d : Drive) :
    let y := (v.compute row n w c).present d
    y.target = v.target ∧ y.stopFlag = v.stopFlag ∧ y.pending = v.pending ∧ y.foldLevel = v.foldLevel ∧ y.kind = v.kind := by
  obtain ⟨-, ⟨level, -, kind⟩, ⟨target, flags, pending⟩, -⟩ := v.rampAndDecide_frame row
  simp only [PulseUnit.present_target, PulseUnit.present_stopFlag, PulseUnit.present_pending, PulseUnit.present_foldLevel,
    PulseUnit.present_kind]
  exact ⟨target, flags, pending, level, kind⟩

/-- Settles O17. -/
theorem runUnitComputesItsBeat : Obligations.RunUnitComputesItsBeat := by
  intro s u settled gates run marks state
  obtain ⟨d, r, q, runs⟩ := exec_boundary run
  intro x row raw T flag D arrives memory opposed braking cap
  refine ⟨_, runs, ?_⟩
  have settled' : ({ s with due := d, beat := { s.beat with restart := r }, scan := q } : State).Settled :=
    settled.blocks rfl rfl rfl rfl rfl rfl rfl
  have unit := settled'.nextBeat_driving gates marks (u := u) (by rw [show _ = UnitState.run from state]; rfl)
  have clamped := settled'.nextBeat_clamped gates marks (u := u)
  obtain ⟨applied, flagged⟩ := x.applyPending_eq
  rw [PulseUnit.boundary_computes (.inl state)] at unit clamped
  obtain ⟨demand, remembers, moves, rests⟩ := x.applyPending.1.compute_ramp row (beatLength s.tables.beatRow) s.limits.warnLive (s.capOf u)
  have opens := x.applyPending.1.compute_opens row (beatLength s.tables.beatRow) s.limits.warnLive (s.capOf u)
  obtain ⟨target, flags, pending, level, kind⟩ := x.applyPending.1.compute_frame row (beatLength s.tables.beatRow) s.limits.warnLive
    (s.capOf u) ((x.applyPending.1.compute row (beatLength s.tables.beatRow) s.limits.warnLive (s.capOf u)).driveAt row
      (beatLength s.tables.beatRow) 0)
  rw [capFor_eq] at opens
  generalize State.nextBeat _ = t at unit clamped ⊢
  have unit' : t.units.get u = (x.applyPending.1.compute row (beatLength s.tables.beatRow) s.limits.warnLive (s.capOf u)).present
    ((x.applyPending.1.compute row (beatLength s.tables.beatRow) s.limits.warnLive (s.capOf u)).driveAt row
      (beatLength s.tables.beatRow) 0) := unit
  rw [← unit', applied] at demand remembers moves rests opens target flags pending level kind
  refine ⟨target, flags, pending, demand, remembers, fun m => ?_, rests, opens, level, kind, fun cut => clamped ?_⟩
  · obtain ⟨state, dir, zero, -⟩ := moves m
    exact ⟨state, dir, zero⟩
  · exact flagged.trans (decide_eq_true cut)

end Sys2Proof.Machine
end

section
/-! Units that do not compute at a boundary (R24, R28, R30, R34, R35, R50). -/

namespace Sys2Proof.Machine

/-- What an idle beat and its drive state leave of a unit. -/
theorem PulseUnit.idleBeat_frame (v : PulseUnit) (d : Drive) :
    let y := v.idleBeat.present d
    (y.demand = 0 ∧ y.applied = 0 ∧ y.onTime = 0) ∧ y.state = v.state ∧ y.target = v.target ∧ y.stopFlag = v.stopFlag ∧
    y.pending = v.pending ∧ y.kind = v.kind ∧ y.foldLevel = v.foldLevel ∧ y.dirMemory = v.dirMemory ∧ y.brakeCount = v.brakeCount := by
  simp [PulseUnit.idleBeat]

/-- What a unit HELD at a boundary keeps of `x` through the course that follows, held or released (R34, R35, R50). -/
structure PulseUnit.StillOrFreed (x y : PulseUnit) (unheld : Prop) : Prop where
  still : y.demand = 0 ∧ y.applied = 0 ∧ y.onTime = 0
  memory : y.dirMemory = x.dirMemory
  frame : y.pending = none ∧ y.kind = x.kind ∧ y.foldLevel = x.foldLevel
  state : (y.state.held = true ∧ y.target = x.target ∧ y.stopFlag = x.stopFlag) ∨ (y.state = .run ∧ y.target = 0 ∧ unheld)

/-- A hold action delivered to a unit so kept; one released is reached by none afterwards. -/
theorem PulseUnit.StillOrFreed.deliver {x y : PulseUnit} {p : Prop} (k : PulseUnit.StillOrFreed x y p) (row : Row) (h : Hold)
    (stays : p → h = .none) : PulseUnit.StillOrFreed x (y.deliverHold row h) (h = .none) := by
  obtain ⟨still, memory, frame, state⟩ := k
  rcases state with ⟨held, target, flag⟩ | ⟨run, target, free⟩
  · by_cases none : h = .none
    · subst none
      have left : y.deliverHold row .none = y.leaveHeld row := by
        unfold PulseUnit.deliverHold
        cases e : y.state <;> simp_all [UnitState.held]
      rw [left]
      refine ⟨?_, ?_, ?_, .inr ⟨?_, ?_, rfl⟩⟩ <;> simp [still, memory, frame]
    · rw [PulseUnit.deliverHold_held held row none]
      refine ⟨?_, ?_, ?_, .inl ⟨?_, ?_, ?_⟩⟩
      · simpa [PulseUnit.heldAs] using still
      · simpa [PulseUnit.heldAs] using memory
      · simpa [PulseUnit.heldAs] using frame
      · rw [PulseUnit.heldAs_state]
        exact h.heldState_held
      · simpa [PulseUnit.heldAs] using target
      · simpa [PulseUnit.heldAs] using flag
  · rw [stays free, PulseUnit.deliverHold_run y row run]
    exact ⟨still, memory, frame, .inr ⟨run, target, rfl⟩⟩

section
variable {s : State} (h : s.Settled) (gates : ∀ u, (s.units.get u).GatesSound) (marks : beatMarks s.service.marks = 0)
include h gates marks

/-- A unit HELD through a boundary: it drives nothing, and is held still or released (R34, R35, R50). -/
theorem State.Settled.nextBeat_held {u : Fin 4} (held : (s.units.get u).state.held = true) :
    PulseUnit.StillOrFreed (s.units.get u) (s.nextBeat.units.get u) True := by
  have driven : PulseUnit.StillOrFreed (s.units.get u) ((s.numbered.driven s.sources).units.get u)
      ((s.numbered.driven s.sources).holdOf u = .none) := by
    rw [h.driven_unit gates marks u, PulseUnit.boundary_fst, PulseUnit.reckoned_silent (.inr held)]
    obtain ⟨still, state, target, flag, pending, kind, level, memory, -⟩ :=
      PulseUnit.idleBeat_frame { s.units.get u with pending := none } (({ s.units.get u with pending := none } : PulseUnit).idleBeat.driveAt
        (s.tables.unitRow u) (beatLength s.tables.beatRow) 0)
    exact ⟨still, memory, ⟨pending, kind, level⟩, .inl ⟨by rw [state]; exact held, target, flag⟩⟩
  have after := State.settle_quiet_induct
    (fun t => PulseUnit.StillOrFreed (s.units.get u) (t.units.get u) (t.holdOf u = .none))
    (fun t b quiet k => by
      rw [State.settleRound_units_get]
      exact k.deliver _ _ fun free => State.settleRound_unheld t b quiet u free)
    (s.numbered.driven s.sources) (s.numbered.driven s.sources).sources (fun i on => (State.sources_get _ i).trans on) driven
  obtain ⟨still, memory, frame, state⟩ := after
  rw [State.nextBeat_frame, State.openBeat_eq, State.openScan_units]
  exact ⟨still, memory, frame, state.imp id fun ⟨run, target, _⟩ => ⟨run, target, trivial⟩⟩

/-- A unit in OFF through a boundary. -/
theorem State.Settled.nextBeat_silent {u : Fin 4} (off : (s.units.get u).state = .off) : s.nextBeat.units.get u =
    ({ s.units.get u with pending := none } : PulseUnit).idleBeat.present
      (({ s.units.get u with pending := none } : PulseUnit).idleBeat.driveAt (s.tables.unitRow u) (beatLength s.tables.beatRow) 0) := by
  have driven : (s.numbered.driven s.sources).units.get u = _ := h.driven_unit gates marks u
  rw [PulseUnit.boundary_fst, PulseUnit.reckoned_silent (.inl off)] at driven
  rw [State.nextBeat_frame, State.openBeat_eq, State.openScan_units, ← driven]
  refine (State.settle_course _ _).off u ?_
  rw [driven, PulseUnit.present_state]
  exact off

end

/-- A unit in PAUSE is over it where its target does not oppose its memory (R28). -/
theorem PulseUnit.pauseOver_iff (v : PulseUnit) : v.pauseOver = false ↔
    (v.dirMemory = some .fwd ∧ v.target < 0) ∨ (v.dirMemory = some .rev ∧ 0 < v.target) := by
  unfold PulseUnit.pauseOver
  rw [Bool.not_eq_false', opposes_iff]

/-- Settles O18. -/
theorem idleUnitsAtBoundary : Obligations.IdleUnitsAtBoundary := by
  intro s u settled gates run marks others
  obtain ⟨d, r, q, runs⟩ := exec_boundary run
  intro x raw T flag opposed
  refine ⟨_, runs, ?_⟩
  have settled' : ({ s with due := d, beat := { s.beat with restart := r }, scan := q } : State).Settled :=
    settled.blocks rfl rfl rfl rfl rfl rfl rfl
  have driving := settled'.nextBeat_driving gates marks (u := u)
  have clamped := settled'.nextBeat_clamped gates marks (u := u)
  have held := settled'.nextBeat_held gates marks (u := u)
  have silent := settled'.nextBeat_silent gates marks (u := u)
  obtain ⟨applied, flagged⟩ := x.applyPending_eq
  generalize State.nextBeat _ = t at driving clamped held silent ⊢
  intro y
  by_cases on : x.state.held = true
  · obtain ⟨still, memory, ⟨pending, kind, level⟩, after⟩ := held on
    have not {d : UnitState} (unheld : d.held = false) (is : x.state = d) : False := by
      rw [is, unheld] at on
      nomatch on
    refine ⟨pending, kind, level, fun is => (not rfl is).elim, fun _ => after.imp And.left fun ⟨run, target, _⟩ => ⟨run, target⟩,
      fun _ => ⟨still.1, still.2.1, still.2.2, memory⟩, fun _ same => ?_, fun is => (not rfl is).elim, fun is => (not rfl is).elim,
      fun is => (not rfl is).elim, fun is => (is.elim (not rfl) (not rfl)).elim⟩
    rcases after with ⟨-, target, flags⟩ | ⟨run, -⟩
    · exact ⟨target, flags⟩
    · exact (not rfl (same.symm.trans run)).elim
  have boundary (drives : x.state.driving = true) := driving drives
  cases state : x.state with
  | heldCoast => exact absurd (by rw [state]; rfl) on
  | heldBrake => exact absurd (by rw [state]; rfl) on
  | run => exact absurd state others
  | off =>
    obtain ⟨still, same, target, flags, pending, kind, level, -⟩ := PulseUnit.idleBeat_frame { x with pending := none }
      (({ x with pending := none } : PulseUnit).idleBeat.driveAt (s.tables.unitRow u) (beatLength s.tables.beatRow) 0)
    have is : y = _ := silent state
    refine ⟨?_, ?_, ?_, fun _ => ⟨?_, ?_, ?_, ?_, ?_, ?_⟩, nofun, nofun, nofun, nofun, nofun, nofun, nofun⟩ <;> rw [is]
    · exact pending
    · exact kind
    · exact level
    · exact same.trans state
    · exact still.1
    · exact still.2.1
    · exact still.2.2
    · exact target
    · exact flags
  | brake =>
    have idles := PulseUnit.boundary_idles (.inl state) (s.tables.unitRow u) (beatLength s.tables.beatRow) s.limits.warnLive (s.capOf u)
    have is : y = x.applyPending.1.idleBeat.present
        (x.applyPending.1.idleBeat.driveAt (s.tables.unitRow u) (beatLength s.tables.beatRow) 0) :=
      (boundary (by rw [state]; rfl)).trans (congrArg Prod.fst idles)
    obtain ⟨still, same, target, flags, pending, kind, level, -, count⟩ := x.applyPending.1.idleBeat_frame
      (x.applyPending.1.idleBeat.driveAt (s.tables.unitRow u) (beatLength s.tables.beatRow) 0)
    rw [← is] at still same target flags pending kind level count
    rw [applied] at same target flags pending kind level count
    exact ⟨pending, kind, level, nofun, nofun, nofun, nofun, fun _ => ⟨same.trans state, still.1, still.2.1, still.2.2, count, target, flags⟩,
      nofun, nofun, fun _ cut => clamped ((congrArg Prod.snd idles).trans (flagged.trans (decide_eq_true cut)))⟩
  | pause =>
    have over_ := x.applyPending.1.pauseOver_iff
    by_cases stays : x.applyPending.1.pauseOver = false
    · have idles := PulseUnit.boundary_idles (.inr ⟨state, stays⟩) (s.tables.unitRow u) (beatLength s.tables.beatRow) s.limits.warnLive
        (s.capOf u)
      have is : y = x.applyPending.1.idleBeat.present
          (x.applyPending.1.idleBeat.driveAt (s.tables.unitRow u) (beatLength s.tables.beatRow) 0) :=
        (boundary (by rw [state]; rfl)).trans (congrArg Prod.fst idles)
      obtain ⟨still, same, target, flags, pending, kind, level, memory, -⟩ := x.applyPending.1.idleBeat_frame
        (x.applyPending.1.idleBeat.driveAt (s.tables.unitRow u) (beatLength s.tables.beatRow) 0)
      rw [over_, applied] at stays
      rw [← is] at still same target flags pending kind level memory
      rw [applied] at same target flags pending kind level memory
      exact ⟨pending, kind, level, nofun, nofun, nofun, nofun, nofun,
        fun _ _ => ⟨same.trans state, still.1, still.2.1, still.2.2, target, flags, memory⟩, fun _ _ free => absurd stays free,
        fun _ cut => clamped ((congrArg Prod.snd idles).trans (flagged.trans (decide_eq_true cut)))⟩
    · have computes := PulseUnit.boundary_computes (.inr ⟨state, by simpa using stays⟩) (s.tables.unitRow u) (beatLength s.tables.beatRow)
        s.limits.warnLive (s.capOf u)
      have is : y = (x.applyPending.1.compute (s.tables.unitRow u) (beatLength s.tables.beatRow) s.limits.warnLive (s.capOf u)).present
          ((x.applyPending.1.compute (s.tables.unitRow u) (beatLength s.tables.beatRow) s.limits.warnLive (s.capOf u)).driveAt
            (s.tables.unitRow u) (beatLength s.tables.beatRow) 0) :=
        (boundary (by rw [state]; rfl)).trans (congrArg Prod.fst computes)
      obtain ⟨demand, remembers, moves, rests⟩ := x.applyPending.1.compute_ramp (s.tables.unitRow u) (beatLength s.tables.beatRow)
        s.limits.warnLive (s.capOf u)
      have opens := x.applyPending.1.compute_opens (s.tables.unitRow u) (beatLength s.tables.beatRow) s.limits.warnLive (s.capOf u)
      obtain ⟨target, flags, pending, level, kind⟩ := x.applyPending.1.compute_frame (s.tables.unitRow u) (beatLength s.tables.beatRow)
        s.limits.warnLive (s.capOf u) ((x.applyPending.1.compute (s.tables.unitRow u) (beatLength s.tables.beatRow) s.limits.warnLive
          (s.capOf u)).driveAt (s.tables.unitRow u) (beatLength s.tables.beatRow) 0)
      rw [over_, applied] at stays
      rw [← is, applied] at demand remembers moves rests opens target flags pending level kind
      rw [capFor_eq] at opens
      refine ⟨pending, kind, level, nofun, nofun, nofun, nofun, nofun, fun _ against => absurd against stays, fun _ zero _ => ?_,
        fun _ cut => clamped ((congrArg Prod.snd computes).trans (flagged.trans (decide_eq_true cut)))⟩
      intro D cap
      have still : D = rampStep (unitRampStep (s.tables.unitRow u)) T x.demand x.dirMemory := by rw [zero]
      have never (p : Prop) [Decidable p] : ¬(decide (x.demand ≠ 0 ∧ p) = true) := fun h => (of_decide_eq_true h).1 zero
      rw [still]
      by_cases rest : rampStep (unitRampStep (s.tables.unitRow u)) T x.demand x.dirMemory = 0
      · obtain ⟨count, after, zeroed, brakes⟩ := rests rest
        have kept : y.dirMemory = x.dirMemory := remembers.trans ((if_neg fun h => h rest).trans (if_neg fun h => never _ h.1))
        rw [if_neg fun h => never _ h.1] at brakes zeroed
        rw [← remembers, kept, if_neg stays, if_neg fun h => never _ h.1] at after
        exact ⟨after, target, flags, demand, brakes, fun h => absurd rest h, fun _ => ⟨kept, count, zeroed⟩, opens⟩
      · obtain ⟨after, count, zeroed, brakes⟩ := moves rest
        exact ⟨after, target, flags, demand, brakes, fun h => ⟨remembers.trans (if_pos rest), count, zeroed⟩, fun h => absurd h rest,
          opens⟩

end Sys2Proof.Machine
end

section
/-! What a boundary makes of marks, events and inputs (R151, R104), and the start boundary of a wake (R11, R94, R157). -/

namespace Sys2Proof.Machine

/-! ## The sequencer latches SCAN_DROP alone -/

section
variable {P : State → Prop} (scan : ∀ {s : State} q, P s → P { s with scan := q }) (dropped : ∀ {s : State}, P s → P (s.latch .scanDrop))
include scan dropped

theorem State.drop_keeps {s : State} (e : Fin 24) (h : P s) : P (s.drop e) := dropped (scan _ h)

theorem State.takeNext_keeps {s : State} (h : P s) : P s.takeNext := by
  have request {s : State} (r : ScanRequest) (h : P s) : P (s.dropRequest r) := by
    unfold State.dropRequest
    split
    · exact State.drop_keeps scan dropped _ h
    · exact h
    · exact h
  have takes (q : List ScanRequest) {s : State} (h : P s) : P (s.takeFrom q) := by
    induction q generalizing s with
    | nil => exact scan _ h
    | cons r q ih =>
      unfold State.takeFrom
      split
      · exact ih (request r h)
      · exact scan _ h
  unfold State.takeNext
  split
  · exact takes _ h
  · exact h

theorem State.join_keeps {s : State} (r : ScanRequest) (h : P s) : P (s.join r) := State.takeNext_keeps scan dropped (scan _ h)

theorem State.raiseEntry_keeps {s : State} (e : Fin 24) (h : P s) : P (s.raiseEntry e) := by
  by_cases full : s.NoPlace e
  · rw [State.raiseEntry_dropped full]
    exact State.drop_keeps scan dropped e (scan _ h)
  · rw [State.raiseEntry_joins full]
    exact State.join_keeps scan dropped _ (scan _ h)

theorem State.openScan_keeps {s : State} (h : P s) : P s.openScan := by
  have house {s : State} (src : RequestSource) (input : Fin 16) (h : P s) : P (s.raiseHousekeeping src input) := by
    unfold State.raiseHousekeeping
    split
    · exact State.join_keeps scan dropped _ h
    · exact h
  have raised (l : List (Fin 24)) {s : State} (h : P s) : P (l.foldl State.raiseEntry s) := by
    induction l generalizing s with
    | nil => exact h
    | cons e l ih => exact ih (State.raiseEntry_keeps scan dropped e h)
  have opened := raised s.raisedNow (scan _ (State.takeNext_keeps scan dropped h) : P s.takeNext.plan)
  rw [State.openScan_eq]
  unfold State.raiseHousekeepingOfBeat
  split
  · exact house _ _ opened
  · split
    · exact house _ _ opened
    · exact opened

end

/-- The opening of the sequencer changes no event but SCAN_DROP, and not the report mask. -/
theorem State.openScan_status (s : State) : (∀ i, i ≠ 10 → s.openScan.status.events.getLsbD i = s.status.events.getLsbD i) ∧
    s.openScan.status.mask = s.status.mask :=
  State.openScan_keeps (P := fun t => (∀ i, i ≠ 10 → t.status.events.getLsbD i = s.status.events.getLsbD i) ∧ t.status.mask = s.status.mask)
    (fun _ h => h) (fun h => ⟨fun i other => (State.latch_other _ .scanDrop i other).trans (h.1 i other), h.2⟩)
    ⟨fun _ _ => rfl, rfl⟩

/-! ## What the swaps leave (R151) -/

/-- The marks that no boundary takes: SLOT's. -/
theorem beatMarks_left (marks : BitVec 9) : marks &&& ~~~beatMarks marks = marks &&& 1 := by
  unfold beatMarks
  apply BitVec.eq_of_getLsbD_eq
  intro i low
  interval_cases i <;> simp

section
variable (s : State)

/-- The swaps set TABLES_SWAPPED, and REFLEX_FIRED at most beside it. -/
theorem State.takeSwaps_events {i : Nat} (other : i ≠ 9) : s.takeSwaps.status.events.getLsbD i =
    (s.status.events.getLsbD i || (decide (i = 13) && (s.service.swaps.map fun w => w &&& ~~~beatMarks s.service.marks).any
      fun w => decide (w = 0))) := by
  have rows : s.takeSwaps.status.events.getLsbD i = s.swapOwners.status.events.getLsbD i :=
    s.takeSwaps_field (·.status.events.getLsbD i) fun t o => State.latchIf_other _ _ _ i other
  rw [rows, s.swapOwners_status]
  by_cases swapped : i = 13
  · subst swapped
    exact (State.latchIf_self _ _ .tablesSwapped).trans (by simp [EventId.bit])
  · exact (State.latchIf_other _ _ .tablesSwapped i swapped).trans (by simp [swapped])

/-- A SAFE swap takes the report mask from its table (R130). -/
theorem State.takeSwaps_mask : s.takeSwaps.status.mask =
    if inSet (beatMarks s.service.marks) .safe then safeReportMask s.takeSwaps.tables.safeRow else s.status.mask := by
  have tables : s.takeSwaps.tables = (s.takeMarks (beatMarks s.service.marks)).tables := by
    unfold State.tables
    rw [s.takeSwaps_service]
  rw [s.takeSwaps_field (·.status.mask) (by simp [State.decideRows]), s.swapOwners_status, tables]

end

/-! ## What a boundary leaves -/

section
variable (s : State) (b : Bank Bool 31)

theorem State.openBeat_marks : (s.openBeat b).service.marks = s.service.marks &&& 1 := by
  rw [State.openBeat_service, State.takeMarks, State.latchIf_service]
  exact beatMarks_left _

theorem State.openBeat_swaps : (s.openBeat b).service.swaps =
    (s.service.swaps.map fun w => w &&& ~~~beatMarks s.service.marks).filter fun w => decide (w ≠ 0) := by
  rw [State.openBeat_service, State.takeMarks, State.latchIf_service]

theorem State.openBeat_tables : (s.openBeat b).tables = s.takeSwaps.tables := by
  unfold State.tables
  rw [State.openBeat_service, State.takeSwaps_service]

/-- The active copies after a boundary: those marked from the shadow. -/
theorem State.openBeat_active (id : TableId) : (s.openBeat b).service.active.get id =
    if id ≠ .slot ∧ s.service.marks.getLsbD id.code = true then s.service.shadow.get id else s.service.active.get id :=
  (congrArg (·.get id) (s.openBeat_tables b)).trans (s.takeSwaps_tables_get id)

/-- The events of a boundary: REFLEX_FIRED, SCAN_DROP, SETPOINT_CLAMPED, and TABLES_SWAPPED of the swaps. -/
theorem State.openBeat_events {i : Nat} (fires : i ≠ 9) (drops : i ≠ 10) (clamps : i ≠ 12) :
    (s.openBeat b).status.events.getLsbD i = (s.status.events.getLsbD i || (decide (i = 13) &&
      (s.service.swaps.map fun w => w &&& ~~~beatMarks s.service.marks).any fun w => decide (w = 0))) := by
  have swapped : s.swapped.status = s.takeSwaps.status := rfl
  have computed (t : State) : t.computeUnits.status.events.getLsbD i = t.status.events.getLsbD i := State.latchIf_other _ _ .setpointClamped i clamps
  rw [State.openBeat_eq, (State.openScan_status _).1 i drops, State.decided, State.settle_events _ _ i fires, State.driven, computed,
    State.settle_events _ _ i fires, swapped, s.takeSwaps_events fires]

theorem State.openBeat_tablesSwapped : (s.openBeat b).status.events.getLsbD 13 = (s.status.events.getLsbD 13 ||
    (s.service.swaps.map fun w => w &&& ~~~beatMarks s.service.marks).any fun w => decide (w = 0)) :=
  s.openBeat_events b (i := 13) (by decide) (by decide) (by decide)

theorem State.openBeat_mask : (s.openBeat b).status.mask =
    if inSet (beatMarks s.service.marks) .safe then safeReportMask (s.openBeat b).tables.safeRow else s.status.mask := by
  have computed (t : State) : t.computeUnits.status.mask = t.status.mask := State.latchIf_mask ..
  rw [s.openBeat_tables b, ← s.takeSwaps_mask, State.openBeat_eq, (State.openScan_status _).2, State.decided, State.settle_mask,
    State.driven, computed, State.settle_mask]
  rfl

/-- A boundary moves of a rotation input its stall timer and STn alone. -/
theorem State.openBeat_rotation (r : Fin 3) : (s.openBeat b).rotation.get r =
    { s.rotation.get r with stallTimer := ((s.openBeat b).rotation.get r).stallTimer, stalled := ((s.openBeat b).rotation.get r).stalled } := by
  have swapped : s.swapped.rotation.get r = { s.rotation.get r with
      stallTimer := (s.swapped.rotation.get r).stallTimer
      stalled := (s.swapped.rotation.get r).stalled } := by
    have taken : s.swapped.rotation = s.takeSwaps.rotation := rfl
    rw [taken, s.takeSwaps_rotation]
    split
    · rw [Bank.get_map]
    · rfl
  have before := (State.settle_course s.swapped b).rotation r
  have after := (State.settle_course (s.driven b) (s.driven b).sources).rotation r
  have driven : (s.driven b).rotation = (s.swapped.settle b).rotation := State.computeUnits_rotation _
  rw [driven, before, swapped] at after
  rw [State.openBeat_eq, State.openScan_rotation]
  exact after

end

/-! ## Wakes -/

theorem exec_wakeLinkStart_none {s : State} (h : s.phase ≠ .standby ∨ s.beat.restart = none) :
    exec .wakeLinkStart s = .next { s with due := s.due.erase .wakeStart } :=
  congrArg _ (if_neg fun ⟨standby, pending⟩ => h.elim (fun awake => awake standby) pending)

/-- What a wake leaves (R11, R94, R104, R157). -/
theorem State.wakeUp_leaves (s : State) (cause : StartCause) :
    (s.wakeUp cause).phase = .run ∧ (s.wakeUp cause).cause = cause ∧ (s.wakeUp cause).status.events.getLsbD 0 = true ∧
    (∀ n, (s.wakeUp cause).slots.get n = { s.slots.get n with age := 0 }) ∧
    (∀ c, (s.wakeUp cause).contacts.get c = { s.contacts.get c with latch := none }) ∧
    (∀ r, ((s.wakeUp cause).rotation.get r).count = (s.rotation.get r).count ∧
      ((s.wakeUp cause).rotation.get r).accepted = (s.rotation.get r).accepted ∧ ((s.wakeUp cause).rotation.get r).edgesSeen = 0 ∧
      ((s.wakeUp cause).rotation.get r).interval = 65535 ∧ ((s.wakeUp cause).rotation.get r).age = (s.rotation.get r).age) ∧
    (s.wakeUp cause).pending = s.pending ∧ (s.wakeUp cause).now = s.now ∧ (s.wakeUp cause).pins = s.pins ∧
    (s.wakeUp cause).link = s.link ∧ (s.wakeUp cause).profile = s.profile := by
  rw [State.wakeUp_eq]
  refine ⟨by simp [State.woken], by simp [State.woken], ?_, fun n => ?_, fun c => ?_, fun r => ?_, by simp [State.woken],
    by simp [State.woken], by simp [State.woken], by simp [State.woken], by simp [State.woken]⟩
  · exact ((State.Latched.refl (s.woken cause)).openBeat s.sources).events 0 (State.latch_self _ .start)
  · rw [State.openBeat_slots]
    exact Bank.get_map ..
  · rw [State.openBeat_contacts]
    exact Bank.get_map ..
  · have woken : (s.woken cause).rotation.get r = (s.rotation.get r).atWake := Bank.get_map ..
    rw [State.openBeat_rotation, woken]
    exact ⟨rfl, rfl, rfl, rfl, rfl⟩

/-- Settles O24. -/
theorem wakeStartsBeat : Obligations.WakeStartsBeat := by
  intro s
  refine ⟨exec_wakeLinkStart_none, fun none => ?_, fun i cause wakes standby => ?_⟩
  · refine congrArg _ (?_ : (s.clearDue .wakeContact).wakeByContact = _)
    unfold State.wakeByContact
    split
    · next standby =>
      have nobody : (s.clearDue .wakeContact).wakingContacts = [] :=
        List.filter_eq_nil_iff.mpr fun c _ => by simpa using (none.resolve_left fun awake => awake standby) c
      rw [nobody]
      rfl
    · rfl
  · have runs : ∃ e, exec i s = .next ((s.clearDue e).wakeUp cause) := by
      rcases wakes with ⟨rfl, rfl, pending⟩ | ⟨c, rfl, rfl, wakes, lowest⟩
      · exact ⟨.wakeStart, congrArg _ (if_pos ⟨standby, pending⟩)⟩
      · obtain ⟨k, runs, wakesAt, below⟩ := State.wakeByContact_eq (s := s.clearDue .wakeContact) standby wakes
        have same : k = c := by
          rcases lt_trichotomy k c with less | same | more
          · rw [show ((s.clearDue .wakeContact).contacts.get k).wakes = false from lowest k less] at wakesAt
            nomatch wakesAt
          · exact same
          · have off := below c more
            rw [show (s.contacts.get c).wakes = false from off] at wakes
            nomatch wakes
        exact ⟨.wakeContact, by rw [← same]; exact congrArg _ runs⟩
    obtain ⟨e, runs⟩ := runs
    obtain ⟨phase, caused, start, slots, contacts, rotation, pending, now, pins, link, profile⟩ := (s.clearDue e).wakeUp_leaves cause
    refine ⟨_, runs, phase, caused, start, (s.clearDue e).wakeUp_beat cause, slots, contacts, rotation, pending, now, pins, link, profile, ?_⟩
    rw [State.wakeUp_eq]
    exact ⟨State.openBeat_shadow _ _, State.openBeat_marks _ _, State.openBeat_active _ _, State.openBeat_swaps _ _,
      (State.openBeat_tablesSwapped _ _).trans (congrArg (· || _) (State.latch_other _ .start 13 (by decide)))⟩

end Sys2Proof.Machine
end

section
/-! The end of a profile load or reload (R153, R103, R11, R132). -/

namespace Sys2Proof.Machine

/-! ## The sections read (R152, R153) -/

theorem Tables.ext_get {a b : Tables} (h : ∀ id, a.get id = b.get id) : a = b := by
  cases a
  cases b
  congr 1
  exacts [h .slot, h .scan, h .limit, h .reflex, h .unit, h .input, h .beat, h .cal, h .safe]

/-- Tables rebuilt are those of the bytes, whatever stood before; every other table stands. -/
theorem unpackTables_get (ids : List TableId) (bytes : List Byte) (t : Tables) (id : TableId) :
    (id ∈ ids → ∀ u, (unpackTables ids bytes t).get id = (unpackTables ids bytes u).get id) ∧
      (id ∉ ids → (unpackTables ids bytes t).get id = t.get id) := by
  constructor
  · have alike (ids : List TableId) : ∀ (bytes : List Byte) (t u : Tables), t.get id = u.get id ∨ id ∈ ids →
        (unpackTables ids bytes t).get id = (unpackTables ids bytes u).get id := by
      induction ids with
      | nil => exact fun _ _ _ h => h.resolve_right List.not_mem_nil
      | cons a ids ih =>
        refine fun bytes t u h => ih _ _ _ ?_
        rw [Tables.get_set, Tables.get_set]
        by_cases same : id = a
        · exact .inl (by rw [if_pos same, if_pos same])
        · rw [if_neg same, if_neg same]
          exact h.imp (fun same => same) fun mem => (List.mem_cons.mp mem).resolve_left same
    exact fun mem u => alike ids bytes t u (.inr mem)
  · induction ids generalizing bytes t with
    | nil => exact fun _ => rfl
    | cons a ids ih =>
      intro out
      rw [List.mem_cons, not_or] at out
      refine (ih _ _ out.2).trans ?_
      rw [Tables.get_set, if_neg out.1]

theorem defaultSection_get (sec : Section) (t : Tables) (id : TableId) :
    (defaultSection sec t).get id = if id ∈ sec.tableIds then factoryTables.get id else t.get id := by
  unfold defaultSection
  generalize sec.tableIds = ids
  induction ids generalizing t with
  | nil => rfl
  | cons a ids ih =>
    rw [List.foldl_cons, ih, Tables.get_set]
    by_cases same : id = a <;> simp [same]

/-- Whether a section loads does not depend on the tables that it replaces. -/
theorem Profile.loads_congr (p : Profile) (sec : Section) (t u : Tables) : p.loads sec t = p.loads sec u := by
  have read (id : TableId) (mem : id ∈ Section.tables.tableIds) :
      (p.sectionTables .tables t).get id = (p.sectionTables .tables u).get id := (unpackTables_get _ _ t id).1 mem u
  have sound : structurallySound (p.sectionTables .tables t) = structurallySound (p.sectionTables .tables u) := by
    unfold structurallySound
    rw [show (p.sectionTables .tables t).slot = _ from read .slot (by decide),
      show (p.sectionTables .tables t).scan = _ from read .scan (by decide)]
    rfl
  cases sec with
  | cal => rfl
  | safe => rfl
  | tables => exact congrArg (p.checkGood .tables && ·) sound

/-- A section loaded gives its own tables, from the store or the factory defaults, and leaves every other one. -/
theorem Profile.loadSection_get (p : Profile) (sec : Section) (t : Tables) (id : TableId) :
    (id ∈ sec.tableIds → ∀ u, (p.loadSection sec t).get id =
      if p.loads sec u then (p.sectionTables sec u).get id else factoryTables.get id) ∧
    (id ∉ sec.tableIds → (p.loadSection sec t).get id = t.get id) := by
  unfold Profile.loadSection
  refine ⟨fun mem u => ?_, fun out => ?_⟩
  · rw [p.loads_congr sec t u]
    split
    · exact (unpackTables_get _ _ t id).1 mem u
    · rw [defaultSection_get, if_pos mem]
  · split
    · exact (unpackTables_get _ _ t id).2 out
    · rw [defaultSection_get, if_neg out]

/-- The tables after a load, section by section (R153). -/
theorem State.loadProfile_get (s : State) (sec : Section) {id : TableId} (mem : id ∈ sec.tableIds) :
    s.loadProfile.service.active.get id = if s.profile.loads sec s.service.active
      then (s.profile.sectionTables sec s.service.active).get id else factoryTables.get id := by
  have loaded : s.loadProfile.service.active =
      s.profile.loadSection .tables (s.profile.loadSection .safe (s.profile.loadSection .cal s.service.active)) := rfl
  rw [loaded]
  cases sec with
  | tables => exact (s.profile.loadSection_get .tables _ id).1 mem _
  | safe =>
    rw [List.mem_singleton.mp mem]
    rw [(s.profile.loadSection_get .tables _ _).2 (by decide)]
    exact (s.profile.loadSection_get .safe _ _).1 (by decide) _
  | cal =>
    rw [List.mem_singleton.mp mem]
    rw [(s.profile.loadSection_get .tables _ _).2 (by decide), (s.profile.loadSection_get .safe _ _).2 (by decide)]
    exact (s.profile.loadSection_get .cal _ _).1 (by decide) _

/-- The serial number read (R152). -/
theorem Profile.readSerial_toNat (p : Profile) : p.readSerial.toNat = if sectionCheckGood p.identity
    then 16777216 * rowNat p.identity 0 + 65536 * rowNat p.identity 1 + 256 * rowNat p.identity 2 + rowNat p.identity 3 else 0 := by
  unfold Profile.readSerial
  split
  · have low := (wordOf (p.identity.getD 2 0) (p.identity.getD 3 0)).isLt
    rw [BitVec.toNat_append, ← Nat.shiftLeft_add_eq_or_of_lt low, Nat.shiftLeft_eq, wordOf_toNat, wordOf_toNat]
    unfold rowNat rowByte
    omega
  · rfl

/-! ## A contact that is active through a course (R121, R122) -/

/-- A row followed from a source to where it stands has followed it. -/
theorem ReflexRow.follow_follow (x : ReflexRow) (row : Row) (was is : Bool) :
    (x.follow row was is).follow row is is = x.follow row was is := by
  unfold ReflexRow.follow ReflexRow.fire
  cases is <;> cases was <;> simp <;> (repeat' split) <;> simp_all

theorem State.settleRound_contact (s : State) (b : Bank Bool 31) (c : Fin 8) : (s.settleRound b).contactActive c = s.contactActive c := by
  simp [State.contactActive, State.conditionerRunning, State.tables]

/-- The row of a contact follows it in the first round of a course and stands from then on: no course moves a contact. -/
theorem State.settle_contact_row {s : State} {n : Fin 16} {c : Fin 8} (source : (reflexSource (s.tables.reflexRow n)).val = 16 + c.val)
    (b : Bank Bool 31) : (s.settle b).reflex.rows.get n = (s.reflex.rows.get n).follow (s.tables.reflexRow n)
      (b.get (reflexSource (s.tables.reflexRow n))) (s.contactActive c) := by
  have round {t : State} (b : Bank Bool 31) (tables : t.tables = s.tables) : (t.settleRound b).reflex.rows.get n =
      (t.reflex.rows.get n).follow (s.tables.reflexRow n) (b.get (reflexSource (s.tables.reflexRow n))) (t.contactActive c) := by
    rw [State.settleRound_rows, tables, State.sourceActive_contact t source]
  have stands (k : Nat) : ∀ (t : State) (b : Bank Bool 31), t.tables = s.tables → b.get (reflexSource (s.tables.reflexRow n)) = t.contactActive c →
      (t.reflex.rows.get n).follow (s.tables.reflexRow n) (t.contactActive c) (t.contactActive c) = t.reflex.rows.get n →
      (State.settleFuel k b t).reflex.rows.get n = t.reflex.rows.get n := by
    induction k with
    | zero => exact fun _ _ _ _ _ => rfl
    | succ k ih =>
      intro t b tables was followed
      have same : (t.settleRound b).reflex.rows.get n = t.reflex.rows.get n := by rw [round b tables, was, followed]
      have next := ih (t.settleRound b) t.sources ((t.settleRound_tables b).trans tables)
        (by rw [State.settleRound_contact, State.sources_get, State.sourceActive_contact t source])
        (by rw [State.settleRound_contact, same, followed])
      unfold State.settleFuel
      dsimp only
      split
      · exact same
      · exact next.trans same
  have first := round (t := s) b rfl
  have rest := stands 3 (s.settleRound b) s.sources (s.settleRound_tables b)
    (by rw [State.settleRound_contact, State.sources_get, State.sourceActive_contact s source])
    (by rw [State.settleRound_contact, first, ReflexRow.follow_follow])
  rw [State.settle, State.settleFuel]
  split
  · exact first
  · exact rest.trans first

/-- An enabled row of an active contact is active after a course, if it was before or the contact counts as inactive before. -/
theorem State.settle_contact {s : State} {b : Bank Bool 31} {n : Fin 16} {c : Fin 8} (enabled : reflexEnabled (s.tables.reflexRow n) = true)
    (source : (reflexSource (s.tables.reflexRow n)).val = 16 + c.val) (on : s.contactActive c = true)
    (start : b.get (reflexSource (s.tables.reflexRow n)) = false ∨ (s.reflex.rows.get n).active = true) :
    ((s.settle b).reflex.rows.get n).active = true := by
  rw [State.settle_contact_row source, on]
  unfold ReflexRow.follow
  rw [if_pos enabled]
  rcases start with off | stands
  · rw [off]
    rfl
  · (repeat' split) <;> simp [stands, ReflexRow.fire]

/-- An enabled row of a contact that is active after the swaps of a boundary, and counts as inactive before, fires there (R120). -/
theorem State.openBeat_contact {s : State} {b : Bank Bool 31} (run : s.phase = .run) {n : Fin 16} {c : Fin 8}
    (enabled : reflexEnabled ((s.openBeat b).tables.reflexRow n) = true)
    (source : (reflexSource ((s.openBeat b).tables.reflexRow n)).val = 16 + c.val)
    (level : (s.contacts.get c).filtered = contactPolarity ((s.openBeat b).tables.contactRow c))
    (before : b.get (reflexSource ((s.openBeat b).tables.reflexRow n)) = false) :
    ((s.openBeat b).reflex.rows.get n).fired = true ∧ ((s.openBeat b).reflex.rows.get n).active = true ∧
      (s.openBeat b).status.events.getLsbD 9 = true := by
  rw [State.openBeat_tables, ← State.swapped_tables] at enabled source level before
  have on : s.swapped.contactActive c = true := by
    rw [State.contactActive_run (by simpa using run), State.swapped_contacts]
    exact decide_eq_true level
  obtain ⟨fires, event, -⟩ := State.settle_fires s.swapped b n enabled before ((State.sourceActive_contact _ source).trans on)
  have active := State.settle_contact enabled source on (.inl before)
  have computed : (s.driven b).reflex = (s.swapped.settle b).reflex := State.computeUnits_reflex _
  have tables : (s.driven b).tables = s.swapped.tables := by simp [State.driven, State.tables]
  have still : (s.driven b).contactActive c = true := by
    rw [← on]
    simp [State.contactActive, State.conditionerRunning, State.driven, State.tables]
  have latched : (s.driven b).Latched (s.openBeat b) := by
    rw [State.openBeat_eq]
    exact ((State.Latched.refl _).settle _).openScan
  refine ⟨latched.fired n (by rw [computed]; exact fires), ?_, latched.events 9 ?_⟩
  · rw [State.openBeat_eq, State.openScan_reflex]
    exact State.settle_contact (by rw [tables]; exact enabled) (by rw [tables]; exact source) still (.inr (by rw [computed]; exact active))
  · have driven : (s.swapped.settle b).Latched (s.driven b) := State.Latched.latchIf _ _ ((State.Latched.refl _).congr rfl rfl)
    exact driven.events 9 event

/-- With both copies alike, the marks taken at a boundary leave the tables. -/
theorem State.openBeat_alike {s : State} (b : Bank Bool 31) (alike : s.service.shadow = s.service.active) :
    (s.openBeat b).service.active = s.service.active := Tables.ext_get fun id => by
  rw [State.openBeat_active, alike, ite_self]

/-! ## The end of a load -/

theorem exec_profileLoadEnd_none {s : State} (pins : Byte) (h : s.phase = .run ∨ s.phase = .standby) :
    exec (.profileLoadEnd pins) s = .next s := by
  refine congrArg _ (if_neg fun loads => ?_)
  rcases h with h | h <;> simp [State.reloading, h] at loads

/-- A reload that ends in standby (R156). -/
theorem State.parkAfterLoad_leaves (s : State) (pins : Byte) :
    let t := (s.loaded pins).parkAfterLoad (Bank.all 31 false)
    t.phase = .standby ∧ t.beat = s.beat ∧ t.status.events.getLsbD 0 = s.status.events.getLsbD 0 ∧
    t.status.mask = safeReportMask (t.service.active.row .safe 0) ∧ t.service.shadow = t.service.active ∧
    t.service.marks = s.service.marks ∧
    (∀ c, t.contacts.get c = { filtered := pins.getLsbD c, hold := none, changed := false, latch := none }) ∧
    t.slots = s.slots ∧ t.scan = s.scan ∧ t.pending = s.pending ∧ t.now = s.now ∧ t.cause = s.cause ∧ t.link = s.link ∧
    (∀ r, s.beat.restart = some r → r ≤ s.now → DueEvent.wakeStart ∈ t.due) ∧
    ∀ u, (s.units.get u).state = .off → (t.units.get u).state = .off := by
  intro t
  let parked : State :=
    { s.loaded pins with phase := .standby, status := { s.status with mask := safeReportMask (s.loaded pins).tables.safeRow } }
  have course := State.settle_course parked (Bank.all 31 false)
  have marked : ∃ d, t = { parked.settle (Bank.all 31 false) with due := d } := by
    have is : t = (parked.settle (Bank.all 31 false)).applyIf (parked.settle (Bank.all 31 false)).restartNow
        fun v => v.markDue .wakeStart := rfl
    rw [is]
    unfold State.applyIf
    split
    · exact State.markDue_frame _ _
    · exact ⟨_, rfl⟩
  have wakes (r : Nat) (pending : s.beat.restart = some r) (come : r ≤ s.now) : DueEvent.wakeStart ∈ t.due := by
    have now : (parked.settle (Bank.all 31 false)).restartNow = true := by
      unfold State.restartNow
      rw [course.beat, course.now, show parked.beat.restart = some r from pending]
      exact decide_eq_true come
    have is : t = (parked.settle (Bank.all 31 false)).markDue .wakeStart := if_pos now
    rw [is, State.mem_markDue]
    exact .inr rfl
  obtain ⟨d, is⟩ := marked
  refine ⟨?_, ?_, ?_, ?_, ?_, ?_, fun c => ?_, ?_, ?_, ?_, ?_, ?_, ?_, wakes, fun u off => ?_⟩ <;> rw [is]
  · exact course.phase
  · exact course.beat
  · exact course.events 0 (by decide)
  · rw [course.mask, course.service]
    rfl
  · rw [course.service]
    rfl
  · rw [course.service]
    rfl
  · rw [course.contacts]
    exact Bank.get_tabulate ..
  · exact course.slots
  · exact course.scan
  · exact course.pending
  · exact course.now
  · exact course.cause
  · exact course.link
  · rw [course.off u off]
    exact off

/-- Settles O13. -/
theorem loadEndStarts : Obligations.LoadEndStarts := by
  refine ⟨fun s pins => exec_profileLoadEnd_none pins, fun s pins parks => ?_, fun s pins loads => ?_⟩
  · exact ⟨_, congrArg Host.Outcome.next (State.endLoad_parks parks pins), s.parkAfterLoad_leaves pins⟩
  · refine ⟨_, congrArg Host.Outcome.next ((State.endLoad_starts loads pins).trans (State.startAfterLoad_eq _ _)), ?_⟩
    have alike : (s.loaded pins).started.service.shadow = (s.loaded pins).started.service.active := rfl
    have active := State.openBeat_alike (Bank.all 31 false) alike
    have beat := (s.loaded pins).started.openBeat_beat (Bank.all 31 false)
    have latched := (State.Latched.refl (s.loaded pins).started).openBeat (Bank.all 31 false)
    have level (c : Fin 8) : (s.loaded pins).started.contacts.get c =
        { filtered := pins.getLsbD c, hold := none, changed := false, latch := none } := Bank.get_tabulate ..
    have input (r : Fin 3) : (s.loaded pins).started.rotation.get r = { Rotation.atReset with accepted := s.pins.rotation.getLsbD r } :=
      Bank.get_tabulate ..
    refine ⟨by simp [State.started], by simp [State.started, State.forwarding], by rw [beat]; rfl, by rw [beat],
      by rw [beat]; rfl, by rw [beat]; rfl, latched.events 0 (State.latch_self _ .start), ?_,
      (State.openBeat_shadow _ _).trans (alike.trans active.symm), fun sec id mem => ?_, ?_, fun c => ?_, ?_, fun n c enabled source on => ?_,
      fun r => ?_, by simp [State.started, State.loaded, State.loadProfile, State.startConditioner], ?_, ?_, ?_, ?_, fun u off => ?_⟩
    · rw [State.openBeat_mask]
      split
      · rfl
      · rw [active]
        rfl
    · rw [active]
      exact s.loadProfile_get sec mem
    · simp [State.started, State.loaded, State.loadProfile, State.startConditioner]
    · rw [State.openBeat_contacts, level]
    · rw [State.openBeat_profile]
      exact s.profile.readSerial_toNat
    · exact State.openBeat_contact rfl enabled source (by rw [level]; exact on) (Bank.get_all ..)
    · rw [State.openBeat_rotation, input]
      exact ⟨rfl, rfl, rfl, rfl, rfl⟩
    · exact State.openBeat_now ..
    · exact State.openBeat_cause ..
    · exact State.openBeat_strap ..
    · exact State.openBeat_link ..
    · exact State.openBeat_off _ off

end Sys2Proof.Machine
end

section
/-! Swap marks taking effect (R151, R139): what each swap does to its owner, and what the rows make of the swaps (R126). -/

namespace Sys2Proof.Machine

/-! ## Owners -/

/-- What the swaps leave and rounds and drive computations keep, a boundary leaves up to its sequencer. -/
theorem State.decided_induct (P : State → Prop) (round : ∀ t b, P t → P (t.settleRound b)) (units : ∀ t, P t → P t.computeUnits)
    {s : State} (b : Bank Bool 31) (swapped : P s.swapped) : P (s.decided b) :=
  State.settle_induct P round _ _ (units _ (State.settle_induct P round _ _ swapped))

/-- A LIMIT swap (R112): every run 0, every condition inactive, every count idle or begun afresh. -/
theorem State.openBeat_limit_swapped (s : State) (b : Bank Bool 31) (marked : inSet (beatMarks s.service.marks) .limit = true)
    (n : Fin 16) : ((s.openBeat b).limits.rows.get n).tripRun = 0 ∧ ((s.openBeat b).limits.rows.get n).releaseRun = 0 ∧
      ((s.openBeat b).limits.rows.get n).active = false ∧
      (((s.openBeat b).limits.rows.get n).starve = none ∨ ((s.openBeat b).limits.rows.get n).starve = some 0) := by
  rw [State.openBeat_eq, State.openScan_limits]
  refine State.decided_induct (fun t => (t.limits.rows.get n).tripRun = 0 ∧ (t.limits.rows.get n).releaseRun = 0 ∧
    (t.limits.rows.get n).active = false ∧ ((t.limits.rows.get n).starve = none ∨ (t.limits.rows.get n).starve = some 0))
    (fun t b h => ?_) (fun t h => by rw [State.computeUnits_limits]; exact h) b ?_
  · rw [State.settleRound_limits_get]
    unfold LimitRow.requalify
    split
    · exact h
    · split
      · refine ⟨rfl, rfl, rfl, ?_⟩
        dsimp only
        split
        · exact .inr rfl
        · exact .inl rfl
      · exact ⟨rfl, rfl, rfl, .inl rfl⟩
  · rw [State.swapped_limits, s.takeSwaps_limits, if_pos marked, Bank.get_all]
    exact ⟨rfl, rfl, rfl, .inl rfl⟩

/-- What a unit keeps for its fold-back is 0 (R55). -/
def PulseUnit.Unfolded (x : PulseUnit) : Prop := x.foldLevel = 0 ∧ x.releaseRun = 0 ∧ x.exhaustRun = 0 ∧ x.exhausted = false

theorem PulseUnit.Unfolded.deliver {x : PulseUnit} (h : x.Unfolded) (row : Row) (hold : Hold) : (x.deliverHold row hold).Unfolded := by
  obtain ⟨level, release, exhaust, out⟩ := h
  unfold PulseUnit.deliverHold PulseUnit.Unfolded
  (repeat' split) <;> simp_all

/-- A boundary leaves the fold-back counts. -/
theorem PulseUnit.Unfolded.boundary {x : PulseUnit} (h : x.Unfolded) (row : Row) (n : Nat) (w : Bool) (c : Option Nat) :
    (x.boundary row n w c).1.Unfolded := by
  obtain ⟨t, f, pending⟩ := x.applyPending_frame
  have applied : x.applyPending.1.Unfolded := by
    rw [pending]
    exact h
  have computed (y : PulseUnit) (k : y.Unfolded) : (y.compute row n w c).Unfolded := by
    unfold PulseUnit.Unfolded PulseUnit.compute PulseUnit.place PulseUnit.rampAndDecide at *
    dsimp only
    (repeat' split) <;> simpa using k
  have reckoned : (x.reckoned row n w c).Unfolded :=
    PulseUnit.reckoned_cases (P := PulseUnit.Unfolded) x row n w c (fun _ => h) (fun _ => computed _ applied) (fun _ => applied)
  rw [PulseUnit.boundary_fst]
  simpa [PulseUnit.Unfolded] using reckoned

/-- A UNIT swap (R55): the fold-back counts of every unit 0. -/
theorem State.openBeat_unit_swapped (s : State) (b : Bank Bool 31) (marked : inSet (beatMarks s.service.marks) .unit = true)
    (u : Fin 4) : ((s.openBeat b).units.get u).Unfolded := by
  rw [State.openBeat_eq, State.openScan_units]
  refine State.decided_induct (fun t => (t.units.get u).Unfolded) (fun t b h => ?_) (fun t h => ?_) b ?_
  · rw [State.settleRound_units_get]
    exact h.deliver _ _
  · rw [State.computeUnits_get]
    exact h.boundary ..
  · rw [State.swapped_units, s.takeSwaps_units, if_pos marked, Bank.get_map]
    exact ⟨rfl, rfl, rfl, rfl⟩

/-- An INPUT swap (R101): STn released, the stall timers idle or begun afresh. -/
theorem State.openBeat_input_swapped (s : State) (b : Bank Bool 31) (marked : inSet (beatMarks s.service.marks) .input = true)
    (r : Fin 3) : ((s.openBeat b).rotation.get r).stalled = false ∧
      (((s.openBeat b).rotation.get r).stallTimer = none ∨ ((s.openBeat b).rotation.get r).stallTimer = some 0) := by
  rw [State.openBeat_eq, State.openScan_rotation]
  refine State.decided_induct (fun t => (t.rotation.get r).stalled = false ∧
    ((t.rotation.get r).stallTimer = none ∨ (t.rotation.get r).stallTimer = some 0))
    (fun t b h => ?_) (fun t h => by rw [State.computeUnits_rotation]; exact h) b ?_
  · rw [State.settleRound_rotation_get]
    unfold Rotation.requalify
    split
    · split
      · exact h
      · exact ⟨rfl, .inr rfl⟩
    · exact ⟨rfl, .inl rfl⟩
  · have taken : s.swapped.rotation = s.takeSwaps.rotation := rfl
    rw [taken, s.takeSwaps_rotation, if_pos marked, Bank.get_map]
    exact ⟨rfl, .inl rfl⟩

/-- A SCAN swap flushes the sequencer before it opens the beat (R58, R71). -/
theorem State.decided_flushed {s w : State} (b : Bank Bool 31) (scan : w.scan = s.scan ∨ w.scan = s.flush.scan)
    (marked : inSet (beatMarks w.service.marks) .scan = true) : (w.decided b).scan = s.flush.scan := by
  rw [State.decided_scan, State.swapped_scan, State.takeSwaps_scan, if_pos marked]
  rcases scan with same | flushed
  · unfold State.flush
    rw [same]
  · exact State.flush_flush flushed

/-- Requests and a value that counts are all of some kind. -/
structure State.Asks (Q : ScanRequest → Prop) (s : State) : Prop where
  queue : ∀ r ∈ s.scan.queue, Q r
  converter : ∀ c, s.scan.converter = some c → c.discard = false ∧ Q c.request

namespace State.Asks
variable {Q : ScanRequest → Prop} {s : State}

theorem takeNext (h : s.Asks Q) : s.takeNext.Asks Q := by
  refine ⟨fun r mem => h.queue r (s.takeNext_queue.mem mem), fun c starts => ?_⟩
  unfold State.takeNext at starts
  split at starts
  · obtain ⟨counts, mem⟩ := State.takeFrom_converter _ _ starts
    exact ⟨counts, h.queue _ mem⟩
  · exact h.converter c starts

theorem join (h : s.Asks Q) {r : ScanRequest} (is : Q r) : (s.join r).Asks Q :=
  takeNext ⟨fun q mem => (mem_insertRequest.mp mem).elim (fun same => same ▸ is) (h.queue q), h.converter⟩

theorem raiseEntry (h : s.Asks Q) (e : Fin 24) (is : Q (s.requestOf e)) : (s.raiseEntry e).Asks Q := by
  by_cases full : s.NoPlace e
  · rw [State.raiseEntry_dropped full]
    exact ⟨h.queue, h.converter⟩
  · rw [State.raiseEntry_joins full]
    exact join (s := s.spent e) ⟨h.queue, h.converter⟩ is

theorem raiseHousekeepingOfBeat (h : s.Asks Q) (is : ∀ src input, Q { source := src, input := input, raised := s.now, late := 0 }) :
    s.raiseHousekeepingOfBeat.Asks Q := by
  unfold State.raiseHousekeepingOfBeat State.raiseHousekeeping
  (repeat' split) <;> first | exact h.join (is _ _) | exact h

end State.Asks

/-- The converter that a beat's opening starts has a value that counts, of a request that waited or is of this tick. -/
theorem State.openScan_converter {s : State} (idle : s.scan.converter = none) {c : Conversion}
    (starts : s.openScan.scan.converter = some c) : c.discard = false ∧ (c.request ∈ s.scan.queue ∨ c.request.raised = s.now) := by
  have raised (l : List (Fin 24)) {t : State} (now : t.now = s.now) (h : t.Asks fun r => r ∈ s.scan.queue ∨ r.raised = s.now) :
      (l.foldl State.raiseEntry t).Asks fun r => r ∈ s.scan.queue ∨ r.raised = s.now := by
    induction l generalizing t with
    | nil => exact h
    | cons e l ih => exact ih ((State.raiseEntry_now t e).trans now) (h.raiseEntry e (.inr now))
  have before : s.Asks fun r => r ∈ s.scan.queue ∨ r.raised = s.now :=
    ⟨fun _ => .inl, fun c busy => by rw [idle] at busy; nomatch busy⟩
  have opened := raised s.raisedNow (t := s.takeNext.plan) (by simp) ⟨before.takeNext.queue, before.takeNext.converter⟩
  rw [State.openScan_eq] at starts
  refine (opened.raiseHousekeepingOfBeat (fun _ _ => .inr ?_)).converter c starts
  exact (State.raiseAll_now _ _).trans (by simp)

/-! ## Rows (R126) -/

/-- A reflex row continues through a swap of its table entry (R126). -/
def Continues (old new : Row) : Prop := reflexEnabled old = true ∧ reflexSource old = reflexSource new

/-- What a row is decided to be (R126), swapped or not: a disabled one keeps its latch; one that continues keeps its latch, and its
condition where that may stand; any other is as its source has it, and fires where it is active. -/
theorem State.takeSwaps_decides (s : State) (n : Fin 16) :
    let x := s.reflex.rows.get n
    let z := s.takeSwaps.reflex.rows.get n
    let new := s.takeSwaps.tables.reflexRow n
    let on := s.takeSwaps.sourceActive (reflexSource new)
    (reflexEnabled new = false → z.fired = x.fired) ∧
    (reflexEnabled new = true → Continues (s.tables.reflexRow n) new →
      z.fired = x.fired ∧ (z.active = x.active ∨ z.active = (x.active && (on || reflexLatched new)))) ∧
    (reflexEnabled new = true → ¬Continues (s.tables.reflexRow n) new → on = false → z.fired = x.fired ∧ z.active = false) ∧
    (reflexEnabled new = true → ¬Continues (s.tables.reflexRow n) new → on = true →
      z.fired = true ∧ z.active = true ∧ s.takeSwaps.status.events.getLsbD 9 = true) := by
  intro x z new on
  have decided := s.takeSwaps_row n
  by_cases marked : inSet (beatMarks s.service.marks) .reflex = true
  · rw [if_pos marked] at decided
    have is : z = (x.swapDecide (s.tables.reflexRow n) new on).1 := decided
    have continues : (reflexEnabled (s.tables.reflexRow n) && decide (reflexSource (s.tables.reflexRow n) = reflexSource new)) = true ↔
        Continues (s.tables.reflexRow n) new := by simp [Continues]
    unfold ReflexRow.swapDecide at is
    refine ⟨fun off => ?_, fun enabled goes => ?_, fun enabled ends off => ?_, fun enabled ends active => ?_⟩
    · rw [is, off]
      rfl
    · rw [is, enabled, if_neg (by simp), if_pos (continues.mpr goes)]
      exact ⟨rfl, .inr rfl⟩
    · rw [is, enabled, off, if_neg (by simp), if_neg (fun h => ends (continues.mp h))]
      exact ⟨rfl, rfl⟩
    · rw [is, enabled, active, if_neg (by simp), if_neg (fun h => ends (continues.mp h))]
      refine ⟨rfl, rfl, ?_⟩
      have fires : ((s.swapOwners.reflex.rows.get n).swapDecide (s.tables.reflexRow n) (s.swapOwners.tables.reflexRow n)
          (s.swapOwners.sourceActive (reflexSource (s.swapOwners.tables.reflexRow n)))).2 = true := by
        rw [← s.takeSwaps_sourceActive, ← s.takeSwaps_field State.tables (by simp [State.tables])]
        show (ReflexRow.swapDecide _ (s.tables.reflexRow n) new on).2 = true
        unfold ReflexRow.swapDecide
        rw [enabled, active, if_neg (by simp), if_neg (fun h => ends (continues.mp h))]
        rfl
      rw [s.takeSwaps_eq, marked]
      refine (State.latchIf_self _ _ .reflexFired).trans (Bool.or_eq_true_iff.mpr (.inr (List.any_eq_true.mpr ⟨n, List.mem_finRange n, ?_⟩)))
      exact fires
  · rw [if_neg marked] at decided
    have same : new = s.tables.reflexRow n := s.takeSwaps_reflexRow (by simpa using marked) n
    have goes (enabled : reflexEnabled new = true) : Continues (s.tables.reflexRow n) new := by
      rw [same] at enabled ⊢
      exact ⟨enabled, rfl⟩
    exact ⟨fun _ => congrArg _ decided, fun _ _ => ⟨congrArg _ decided, .inl (congrArg _ decided)⟩,
      fun enabled ends => absurd (goes enabled) ends, fun enabled ends => absurd (goes enabled) ends⟩

/-- What the swaps latch, a boundary keeps latched. -/
theorem State.takeSwaps_latched (s : State) (b : Bank Bool 31) : s.takeSwaps.Latched (s.openBeat b) := by
  have swapped : s.takeSwaps.Latched s.swapped := (State.Latched.refl _).congr rfl rfl
  have driven : s.takeSwaps.Latched (s.driven b) := State.Latched.latchIf _ _ ((swapped.settle b).congr rfl rfl)
  rw [State.openBeat_eq]
  exact (driven.settle _).openScan

/-- A source that is active after a boundary is so as the swaps leave it. -/
theorem State.openBeat_sourceActive {s : State} {b : Bank Bool 31} {i : Fin 31} (on : (s.openBeat b).sourceActive i = true) :
    s.takeSwaps.sourceActive i = true := by
  have decided := State.decided_induct (fun t => t.sourceActive i = true → s.takeSwaps.sourceActive i = true)
    (fun t b h on => h (t.settleRound_sources b i on)) (fun t h on => h (by rw [← t.computeUnits_sourceActive]; exact on)) b
    fun on => by rw [← s.swapped_sourceActive]; exact on
  refine decided ?_
  rw [← on, State.openBeat_eq]
  simp [State.sourceActive, State.contactActive, State.conditionerRunning, State.tables]

/-- A contact's row after a boundary: decided at the swaps, then following the contact (R121, R122, R126). -/
theorem State.openBeat_contact_row {s : State} {n : Fin 16} {c : Fin 8}
    (source : (reflexSource (s.takeSwaps.tables.reflexRow n)).val = 16 + c.val) (b : Bank Bool 31) :
    (s.openBeat b).reflex.rows.get n = (s.takeSwaps.reflex.rows.get n).follow (s.takeSwaps.tables.reflexRow n)
      (b.get (reflexSource (s.takeSwaps.tables.reflexRow n))) (s.takeSwaps.contactActive c) := by
  have first := State.settle_contact_row (s := s.swapped) source b
  have reflex : (s.driven b).reflex = (s.swapped.settle b).reflex := State.computeUnits_reflex _
  have tables : (s.driven b).tables = s.takeSwaps.tables := by simp [State.driven, State.tables]
  have still : (s.driven b).contactActive c = s.takeSwaps.contactActive c := by
    simp [State.contactActive, State.conditionerRunning, State.driven, State.tables]
  have second := State.settle_contact_row (s := s.driven b) (by rw [tables]; exact source) (s.driven b).sources
  rw [State.openBeat_eq, State.openScan_reflex]
  refine second.trans ?_
  rw [tables, State.sources_get, State.sourceActive_contact _ source, still, reflex, first]
  exact ReflexRow.follow_follow ..

/-- A continuing row that follows its contact (R126): `z` is the row `x` as the swap decides it. -/
theorem ReflexRow.follow_continues {x z : ReflexRow} {new : Row} {before after on : Bool} {p : Prop} (enabled : reflexEnabled new = true)
    (decided : z.fired = x.fired ∧ (z.active = x.active ∨ z.active = (x.active && (on || reflexLatched new)))) (goes : p)
    (active : before = true → x.active = true) (is : on = after) :
    ((z.follow new before after).active = true ↔ after = true ∨ (p ∧ x.active = true ∧ reflexLatched new = true)) ∧
    ((z.follow new before after).fired = true ↔ x.fired = true ∨ (after = true ∧ ¬(p ∧ before = true))) := by
  obtain ⟨fired, stands⟩ := decided
  subst is
  unfold ReflexRow.follow ReflexRow.fire
  rw [if_pos enabled]
  cases on with
  | true =>
    cases before with
    | true => rcases stands with stands | stands <;> cases latched : reflexLatched new <;> simp [fired, stands, active, goes]
    | false => simp [goes]
  | false => rcases stands with stands | stands <;> cases latched : reflexLatched new <;> simp [fired, stands, goes, latched]

/-- A row that begins anew at a swap, and follows its contact (R126). -/
theorem ReflexRow.follow_begins {x z : ReflexRow} {new : Row} {before after : Bool} {p : Prop} (enabled : reflexEnabled new = true)
    (anew : ¬p) (off : after = false → z.fired = x.fired ∧ z.active = false) (on : after = true → z.fired = true ∧ z.active = true) :
    ((z.follow new before after).active = true ↔ after = true ∨ (p ∧ x.active = true ∧ reflexLatched new = true)) ∧
    ((z.follow new before after).fired = true ↔ x.fired = true ∨ (after = true ∧ ¬(p ∧ before = true))) := by
  unfold ReflexRow.follow ReflexRow.fire
  rw [if_pos enabled]
  cases after with
  | true =>
    obtain ⟨fired, active⟩ := on rfl
    cases before <;> cases latched : reflexLatched new <;> simp [fired, active, anew]
  | false =>
    obtain ⟨fired, inactive⟩ := off rfl
    cases latched : reflexLatched new <;> simp [fired, inactive, anew]

/-- A reflex row through a boundary, from `s` to `t` (R121, R122, R126): on its new table entry and the sources as they are then. -/
def State.RowDecided (s t : State) (n : Fin 16) : Prop :=
  let old := s.tables.reflexRow n
  let new := t.tables.reflexRow n
  let x := s.reflex.rows.get n
  let y := t.reflex.rows.get n
  (reflexEnabled new = false → y.active = false ∧ y.fired = x.fired) ∧
  (reflexEnabled new = true → t.sourceActive (reflexSource new) = true → y.active = true ∧
    (¬Continues old new → y.fired = true ∧ t.status.events.getLsbD 9 = true)) ∧
  (reflexEnabled new = true → Continues old new → x.active = true → reflexLatched new = true → y.active = true) ∧
  (reflexEnabled new = true → reflexLatched new = false → t.sourceActive (reflexSource new) = false → y.active = false) ∧
  ∀ c : Fin 8, (reflexSource new).val = 16 + c.val → reflexEnabled new = true →
    let before := decide ((s.contacts.get c).filtered = contactPolarity (s.tables.contactRow c))
    let after := decide ((s.contacts.get c).filtered = contactPolarity (t.tables.contactRow c))
    (y.active = true ↔ after = true ∨ (Continues old new ∧ x.active = true ∧ reflexLatched new = true)) ∧
    (y.fired = true ↔ x.fired = true ∨ (after = true ∧ ¬(Continues old new ∧ before = true)))

/-- A row is decided from tables, rows and contacts, and on the conditions, whatever is on the agenda. -/
theorem State.RowDecided.congr {s v t : State} {n : Fin 16} (h : s.RowDecided t n) (tables : v.tables = s.tables)
    (reflex : v.reflex = s.reflex) (contacts : v.contacts = s.contacts) (d : List DueEvent) : v.RowDecided { t with due := d } n := by
  unfold State.RowDecided
  rw [tables, reflex, contacts]
  exact h

/-- The rows through a boundary of a settled part in running operation (R121, R122, R126). -/
theorem State.Settled.openBeat_row {s : State} (h : s.Settled) (run : s.phase = .run) (n : Fin 16) :
    s.RowDecided (s.openBeat s.sources) n := by
  unfold State.RowDecided
  intro old new x y
  let t := s.openBeat s.sources
  have settled : t.Settled := State.openBeat_settled (fun n enabled on => h.active n enabled ((s.sources_get _).symm.trans on)) h.fresh
  have tables : t.tables = s.takeSwaps.tables := s.openBeat_tables s.sources
  have row : new = s.takeSwaps.tables.reflexRow n := congrArg (fun k : Tables => k.reflexRow n) tables
  have latched := s.takeSwaps_latched s.sources
  obtain ⟨disabled, continues, ends, fires⟩ := s.takeSwaps_decides n
  rw [← row] at disabled continues ends fires
  have agrees := settled.rows n
  unfold ReflexRow.agrees at agrees
  have kept (P : ReflexRow → Prop) (follow : ∀ z was is, P z → P (z.follow new was is)) (start : P (s.takeSwaps.reflex.rows.get n)) : P y := by
    have decided := State.decided_induct (fun v => v.tables = s.takeSwaps.tables ∧ P (v.reflex.rows.get n))
      (fun v b k => ⟨(v.settleRound_tables b).trans k.1, by
        rw [State.settleRound_rows, k.1, ← row]
        exact follow _ _ _ k.2⟩)
      (fun v k => ⟨by rw [← k.1]; simp [State.tables], by rw [State.computeUnits_reflex]; exact k.2⟩) s.sources ⟨rfl, start⟩
    have opened : y = (s.decided s.sources).reflex.rows.get n := by
      show (s.openBeat s.sources).reflex.rows.get n = _
      rw [State.openBeat_eq, State.openScan_reflex]
    rw [opened]
    exact decided.2
  refine ⟨fun off => ?_, fun enabled on => ⟨settled.active n enabled on, fun over_ => ?_⟩, fun enabled goes active held => ?_,
    fun enabled free off => ?_, fun c source enabled => ?_⟩
  · have inactive : y.active = false := by
      rw [show reflexEnabled (t.tables.reflexRow n) = false from off] at agrees
      simpa using agrees
    refine ⟨inactive, kept (fun z => z.fired = x.fired) (fun z was is same => ?_) (disabled off)⟩
    rw [ReflexRow.follow, off]
    exact same
  · obtain ⟨fired, -, event⟩ := fires enabled over_ (State.openBeat_sourceActive on)
    exact ⟨latched.fired n fired, latched.events 9 event⟩
  · refine kept (fun z => z.active = true) (fun z was is on => ?_) ?_
    · rw [ReflexRow.follow, if_pos enabled]
      split
      · rfl
      · exact on
    · rcases (continues enabled goes).2 with same | decided
      · exact same.trans active
      · rw [decided, held, Bool.or_true, Bool.and_true]
        exact active
  · rw [show reflexEnabled (t.tables.reflexRow n) = true from enabled, show t.sourceActive (reflexSource (t.tables.reflexRow n)) = false from off,
      show reflexLatched (t.tables.reflexRow n) = false from free] at agrees
    simpa using agrees
  · intro before after
    have was : s.sources.get (reflexSource new) = before := by
      rw [State.sources_get, State.sourceActive_contact _ source, State.contactActive_run run]
    have on : s.takeSwaps.contactActive c = after := by
      rw [State.contactActive_run (by simpa using run), State.takeSwaps_contacts]
      exact congrArg (fun k : Tables => decide ((s.contacts.get c).filtered = contactPolarity (k.contactRow c))) tables.symm
    have follows := State.openBeat_contact_row (s := s) (by rw [← row]; exact source) s.sources
    rw [← row, was, on] at follows
    have is : y = (s.takeSwaps.reflex.rows.get n).follow new before after := follows
    have source_on : s.takeSwaps.sourceActive (reflexSource new) = after := (State.sourceActive_contact _ source).trans on
    rw [is]
    by_cases goes : Continues old new
    · have active (before_on : before = true) : x.active = true := h.active n goes.1 <| by
        rw [goes.2, ← State.sources_get, was, before_on]
      exact ReflexRow.follow_continues enabled (continues enabled goes) goes active source_on
    · exact ReflexRow.follow_begins enabled goes (fun off => ends enabled goes (source_on.trans off)) fun on =>
        (fires enabled goes (source_on.trans on)).imp id And.left

/-! ## The SLOT mark at a frame's start (R139) -/

/-- The marks that a frame's start leaves. -/
theorem slotMark_left (marks : BitVec 9) : marks &&& ~~~1#9 = marks &&& 0x1FE := rfl

theorem inSet_slot (id : TableId) : inSet 1#9 id = true ↔ id = .slot := by
  cases id <;> decide

/-- The direction byte that passes changes the link block alone. -/
theorem passByte_direction (s : State) {p : Pass} (b : Byte) (first : p.received.length = 1) : ∃ l, (passByte s p b).1 = { s with link := l } := by
  have header (q : Pass) : (coveredByte s q 1 b).state = s := by
    unfold coveredByte
    split
    · rfl
    · rw [if_pos (by decide)]
      exact headerByte_state ..
  unfold passByte
  dsimp only
  rw [first, if_pos (.inl (by decide)), header]
  exact ⟨_, rfl⟩

theorem State.latchIf_link_set (s : State) (l : Link) (b : Bool) (e : EventId) :
    ({ s with link := l } : State).latchIf b e = { s.latchIf b e with link := l } := by
  cases b <;> rfl

theorem State.takeMarks_link_set (s : State) (l : Link) (set : BitVec 9) :
    ({ s with link := l } : State).takeMarks set = { s.takeMarks set with link := l } := State.latchIf_link_set { s with service := _ } l _ _

/-- The start of an OUT frame on UP: the SLOT mark is taken, and the link block changes (R133, R139). -/
theorem State.outFrame_starts {s : State} (idle : s.link.upRun = none) : ∃ l,
    List.foldl State.byteUp s [0xD5, 0] = { s.slotSwap with link := l } := by
  have opened : List.foldl State.byteUp s [0xD5, 0] = (s.startUp 0xD5).nextUp (Pass.opened (!s.link.downLive) false
      (portBusy (s.link.port (!s.link.downLive)) s.now) s.now 0xD5) 0 := by
    show (s.byteUp 0xD5).byteUp 0 = _
    unfold State.byteUp
    rw [idle]
    rfl
  have swapped : ∃ l, (s.startUp 0xD5).slotSwap = { s.slotSwap with link := l } := by
    unfold State.slotSwap
    split
    · next marked =>
      rw [if_pos (show inSet s.service.marks .slot = true from marked)]
      exact ⟨(s.startUp 0xD5).link, State.takeMarks_link_set ..⟩
    · next clear =>
      rw [if_neg (show ¬inSet s.service.marks .slot = true from clear)]
      exact ⟨_, rfl⟩
  obtain ⟨l, swapped⟩ := swapped
  have routed (t : State) (p : Pass) (first : p.received.length = 1) : ∃ l, t.routeUp p 0 = { t with link := l } := by
    unfold State.routeUp
    split
    · exact ⟨_, rfl⟩
    · obtain ⟨l, passes⟩ := passByte_direction { t with link := _ } (p := p) 0 first
      dsimp only
      rw [passes]
      exact ⟨_, rfl⟩
  obtain ⟨k, routed⟩ := routed (s.startUp 0xD5).slotSwap (Pass.opened (!s.link.downLive) false
    (portBusy (s.link.port (!s.link.downLive)) s.now) s.now 0xD5) rfl
  refine ⟨k, opened.trans (routed.trans ?_)⟩
  rw [swapped]

/-- What a boundary that advances the number leaves of tables, marks, events and mask (R151, R130, R113). -/
theorem State.nextBeat_swaps (s : State) :
    let t := s.nextBeat
    let set := beatMarks s.service.marks
    t.service.marks = s.service.marks &&& 1 ∧
    (∀ id : TableId, t.service.active.get id =
      if id ≠ .slot ∧ s.service.marks.getLsbD id.code then s.service.shadow.get id else s.service.active.get id) ∧
    t.service.swaps = (s.service.swaps.map fun w => w &&& ~~~set).filter (fun w => decide (w ≠ 0)) ∧
    t.status.events.getLsbD 13 = (s.status.events.getLsbD 13 || s.service.swaps.any fun w => decide (w &&& ~~~set = 0)) ∧
    t.status.mask = (if set.getLsbD 8 then safeReportMask (t.tables.row .safe 0) else s.status.mask) ∧
    t.limits.supplyLow = (if set.getLsbD 8 then 0 else s.limits.supplyLow) := by
  rw [State.nextBeat_frame]
  refine ⟨State.openBeat_marks _ _, State.openBeat_active _ _, State.openBeat_swaps _ _, ?_, State.openBeat_mask _ _, ?_⟩
  · refine (State.openBeat_tablesSwapped _ _).trans ?_
    rw [List.any_map]
    rfl
  · show (s.numbered.openBeat s.sources).limits.supplyLow = _
    rw [State.openBeat_eq, State.openScan_limits, State.decided, State.settle_supplyLow, State.driven, State.computeUnits_limits,
      State.settle_supplyLow, State.swapped_limits, State.takeSwaps_limits]
    rfl

/-- What LIMIT, UNIT and INPUT swaps leave at such a boundary (R112, R55, R101). -/
theorem State.nextBeat_owners (s : State) :
    let t := s.nextBeat
    let set := beatMarks s.service.marks
    (set.getLsbD 2 = true → ∀ n, (t.limits.rows.get n).tripRun = 0 ∧ (t.limits.rows.get n).releaseRun = 0 ∧
      (t.limits.rows.get n).active = false ∧ ((t.limits.rows.get n).starve = none ∨ (t.limits.rows.get n).starve = some 0)) ∧
    (set.getLsbD 4 = true → ∀ u, (t.units.get u).Unfolded) ∧
    (set.getLsbD 5 = true → ∀ r, (t.rotation.get r).stalled = false ∧
      ((t.rotation.get r).stallTimer = none ∨ (t.rotation.get r).stallTimer = some 0)) := by
  rw [State.nextBeat_frame]
  exact ⟨s.numbered.openBeat_limit_swapped s.sources, s.numbered.openBeat_unit_swapped s.sources,
    s.numbered.openBeat_input_swapped s.sources⟩

/-- What a SCAN swap leaves of the sequencer at such a boundary (R58, R71): `s` is the part whose boundary it is, flushed before or
not. -/
theorem State.nextBeat_scanned {s : State} (w : State) (run : w.phase = .run) (now : w.now = s.now) (status : w.status = s.status)
    (scan : w.scan = s.scan ∨ w.scan = s.flush.scan) :
    let t := w.nextBeat
    (beatMarks w.service.marks).getLsbD 1 = true → (∀ e, (t.scan.entries.get e).sum = 0 ∧ (t.scan.entries.get e).samples = 0) ∧
      (∀ q ∈ t.scan.queue, q.source.isEntry = true → q.raised = s.now) ∧
      (∀ q ∈ t.scan.queue, q.source.isEntry = false → q.raised = s.now ∨ q ∈ s.scan.queue) ∧
      (∀ c, s.scan.converter = some c →
        t.scan.converter = some { c with discard := c.discard || c.request.source.isEntry }) ∧
      ∀ c, s.scan.converter = none → t.scan.converter = some c → c.discard = false ∧
        (c.request.source.isEntry = true → c.request.raised = s.now) := by
  rw [State.nextBeat_frame]
  intro t marked
  have flushed : (w.numbered.decided w.sources).scan = s.flush.scan := State.decided_flushed w.sources scan marked
  have opens := State.opens_decided (s := s) (w := w.numbered) w.sources run now scan fun k on => status ▸ on
  obtain ⟨entries, table, housekeeping, busy⟩ := opens.flushed flushed
  rw [← State.openBeat_eq] at entries table housekeeping busy
  refine ⟨fun e => ⟨(entries e).1, (entries e).2.1⟩, table, housekeeping, busy, fun c idle starts => ?_⟩
  have starts' : (w.numbered.openBeat w.sources).scan.converter = some c := starts
  rw [State.openBeat_eq] at starts'
  obtain ⟨counts, asked⟩ := State.openScan_converter (by rw [flushed]; simp [State.flush, idle]) starts'
  refine ⟨counts, fun entry => asked.elim (fun waited => ?_) fun fresh => fresh.trans opens.now⟩
  rw [flushed] at waited
  have house := (List.mem_filter.mp waited).2
  rw [entry] at house
  nomatch house

/-- The rows at such a boundary (R121, R122, R126). -/
theorem State.Settled.nextBeat_row {s : State} (h : s.Settled) (run : s.phase = .run) :
    s.nextBeat.Settled ∧ ∀ n, s.RowDecided s.nextBeat n := by
  refine ⟨h.nextBeat, fun n => ?_⟩
  have sources : s.sources = s.numbered.sources := Bank.ext_get fun i => by
    rw [State.sources_get, State.sources_get, State.numbered_sourceActive]
  rw [State.nextBeat_frame, sources]
  exact (h.numbered.openBeat_row run n).congr s.numbered_tables.symm rfl rfl _

/-- Settles O22. -/
theorem swapMarksTakeEffect : Obligations.SwapMarksTakeEffect := by
  refine ⟨fun s run => ?_, fun s forwards idle => ?_⟩
  · obtain ⟨d, r, q, runs, scan⟩ := exec_boundary_scan run
    refine ⟨_, runs, ?_⟩
    have settles := State.Settled.blocks (s := s) (t := { s with due := d, beat := { s.beat with restart := r }, scan := q })
    have facts := State.nextBeat_swaps { s with due := d, beat := { s.beat with restart := r }, scan := q }
    have owners := State.nextBeat_owners { s with due := d, beat := { s.beat with restart := r }, scan := q }
    have scanned := State.nextBeat_scanned (s := s) { s with due := d, beat := { s.beat with restart := r }, scan := q } run rfl rfl scan
    have rows := State.Settled.nextBeat_row (s := { s with due := d, beat := { s.beat with restart := r }, scan := q })
    generalize State.nextBeat _ = t at facts owners scanned rows ⊢
    obtain ⟨marks, active, swaps, event, mask, supply⟩ := facts
    obtain ⟨limits, units, inputs⟩ := owners
    refine ⟨marks, active, swaps, event, mask, supply, scanned, limits, units, inputs, fun settled => ?_⟩
    exact rows (settles settled rfl rfl rfl rfl rfl rfl rfl) run
  · obtain ⟨l, starts⟩ := State.outFrame_starts idle
    have received : exec (.sweepFrame [0xD5, 0] 0) s = .next { s.slotSwap with link := l } := by
      refine congrArg Host.Outcome.next (Eq.trans (if_pos forwards) ?_)
      rw [starts]
      rfl
    refine ⟨_, received, fun clear => ?_, fun marked => ?_⟩
    · have same : s.slotSwap = s := if_neg (by rw [show inSet s.service.marks .slot = false from clear]; simp)
      rw [same]
      exact ⟨rfl, rfl⟩
    · have taken : s.slotSwap = s.takeMarks 1#9 := if_pos marked
      rw [taken]
      refine ⟨?_, ?_, fun id => ?_, ?_⟩
      · rw [State.takeMarks, State.latchIf_service]
        exact slotMark_left _
      · rw [State.takeMarks, State.latchIf_service]
      · rw [State.takeMarks, State.latchIf_service]
        refine (takeShadow_get _ _ _ id).trans ?_
        exact if_congr (inSet_slot id) rfl rfl
      · refine (State.latchIf_self _ _ .tablesSwapped).trans ?_
        rw [List.any_map]
        rfl

end Sys2Proof.Machine
end

section
/-! Triggers raised and conversions completed (R63 to R68, R71, R78 to R81). -/

namespace Sys2Proof.Machine

theorem Bank.set_set {α : Type} {n : Nat} (b : Bank α n) (i : Fin n) (x y : α) : (b.set i x).set i y = b.set i y :=
  Bank.ext_get fun j => by
    rw [Bank.get_set, Bank.get_set, Bank.get_set]
    split <;> rfl

/-! ## Triggers (R63, R65) -/

theorem exec_triggerRaised_none {s : State} {e : Fin 24} (h : s.phase ≠ .run ∨ (s.scan.entries.get e).planned = none) :
    exec (.triggerRaised e) s = .next { s with due := s.due.erase (.trigger e) } :=
  congrArg Host.Outcome.next (if_neg fun ⟨run, planned⟩ =>
    h.elim (fun stopped => stopped ((State.beatRunning_iff _).mp run)) fun nothing => planned nothing)

theorem exec_triggerRaised {s : State} {e : Fin 24} (run : s.phase = .run) (planned : (s.scan.entries.get e).planned ≠ none) :
    exec (.triggerRaised e) s = .next ((s.clearDue (.trigger e)).raiseEntry e) :=
  congrArg Host.Outcome.next (if_pos ⟨(State.beatRunning_iff (s.clearDue (.trigger e))).mpr run, planned⟩)

/-- Settles O32. -/
theorem triggerRaisesRequest : Obligations.TriggerRaisesRequest := by
  intro s e x row r y dropped
  refine ⟨exec_triggerRaised_none, fun run planned full => ?_, fun run planned room => ⟨fun idle empty => ?_, fun busy => ?_⟩⟩
  · rw [exec_triggerRaised run planned, State.raiseEntry_dropped (s := s.clearDue (.trigger e)) full, State.drop_eq, State.spent_entry,
      if_pos rfl]
    refine congrArg (fun b => Host.Outcome.next { s with
      due := s.due.erase (.trigger e)
      scan := { s.scan with entries := b }
      status := { s.status with events := s.status.events ||| 0x400 } }) (Bank.set_set ..)
  · rw [exec_triggerRaised run planned, State.raiseEntry_joins (s := s.clearDue (.trigger e)) room,
      State.join_idle (s := (s.clearDue (.trigger e)).spent e) run idle empty rfl]
    rfl
  · refine ⟨insertRequest r s.scan.queue, ?_, insertRequest_perm r s.scan.queue, fun lawful => ?_⟩
    · rw [exec_triggerRaised run planned, State.raiseEntry_joins (s := s.clearDue (.trigger e)) room,
        State.join_busy (s := (s.clearDue (.trigger e)).spent e) busy]
      rfl
    · refine lawful.insert r (fun _ => ?_) nofun fun q mem same => room (.inl ⟨q, mem, same⟩)
      exact Nat.lt_of_not_le fun many => room (.inr many)

/-! ## Conversions (R66, R67) -/

/-- The part whose conversion has ended: the pin's value taken, the converter IDLE (R67). -/
def State.converted (s : State) (c : Conversion) (raw : BitVec 12) : State :=
  { s with due := s.due.erase .conversion, pins := s.pins.setAnalog c.request.input raw, scan := { s.scan with converter := none } }

theorem exec_conversion_none {s : State} (raw : BitVec 12) (idle : s.scan.converter = none) :
    exec (.conversionComplete raw) s = .next { s with due := s.due.erase .conversion } := by
  refine congrArg Host.Outcome.next ?_
  unfold State.complete
  rw [show (s.clearDue .conversion).scan.converter = none from idle]
  rfl

theorem exec_conversion {s : State} (raw : BitVec 12) {c : Conversion} (busy : s.scan.converter = some c) :
    exec (.conversionComplete raw) s = .next
      (if c.discard then s.converted c raw else (s.converted c raw).deliverSample c.request raw).takeNext := by
  refine congrArg Host.Outcome.next ?_
  unfold State.complete
  rw [show (s.clearDue .conversion).scan.converter = some c from busy]
  rfl

/-- Nothing is taken outside running operation (R73, R76), nor from an empty queue. -/
theorem State.takeNext_nothing {s : State} (idle : s.scan.converter = none) (h : s.phase ≠ .run ∨ s.scan.queue = []) : s.takeNext = s := by
  by_cases run : s.phase = .run
  · have empty := h.resolve_left fun stopped => stopped run
    have taken : s.scan = { s.scan with queue := [], converter := none } := by rw [← empty, ← idle]
    rw [State.takeNext_idle run idle, empty]
    show { s with scan := { s.scan with queue := [], converter := none } } = s
    rw [← taken]
  · exact if_neg fun ⟨running, _⟩ => run ((State.beatRunning_iff s).mp running)

/-- What the converter takes from a list of requests does not depend on the queue it stands in. -/
theorem State.takeFrom_setQueue (s : State) (q : List ScanRequest) (c : Option Conversion) (l : List ScanRequest) :
    (s.setQueue q c).takeFrom l = s.takeFrom l := by
  induction l generalizing s with
  | nil => rfl
  | cons r l ih =>
    have request : (s.setQueue q c).dropRequest r = (s.dropRequest r).setQueue q c := by
      unfold State.dropRequest
      split <;> rfl
    unfold State.takeFrom
    rw [request, ih]
    rfl

theorem ScanRequest.tooLate_iff {r : ScanRequest} {now : Nat} : r.tooLate now = true ↔
    r.source.isEntry = true ∧ r.late ≠ 0 ∧ r.late < now - r.raised := by
  simp [ScanRequest.tooLate, and_assoc]

/-! ## A store and the queue (R84) -/

/-- The part with another sequencer state. -/
def State.withScan (s : State) (q : Scan) : State := { s with scan := q }

section
variable (s : State) (q : Scan)

theorem State.latchIf_withScan (b : Bool) (e : EventId) : (s.withScan q).latchIf b e = (s.latchIf b e).withScan q := by
  cases b <;> rfl

theorem State.settleRound_withScan (b : Bank Bool 31) : (s.withScan q).settleRound b = (s.settleRound b).withScan q := by
  have follows : (s.withScan q).followSources b = (s.followSources b).withScan q := State.latchIf_withScan { s with reflex := _ } q _ _
  unfold State.settleRound
  rw [follows]
  rfl

/-- No course looks at the sequencer. -/
theorem State.settle_withScan (b : Bank Bool 31) : (s.withScan q).settle b = (s.settle b).withScan q := by
  have fuel (k : Nat) : ∀ (s : State) (b : Bank Bool 31), State.settleFuel k b (s.withScan q) = (State.settleFuel k b s).withScan q := by
    induction k with
    | zero => exact fun _ _ => rfl
    | succ k ih =>
      intro s b
      unfold State.settleFuel
      dsimp only
      rw [State.settleRound_withScan, ih]
      exact (apply_ite (fun t => State.withScan t q) _ _ _).symm
  exact fuel 4 s b

theorem State.checkTemp_withScan (v : Nat) : (s.withScan q).checkTemp v = (s.checkTemp v).withScan q := by
  let live := warnAfter s.tables.safeRow s.limits.warnLive v
  have warned : (({ s with limits := { s.limits with warnLive := live } } : State).withScan q).latchIf (live && !s.limits.warnLive) .thermalWarn =
      _ := State.latchIf_withScan ..
  by_cases hot : safeShutdownThreshold s.tables.safeRow ≤ v
  · refine (if_pos hot).trans (Eq.trans ?_ (congrArg (State.withScan · q) (if_pos hot).symm))
    exact congrArg (fun t => (State.setCause t .thermal).latch .thermalShutdown) warned
  · exact (if_neg hot).trans (warned.trans (congrArg (State.withScan · q) (if_neg hot).symm))

theorem State.checkSupply_withScan (v : Nat) : (s.withScan q).checkSupply v = (s.checkSupply v).withScan q := by
  unfold State.checkSupply
  dsimp only
  rw [apply_ite (fun t => State.withScan t q), apply_ite (fun t => State.withScan t q)]
  rfl

/-- No store looks at the sequencer. -/
theorem State.storeResult_withScan (slot : Fin 26) (v : Nat) : (s.withScan q).storeResult slot v = (s.storeResult slot v).withScan q := by
  have checked (t : State) : (t.withScan q).storeToChecks slot v = (t.storeToChecks slot v).withScan q := by
    unfold State.storeToChecks
    rw [State.checkTemp_withScan, State.checkSupply_withScan, apply_ite (fun t => State.withScan t q), apply_ite (fun t => State.withScan t q)]
  have limits (t : State) : (t.withScan q).storeToLimits slot v = (t.storeToLimits slot v).withScan q :=
    State.latchIf_withScan { t with limits := _ } q _ _
  have delivered : (s.withScan q).delivered slot v = (s.delivered slot v).withScan q := by
    have units (t : State) : (t.withScan q).storeToUnits slot v = (t.storeToUnits slot v).withScan q := rfl
    unfold State.delivered
    rw [← units, ← checked, ← limits]
    rfl
  rw [State.storeResult_eq, State.storeResult_eq, delivered, State.settle_withScan]
  rfl

end

/-- The part with another queue. -/
def State.withQueue (s : State) (q : List ScanRequest) : State := { s with scan := { s.scan with queue := q } }

theorem State.storeResult_withQueue (s : State) (q : List ScanRequest) (slot : Fin 26) (v : Nat) :
    (s.withQueue q).storeResult slot v = (s.storeResult slot v).withQueue q := by
  have stored : (s.withQueue q).storeResult slot v = (s.storeResult slot v).withScan { s.scan with queue := q } :=
    s.storeResult_withScan { s.scan with queue := q } slot v
  have scan := s.storeResult_scan slot v
  rw [stored]
  generalize s.storeResult slot v = t at scan
  rw [State.withQueue, scan]
  rfl

/-- No delivery looks at the queue. -/
theorem State.deliverSample_withQueue (s : State) (q : List ScanRequest) (r : ScanRequest) (raw : BitVec 12) :
    (s.withQueue q).deliverSample r raw = (s.deliverSample r raw).withQueue q := by
  unfold State.deliverSample
  dsimp only
  split
  · unfold State.addSample
    dsimp only
    rw [apply_ite (fun t => State.withQueue t q), ← State.storeResult_withQueue]
    rfl
  · exact State.storeResult_withQueue ..
  · exact State.storeResult_withQueue ..

section
variable (s : State) (r : ScanRequest) (raw : BitVec 12)

theorem State.deliverSample_queue : (s.deliverSample r raw).scan.queue = s.scan.queue := by
  unfold State.deliverSample State.addSample
  dsimp only
  (repeat' split) <;> simp

theorem State.deliverSample_converter : (s.deliverSample r raw).scan.converter = s.scan.converter := by
  unfold State.deliverSample State.addSample
  dsimp only
  (repeat' split) <;> simp

end

/-- Settles O33. -/
theorem converterTakesHead : Obligations.ConverterTakesHead := by
  intro s raw
  refine ⟨exec_conversion_none raw, fun c busy discards => ?_, fun c busy counts => ?_⟩
  · have runs := exec_conversion raw busy
    rw [discards, if_pos rfl] at runs
    intro done
    refine ⟨fun nothing => ?_, fun h rest run queue inTime => ?_, fun h rest e run queue source limit waits => ?_⟩
    · rw [runs, State.takeNext_nothing (s := s.converted c raw) rfl nothing]
      rfl
    · have fits : h.tooLate s.now = false := by
        rw [Bool.eq_false_iff]
        intro late
        obtain ⟨entry, some_, over_⟩ := ScanRequest.tooLate_iff.mp late
        rcases inTime with house | never | short
        · rw [house] at entry
          nomatch entry
        · exact some_ never
        · omega
      rw [runs, State.takeNext_idle (s := s.converted c raw) run rfl, show (s.converted c raw).scan.queue = h :: rest from queue,
        State.takeFrom_start (s.converted c raw) fits]
      rfl
    · have late : h.tooLate s.now = true := ScanRequest.tooLate_iff.mpr ⟨by rw [source]; rfl, by omega, waits⟩
      intro x y dropped
      have after : exec (.conversionComplete raw) s = .next (((s.converted c raw).drop e).takeFrom rest) := by
        rw [runs, State.takeNext_idle (s := s.converted c raw) run rfl, show (s.converted c raw).scan.queue = h :: rest from queue,
          State.takeFrom_late (s.converted c raw) late, State.dropRequest, source]
      have before : exec (.conversionComplete raw) dropped = .next (((s.converted c raw).drop e).takeFrom rest) := by
        have runs' := exec_conversion (s := dropped) raw busy
        rw [discards, if_pos rfl, State.takeNext_idle (s := dropped.converted c raw) run rfl] at runs'
        rw [runs']
        exact congrArg Host.Outcome.next (State.takeFrom_setQueue ((s.converted c raw).drop e) rest none rest)
      refine ⟨⟨_, after⟩, after.trans before.symm, fun last => ?_⟩
      rw [after, last]
      rfl
  · have delivered (w : State) (on : w.scan.converter = some c) :
        exec (.conversionComplete raw) w = .next ((w.converted c raw).deliverSample c.request raw).takeNext := by
      rw [exec_conversion raw on, counts, if_neg (by simp)]
    have ends := delivered s busy
    have alone := delivered (s.withQueue []) busy
    have emptied : ((s.withQueue []).converted c raw).deliverSample c.request raw =
        ((s.converted c raw).deliverSample c.request raw).withQueue [] := State.deliverSample_withQueue (s.converted c raw) [] c.request raw
    have idle : ((s.converted c raw).deliverSample c.request raw).scan.converter = none := State.deliverSample_converter ..
    have queue : ((s.converted c raw).deliverSample c.request raw).scan.queue = s.scan.queue := State.deliverSample_queue ..
    have due : ((s.converted c raw).deliverSample c.request raw).due = s.due.erase .conversion := State.deliverSample_due ..
    have pins : ((s.converted c raw).deliverSample c.request raw).pins = s.pins.setAnalog c.request.input raw :=
      State.deliverSample_pins ..
    rw [emptied] at alone
    generalize (s.converted c raw).deliverSample c.request raw = d at ends alone idle queue due pins
    rw [State.takeNext_nothing (s := d.withQueue []) idle (.inr rfl)] at alone
    refine ⟨d.withQueue [], d.takeNext, alone, ends, ?_⟩
    refine (exec_conversion raw rfl).trans (congrArg (fun t => Host.Outcome.next (State.takeNext t)) ?_)
    have again : d.pins.setAnalog c.request.input raw = d.pins := by
      rw [pins]
      exact congrArg (fun b => { s.pins with analog := b }) (Bank.set_set ..)
    show ({ d with due := s.due.erase .conversion, pins := d.pins.setAnalog c.request.input raw,
                   scan := { d.scan with queue := s.scan.queue, converter := none } } : State) = d
    rw [again, ← due, ← queue, ← idle]

end Sys2Proof.Machine
end

section
/-! A conversion delivered, and the course of a store (R67, R78 to R81, R84). -/

namespace Sys2Proof.Machine

theorem State.storeResult_slots (s : State) (slot : Fin 26) (v : Nat) :
    (s.storeResult slot v).slots = s.slots.set slot (Slot.stored slot v) := by
  rw [State.storeResult_eq, State.settle_slots]
  simp [State.delivered]

/-- A unit under no hold is not HELD. -/
theorem PulseUnit.obeys_none {x : PulseUnit} (h : x.obeys .none = true) : x.state.held = false := by
  unfold PulseUnit.obeys at h
  cases e : x.state <;> simp_all [UnitState.held]

/-- A unit that neither an enabled row nor a safe cause holds stands as its fold-back leaves it (R51, R120). -/
theorem State.Settled.storeResult_unit {s : State} (h : s.Settled) (slot : Fin 26) (v : Nat) {u : Fin 4}
    (safe : (s.storeResult slot v).safeActive = false)
    (rows : ∀ k, reflexEnabled (s.tables.reflexRow k) = true →
      reflexAction (s.tables.reflexRow k) u ≠ .coast ∧ reflexAction (s.tables.reflexRow k) u ≠ .brake) :
    (s.storeResult slot v).units.get u = (s.storeToUnits slot v).units.get u := by
  have unsafe_ : (s.delivered slot v).safeActive = false := (State.settle_safeActive _ _).symm.trans safe
  have before : s.safeActive = false := by
    have latched : s.Latched (s.delivered slot v) := by
      have stored : s.Latched ({ s with slots := s.slots.set slot (Slot.stored slot v) } : State) := (State.Latched.refl s).congr rfl rfl
      have limits : s.Latched (State.storeToLimits { s with slots := s.slots.set slot (Slot.stored slot v) } slot v) :=
        State.Latched.latchIf _ _ (stored.congr rfl rfl)
      exact (limits.storeToChecks slot v).congr rfl rfl
    by_contra on
    unfold State.safeActive at on unsafe_
    rw [Bool.or_eq_false_iff, Bool.or_eq_false_iff] at unsafe_
    rw [Bool.not_eq_false, Bool.or_eq_true, Bool.or_eq_true] at on
    obtain ⟨⟨link, thermal⟩, supply⟩ := unsafe_
    rcases on with (on | on) | on
    · rw [latched.link on] at link
      nomatch link
    · rw [latched.thermal on] at thermal
      nomatch thermal
    · rw [latched.supply on] at supply
      nomatch supply
  have within := (h.delivered slot v (U := fun _ => False) (fun _ => False.elim) (fun _ => False.elim) fun _ => False.elim).within
  have free : s.holdOf u = .none := by
    refine (State.holdOf_none s u).mpr ⟨?_, fun n on => ?_⟩
    · unfold State.safeHold
      rw [before]
      rfl
    · have enabled := within.active n (by rw [State.delivered_rows]; exact on)
      exact (ReflexAction.hold_none_iff _).mpr (rows n enabled)
  have obeyed := h.holds.obeyed u
  rw [free] at obeyed
  have kept := (h.delivered slot v (U := (· = u)) (fun _ _ => unsafe_) (fun w same => same ▸ rows)
    fun w same => same ▸ PulseUnit.obeys_none obeyed).settle s.sources
  exact (kept.2.units u rfl).trans (State.delivered_unit ..)

/-- Settles O34. -/
theorem conversionDeliversSample : Obligations.ConversionDeliversSample := by
  refine ⟨fun s raw c busy counts empty => ?_, fun s slot v => ⟨State.settle_course _ _, fun settled =>
    ⟨settled.storeResult slot v, fun u => settled.storeResult_unit slot v⟩⟩⟩
  intro cal sample done
  have runs := exec_conversion raw busy
  have idle := State.takeNext_nothing (s := (s.converted c raw).deliverSample c.request raw) (State.deliverSample_converter ..)
    (.inr ((State.deliverSample_queue ..).trans empty))
  rw [counts, if_neg (by simp), idle] at runs
  have converted : s.converted c raw = done s.scan.entries := by
    have scan : ({ s.scan with converter := none } : Scan) = ⟨s.scan.entries, [], none⟩ := by rw [← empty]
    exact congrArg (fun q => ({ s with
      due := s.due.erase .conversion
      pins := s.pins.setAnalog c.request.input raw
      scan := q } : State)) scan
  refine ⟨_, runs, (State.deliverSample_queue ..).trans empty, State.deliverSample_converter .., State.deliverSample_pins .., fun e source => ?_,
    fun source => ?_, fun source => ?_, State.deliverSample_pending .., State.deliverSample_due .., State.deliverSample_now ..,
    State.deliverSample_phase .., State.deliverSample_cause .., State.deliverSample_strap .., State.deliverSample_beat ..,
    State.deliverSample_contacts .., State.deliverSample_link .., State.deliverSample_service .., State.deliverSample_profile ..,
    State.deliverSample_answer .., State.deliverSample_freeCount ..⟩
  · intro x row value
    have adds : (s.converted c raw).deliverSample c.request raw = (done s.scan.entries).addSample e sample := by
      rw [converted]
      unfold State.deliverSample
      rw [source]
      rfl
    rw [adds]
    refine ⟨fun more => if_neg more, fun last => ?_⟩
    have stored : (done s.scan.entries).addSample e sample =
        (done (s.scan.entries.set e { x with sum := 0, samples := 0 })).storeResult (scanResultSlot row) value := if_pos last
    rw [stored]
    exact ⟨rfl, by rw [State.storeResult_scan], State.storeResult_slots ..⟩
  · have stored : (s.converted c raw).deliverSample c.request raw = (done s.scan.entries).storeResult 24 (sample * 16) := by
      rw [converted]
      unfold State.deliverSample
      rw [source]
      rfl
    rw [stored]
    exact ⟨rfl, by rw [State.storeResult_scan], State.storeResult_slots ..⟩
  · have stored : (s.converted c raw).deliverSample c.request raw = (done s.scan.entries).storeResult 25 (sample * 16) := by
      rw [converted]
      unfold State.deliverSample
      rw [source]
      rfl
    rw [stored]
    exact ⟨rfl, by rw [State.storeResult_scan], State.storeResult_slots ..⟩

end Sys2Proof.Machine
end

section
/-! What a millisecond tick counts, and what falls due at it (R5, R26, R30, R90, R98, R99, R141, R155). -/

namespace Sys2Proof.Machine

/-! ## The agenda of the tick -/

theorem Profile.mem_msTick (p : Profile) (e : DueEvent) : e ∈ p.msTick.2 ↔ p.save = .busy ∧
    ((e = .blockBegin ∧ ∀ k, p.writing = some k → 4 ≤ k + 1) ∨ (e = .blockVerified ∧ ∃ k, p.writing = some k ∧ 4 ≤ k + 1)) := by
  unfold Profile.msTick
  cases save : p.save with
  | idle => simp
  | failed => simp
  | busy =>
    cases writing : p.writing with
    | none => simp
    | some k =>
      dsimp only
      by_cases ends : Config.blockMs ≤ k + 1
      · have three : 3 ≤ k := Nat.le_of_succ_le_succ ends
        rw [if_pos ends]
        simp [three, or_comm]
      · have three : ¬3 ≤ k := fun h => ends (Nat.succ_le_succ h)
        rw [if_neg ends]
        simp [three]

section
variable (s : State)

theorem State.tickDue_filtered (c : Fin 8) : .filtered c ∈ s.tickDue ↔ (s.sampleContacts.get c).2 = true := by
  simp [State.tickDue, Profile.mem_msTick]

theorem State.tickDue_pauseEnd (u : Fin 4) : .pauseEnd u ∈ s.tickDue ↔ (s.tickUnits.get u).2.1 = true := by
  simp [State.tickDue, Profile.mem_msTick]

theorem State.tickDue_brakeStart (u : Fin 4) : .brakeStart u ∈ s.tickDue ↔ (s.tickUnits.get u).2.2.1 = true := by
  simp [State.tickDue, Profile.mem_msTick]

theorem State.tickDue_brakeEnd (u : Fin 4) : .brakeEnd u ∈ s.tickDue ↔ (s.tickUnits.get u).2.2.2 = true := by
  simp [State.tickDue, Profile.mem_msTick]

theorem State.tickDue_stall (r : Fin 3) : .stall r ∈ s.tickDue ↔ (s.tickRotations.get r).2 = true := by
  simp [State.tickDue, Profile.mem_msTick]

theorem State.tickDue_linkExpiry : .linkExpiry ∈ s.tickDue ↔ (s.link.timer.msTick (safeLinkTimeout s.tables.safeRow)).2 = true := by
  simp [State.tickDue, Profile.mem_msTick]

theorem State.tickDue_block {e : DueEvent} (block : e = .blockBegin ∨ e = .blockVerified) : e ∈ s.tickDue ↔ e ∈ s.profile.msTick.2 := by
  rcases block with rfl | rfl <;> simp [State.tickDue]

end

/-- With nothing due before it, what is on the agenda after the tick fell due at it. -/
theorem State.mem_msTick {s : State} (empty : s.due = []) (pins : Byte) (e : DueEvent) :
    e ∈ (s.msTick pins).due ↔ e ∈ (s.wrapDivider pins).tickDue := by
  have before : e ∉ (s.wrapDivider pins).tickCounts.due := by
    show e ∉ (s.due.erase .msTick).filter _
    rw [empty]
    exact List.not_mem_nil
  exact (State.mem_markFirst ..).trans (or_iff_left before)

/-! ## The blocks -/

/-- A contact sampled, case by case (R90). -/
theorem Contact.sample_spec (x : Contact) (level : Bool) (d : Nat) :
    (level = x.filtered → x.sample level d = ({ x with hold := none }, false)) ∧
    (level ≠ x.filtered → x.hold = none → d = 0 → x.sample level d = (x, true)) ∧
    (level ≠ x.filtered → x.hold = none → 0 < d → x.sample level d = ({ x with hold := some 0 }, false)) ∧
    (∀ h, h < 15 → level ≠ x.filtered → x.hold = some h →
      x.sample level d = ({ x with hold := some (h + 1) }, decide (d ≤ h + 1))) := by
  unfold Contact.sample
  refine ⟨fun same => if_pos same, fun other idle zero => ?_, fun other idle more => ?_, fun h small other count => ?_⟩ <;> rw [if_neg other]
  · rw [idle]
    exact if_pos zero
  · rw [idle]
    exact if_neg (Nat.ne_of_gt more)
  · rw [count]
    dsimp only
    rw [show min (h + 1) 15 = h + 1 by omega]

/-- A rotation input at the tick (R98, R99). -/
theorem Rotation.msTick_spec (x : Rotation) (w : Nat) :
    (x.msTick w).1 = { x with age := min (x.age + 1) 65535, stallTimer := x.stallTimer.map fun k => min (k + 1) w } ∧
    ((x.msTick w).2 = true ↔ ∃ k, x.stallTimer = some k ∧ k < w ∧ k + 1 = w) := by
  unfold Rotation.msTick
  cases timer : x.stallTimer with
  | none => exact ⟨by simp, by simp⟩
  | some k =>
    refine ⟨rfl, ?_⟩
    simp only [decide_eq_true_eq, Option.some.injEq, exists_eq_left']
    omega

/-- The zero-demand count at the tick (R26). -/
theorem PulseUnit.zeroTick_spec (x : PulseUnit) (row : Row) :
    (x.zeroTick row).1 = { x with zeroCount := (x.zeroTick row).1.zeroCount } ∧
    (x.zeroTick row).1.zeroCount = (if x.demand = 0 ∧ x.dirMemory ≠ none then
      (match x.zeroCount with
       | none => some 0
       | some k => some (min (k + 1) 255)) else x.zeroCount) ∧
    ((x.zeroTick row).2 = true ↔ x.demand = 0 ∧ x.dirMemory ≠ none ∧
      ∃ k, (x.zeroTick row).1.zeroCount = some k ∧ unitReversalPause row ≤ k) := by
  unfold PulseUnit.zeroTick
  by_cases rests : x.demand = 0 ∧ x.dirMemory ≠ none
  · rw [if_pos rests, if_pos rests]
    refine ⟨rfl, ?_, ?_⟩
    · cases x.zeroCount <;> rfl
    · simp [rests]
  · rw [if_neg rests, if_neg rests]
    refine ⟨rfl, rfl, ?_⟩
    simp only [Bool.false_eq_true, false_iff]
    exact fun h => rests ⟨h.1, h.2.1⟩

/-- The brake count at the tick (R30, R31). -/
theorem PulseUnit.brakeTick_spec (x : PulseUnit) :
    x.brakeTick.1 = { x with brakeCount := x.brakeTick.1.brakeCount } ∧
    (x.brakeTick.2.1 = true ↔ x.state = .brake ∧ ∃ n, x.brakeCount = .waiting n) ∧
    (x.brakeTick.2.2 = true ↔ x.state = .brake ∧ ∃ k, x.brakeCount = .running k ∧ k ≤ 1) ∧
    (∀ k, x.state = .brake → x.brakeCount = .running (k + 2) → x.brakeTick.1.brakeCount = .running (k + 1)) := by
  unfold PulseUnit.brakeTick
  by_cases brakes : x.state = .brake
  · rw [if_pos brakes]
    cases count : x.brakeCount with
    | idle => exact ⟨rfl, by simp, by simp, fun _ _ more => nomatch more⟩
    | waiting n => exact ⟨rfl, by simp [brakes], by simp, fun _ _ more => nomatch more⟩
    | running k =>
      dsimp only
      by_cases last : k ≤ 1
      · rw [if_pos last]
        refine ⟨rfl, by simp, by simp [brakes, last], fun m _ more => ?_⟩
        injection more
        omega
      · rw [if_neg last]
        refine ⟨rfl, by simp, by simp; omega, fun m _ more => ?_⟩
        injection more with more
        simp [more]
  · rw [if_neg brakes]
    exact ⟨rfl, by simp [brakes], by simp [brakes], fun _ on => absurd on brakes⟩

/-- A unit at the tick (R26, R30, R31). -/
theorem PulseUnit.msTick_spec (x : PulseUnit) (row : Row) :
    let y := (x.msTick row).1
    y = { x with zeroCount := y.zeroCount, brakeCount := y.brakeCount } ∧
    y.zeroCount = (if x.demand = 0 ∧ x.dirMemory ≠ none then
      (match x.zeroCount with
       | none => some 0
       | some k => some (min (k + 1) 255)) else x.zeroCount) ∧
    ((x.msTick row).2.1 = true ↔ x.demand = 0 ∧ x.dirMemory ≠ none ∧ ∃ k, y.zeroCount = some k ∧ unitReversalPause row ≤ k) ∧
    ((x.msTick row).2.2.1 = true ↔ x.state = .brake ∧ ∃ n, x.brakeCount = .waiting n) ∧
    ((x.msTick row).2.2.2 = true ↔ x.state = .brake ∧ ∃ k, x.brakeCount = .running k ∧ k ≤ 1) ∧
    (∀ k, x.state = .brake → x.brakeCount = .running (k + 2) → y.brakeCount = .running (k + 1)) := by
  intro y
  obtain ⟨zeroed, count, ends⟩ := x.zeroTick_spec row
  obtain ⟨braked, starts, stops, runs⟩ := (x.zeroTick row).1.brakeTick_spec
  have state : (x.zeroTick row).1.state = x.state := by rw [zeroed]
  have brake : (x.zeroTick row).1.brakeCount = x.brakeCount := by rw [zeroed]
  have is : y = (x.zeroTick row).1.brakeTick.1 := rfl
  have zero : y.zeroCount = (x.zeroTick row).1.zeroCount := by rw [is, braked]
  rw [state, brake] at starts stops runs
  refine ⟨?_, zero.trans count, ?_, starts, stops, runs⟩
  · rw [zero, is]
    exact braked.trans (congrArg (fun v : PulseUnit => ({ v with brakeCount := (x.zeroTick row).1.brakeTick.1.brakeCount } : PulseUnit)) zeroed)
  · rw [zero]
    exact ends

/-- A save at the tick (R155). -/
theorem Profile.msTick_spec (p : Profile) : (p.save ≠ .busy ∨ p.writing = none → p.msTick.1 = p) ∧
    (∀ k, p.save = .busy → p.writing = some k → p.msTick.1 = { p with writing := some (min (k + 1) 4) }) := by
  unfold Profile.msTick
  refine ⟨fun rests => ?_, fun k busy writing => by rw [busy, writing]; rfl⟩
  cases save : p.save with
  | idle => rfl
  | failed => rfl
  | busy =>
    rw [rests.resolve_left fun h => h save]

/-- The link timer at the tick (R141). -/
theorem LinkTimer.msTick_spec (timer : LinkTimer) (timeout : Nat) :
    (∀ c, timer = .running c → (timer.msTick timeout).1 = .running (min (c + 1) 255)) ∧
    ((∀ c, timer ≠ .running c) → (timer.msTick timeout).1 = timer) ∧
    ((timer.msTick timeout).2 = true ↔ ∃ c, timer = .running c ∧ 0 < timeout ∧ timeout ≤ c + 1) := by
  cases timer <;> simp [LinkTimer.msTick]

/-- Settles O26. -/
theorem millisecondTickCounts : Obligations.MillisecondTickCounts := by
  intro s pins empty
  have due (e : DueEvent) := State.mem_msTick empty pins e
  refine ⟨s.msTick pins, rfl, rfl, rfl, fun c => ?_, fun r => ?_, fun u => ?_, ?_, ?_, ?_, ?_, ?_, ?_, rfl, rfl, rfl, rfl, rfl, rfl, rfl, rfl, rfl,
    rfl, rfl, rfl, rfl, rfl⟩
  · intro x d
    have contact := s.msTick_contact pins c
    have falls := (due (.filtered c)).trans (State.tickDue_filtered ..)
    rw [State.sampleContacts, Bank.get_mapIdx] at falls
    by_cases running : s.phase = .run ∨ s.phase = .standby
    · have on := (State.conditionerRunning_iff s).mpr running
      obtain ⟨same, ends, begins, counts⟩ := x.sample_spec (pins.getLsbD c) d
      rw [if_pos on] at contact
      have falls' : DueEvent.filtered c ∈ (s.msTick pins).due ↔ (x.sample (pins.getLsbD c) d).2 = true :=
        falls.trans (by rw [show (s.wrapDivider pins).conditionerRunning = true from on]; rfl)
      have contact' : (s.msTick pins).contacts.get c = (x.sample (pins.getLsbD c) d).1 := contact
      rw [if_pos running, contact', falls']
      refine ⟨fun h => by rw [same h]; simp, fun h i z => by rw [ends h i z]; simp, fun h i z => by rw [begins h i z]; simp,
        fun k small h count => by rw [counts k small h count]; simp⟩
    · have off : s.conditionerRunning = false := Bool.eq_false_iff.mpr fun on => running ((State.conditionerRunning_iff s).mp on)
      rw [off] at contact
      rw [if_neg running]
      refine ⟨contact, fun mem => ?_⟩
      have := falls.mp mem
      rw [show (s.wrapDivider pins).conditionerRunning = false from off] at this
      nomatch this
  · intro x w
    have rotation := s.msTick_rotation pins r
    have falls := (due (.stall r)).trans (State.tickDue_stall ..)
    rw [State.tickRotations, Bank.get_mapIdx] at falls
    by_cases running : s.phase = .run ∨ s.phase = .standby
    · have on := (State.conditionerRunning_iff s).mpr running
      obtain ⟨counted, ends⟩ := x.msTick_spec w
      rw [if_pos on] at rotation
      rw [if_pos running]
      refine ⟨rotation.trans counted, falls.trans (Iff.trans ?_ ends)⟩
      rw [show (s.wrapDivider pins).conditionerRunning = true from on]
      rfl
    · have off : s.conditionerRunning = false := Bool.eq_false_iff.mpr fun on => running ((State.conditionerRunning_iff s).mp on)
      rw [off] at rotation
      rw [if_neg running]
      refine ⟨rotation, fun mem => ?_⟩
      have := falls.mp mem
      rw [show (s.wrapDivider pins).conditionerRunning = false from off] at this
      nomatch this
  · intro x y
    have unit : y = (x.msTick (s.tables.unitRow u)).1 := s.msTick_unit pins u
    have got : (s.wrapDivider pins).tickUnits.get u = x.msTick (s.tables.unitRow u) := Bank.get_mapIdx ..
    obtain ⟨frame, zero, pause, start, ends, runs⟩ := x.msTick_spec (s.tables.unitRow u)
    rw [due, due, due, State.tickDue_pauseEnd, State.tickDue_brakeStart, State.tickDue_brakeEnd, got, unit]
    exact ⟨frame, zero, pause, start, ends, runs⟩
  · exact fun c running => congrArg (fun timer => { s.link with timer := timer }) ((LinkTimer.msTick_spec ..).1 c running)
  · exact fun stopped => congrArg (fun timer => { s.link with timer := timer }) ((LinkTimer.msTick_spec ..).2.1 stopped)
  · exact (due .linkExpiry).trans ((State.tickDue_linkExpiry ..).trans (LinkTimer.msTick_spec ..).2.2)
  · intro idle
    rw [due, due, State.tickDue_block _ (.inl rfl), State.tickDue_block _ (.inr rfl), Profile.mem_msTick, Profile.mem_msTick]
    exact ⟨s.profile.msTick_spec.1 (.inl idle), fun h => idle h.1, fun h => idle h.1⟩
  · intro busy none
    rw [due, due, State.tickDue_block _ (.inl rfl), State.tickDue_block _ (.inr rfl), Profile.mem_msTick, Profile.mem_msTick]
    have still : (s.wrapDivider pins).profile.writing = .none := none
    refine ⟨s.profile.msTick_spec.1 (.inr none), ⟨busy, .inl ⟨rfl, fun k on => ?_⟩⟩, fun h => ?_⟩
    · rw [still] at on
      nomatch on
    · rw [still] at h
      simp at h
  · intro k busy writing
    rw [due, due, State.tickDue_block _ (.inl rfl), State.tickDue_block _ (.inr rfl), Profile.mem_msTick, Profile.mem_msTick]
    have on : (s.wrapDivider pins).profile.save = .busy ∧ (s.wrapDivider pins).profile.writing = some k := ⟨busy, writing⟩
    rw [on.1, on.2]
    exact ⟨s.profile.msTick_spec.2 k busy writing, by simp, by simp⟩

end Sys2Proof.Machine
end

section
/-! An event that only releases conditions: its course is one round, in which each unit receives one change of hold action (R120);
and DISABLE carried out (R23). -/

namespace Sys2Proof.Machine

/-! ## The course of a release -/

/-- What requires a qualification stays required where every unit drives as hard as before (R109). -/
theorem State.limitQualified_mono {s t : State} (running : t.conditionerRunning = s.conditionerRunning) (tables : t.tables = s.tables)
    (drives : ∀ u d, (s.units.get u).drivesAtLeast d = true → (t.units.get u).drivesAtLeast d = true) {n : Fin 16}
    (qualified : s.limitQualified n = true) : t.limitQualified n = true := by
  unfold State.limitQualified at qualified ⊢
  rw [tables, running]
  cases names : limitQualifier (s.tables.limitRow n) with
  | none => simpa [names] using qualified
  | some u =>
    simp only [names, Bool.and_eq_true] at qualified ⊢
    exact ⟨qualified.1, drives u _ qualified.2⟩

theorem State.stallQualified_mono {s t : State} (running : t.conditionerRunning = s.conditionerRunning) (tables : t.tables = s.tables)
    (drives : ∀ u d, (s.units.get u).drivesAtLeast d = true → (t.units.get u).drivesAtLeast d = true) {r : Fin 3}
    (qualified : s.stallQualified r = true) : t.stallQualified r = true := by
  unfold State.stallQualified at qualified ⊢
  rw [tables, running]
  cases names : rotationLinked (s.tables.rotationRow r) with
  | none => simp [names] at qualified
  | some u =>
    simp only [names, Bool.and_eq_true] at qualified ⊢
    exact ⟨qualified.1, drives u _ qualified.2⟩

/-- Where each condition of one state is one of another, so is each source. -/
theorem State.sourceActive_mono {s t : State} (limits : ∀ n, (s.limits.rows.get n).active = true → (t.limits.rows.get n).active = true)
    (contacts : ∀ c, s.contactActive c = true → t.contactActive c = true)
    (inputs : ∀ r, (s.rotation.get r).stalled = true → (t.rotation.get r).stalled = true)
    (units : ∀ u, (s.units.get u).exhausted = true → (t.units.get u).exhausted = true) {i : Fin 31} (on : s.sourceActive i = true) :
    t.sourceActive i = true := by
  unfold State.sourceActive at on ⊢
  split at on
  · next limit => rw [if_pos limit]; exact limits _ on
  · next limit =>
    rw [if_neg limit]
    split at on
    · next contact => rw [if_pos contact]; exact contacts _ on
    · next contact =>
      rw [if_neg contact]
      split at on
      · next input => rw [if_pos input]; exact inputs _ on
      · next input => rw [if_neg input]; exact units _ on

/-- No driving unit is held, and each condition of a limit row or rotation input rests on a qualification the units give. -/
structure State.Yielding (s : State) : Prop where
  unheld : ∀ u, (s.units.get u).state.driving = true → s.holdOf u = .none
  limits : ∀ n, (s.limits.rows.get n).active = true → (s.limits.rows.get n).qualified = true ∧ s.limitQualified n = true
  inputs : ∀ r, (s.rotation.get r).stalled = true → (s.rotation.get r).stallTimer.isSome = true ∧ s.stallQualified r = true

namespace State.Yielding
variable {s : State}

/-- A round of a release leaves every source as it is: no unit stops driving, so no qualification ends in it. -/
theorem sources (h : s.Yielding) {b : Bank Bool 31} (released : ∀ i, s.sourceActive i = true → b.get i = true) (i : Fin 31) :
    (s.settleRound b).sourceActive i = s.sourceActive i := by
  have free (u : Fin 4) (driving : (s.units.get u).state.driving = true) : (s.settleRound b).holdOf u = .none :=
    State.settleRound_unheld s b released u (h.unheld u driving)
  have drives (u : Fin 4) (d : Nat) (hard : (s.units.get u).drivesAtLeast d = true) :
      ((s.settleRound b).units.get u).drivesAtLeast d = true := by
    rw [State.settleRound_units_get]
    exact PulseUnit.deliverHold_drives _ _ _ _ (free u) hard
  have running : (s.settleRound b).conditionerRunning = s.conditionerRunning := by simp [State.conditionerRunning]
  rw [Bool.eq_iff_iff]
  refine ⟨State.settleRound_sources s b i, State.sourceActive_mono (fun n on => ?_) (fun c on => ?_) (fun r on => ?_) fun u on => ?_⟩
  · obtain ⟨was, qualified⟩ := h.limits n on
    rw [State.settleRound_limits_get, State.limitQualified_mono running (State.settleRound_tables s b) drives qualified,
      LimitRow.requalify_same _ _ _ was]
    exact on
  · simpa [State.contactActive, State.conditionerRunning, State.tables] using on
  · obtain ⟨timed, qualified⟩ := h.inputs r on
    rw [State.settleRound_rotation_get, State.stallQualified_mono running (State.settleRound_tables s b) drives qualified,
      Rotation.requalify_same _ _ timed (by simp)]
    exact on
  · rw [State.settleRound_units_get, PulseUnit.deliverHold_exhausted_eq _ _ _ (free u)]
    exact on

/-- The course of a release is one round. -/
theorem settle (h : s.Yielding) {b : Bank Bool 31} (released : ∀ i, s.sourceActive i = true → b.get i = true) :
    s.settle b = s.settleRound b :=
  State.settle_once (Bank.ext_get fun i => by rw [State.sources_get, State.sources_get, h.sources released])

/-- In it each unit receives the hold action it has after it. -/
theorem settle_unit (h : s.Yielding) {b : Bank Bool 31} (released : ∀ i, s.sourceActive i = true → b.get i = true) (u : Fin 4) :
    (s.settle b).units.get u = (s.units.get u).deliverHold (s.tables.unitRow u) ((s.settle b).holdOf u) := by
  rw [h.settle released, State.settleRound_units_get]

end State.Yielding

/-- A held unit at one delivery of a hold action: released or held still (R34, R35). -/
theorem PulseUnit.deliverHold_turns {x : PulseUnit} (held : x.state.held = true) (row : Row) (h : Hold) :
    (h = .none → PulseUnit.LeavesHeld x (x.deliverHold row h) row) ∧ (h ≠ .none → PulseUnit.StaysHeld x (x.deliverHold row h)) := by
  refine ⟨fun gone => ?_, fun some => ?_⟩
  · have left : x.deliverHold row h = x.leaveHeld row := by
      subst gone
      unfold PulseUnit.deliverHold
      split <;> simp_all [UnitState.held]
    rw [left]
    exact PulseUnit.present_turns _ _
  · rw [PulseUnit.deliverHold_held held row some]
    exact PulseUnit.heldAs_stays x some

/-! ## DISABLE (R23) -/

/-- Requalifying only releases sources. -/
theorem State.requalify_releases {s : State} {i : Fin 31} (on : s.requalify.sourceActive i = true) : s.sourceActive i = true := by
  refine State.sourceActive_mono (s := s.requalify) (t := s) (fun n active => ?_) (fun _ => id) (fun r stalled => ?_) (fun _ => id) on
  · rw [State.requalify_limit] at active
    exact (LimitRow.requalify_active _ _ _ active).1
  · rw [State.requalify_input] at stalled
    exact Rotation.requalify_stalled _ _ stalled

/-- With every row and input brought to its qualification, their conditions rest on one. -/
theorem State.requalify_yields {s : State} (unheld : ∀ u, (s.units.get u).state.driving = true → s.holdOf u = .none)
    (reset : ∀ n, (s.limits.rows.get n).qualified = false → s.limits.rows.get n = LimitRow.atReset) : s.requalify.Yielding where
  unheld u driving := (State.requalify_holdOf s u).trans (unheld u driving)
  limits n on := by
    have still : s.requalify.limitQualified n = s.limitQualified n := rfl
    rw [still, State.requalify_limit, LimitRow.requalify_qualified, and_self, ← Bool.not_eq_false]
    intro none
    rw [State.requalify_limit, none, LimitRow.requalify_reset _ _ (reset n)] at on
    simp [LimitRow.atReset] at on
  inputs r on := by
    have still : s.requalify.stallQualified r = s.stallQualified r := rfl
    rw [still]
    rw [State.requalify_input] at on ⊢
    unfold Rotation.requalify at on ⊢
    cases qualified : s.stallQualified r with
    | false => simp [qualified] at on
    | true => cases timer : (s.rotation.get r).stallTimer <;> simp [timer]

/-- The course that follows a requalification, seen from before it. -/
theorem State.requalify_course (s : State) (b : Bank Bool 31) : State.Course s (s.requalify.settle b) :=
  { State.settle_course s.requalify b with
    rotation := fun r => by
      have course := (State.settle_course s.requalify b).rotation r
      rw [State.requalify_input, Rotation.requalify_frame] at course
      exact course }

/-- The units after the named ones have entered OFF. -/
def State.disabled (s : State) (mask : Byte) : State :=
  { s with units := s.units.mapIdx fun u (x : PulseUnit) => if mask.getLsbD u then x.disableUnit else x }

theorem State.disabled_get (s : State) (m : Byte) (u : Fin 4) :
    (s.disabled m).units.get u = if m.getLsbD u then (s.units.get u).disableUnit else s.units.get u := by
  simp [State.disabled]

/-- A unit left by the DISABLE, or in OFF already. -/
theorem State.disabled_left {s : State} {m : Byte} {u : Fin 4} (left : m.getLsbD u = false ∨ (s.units.get u).state = .off) :
    (s.disabled m).units.get u = s.units.get u := by
  rw [State.disabled_get]
  rcases left with out | off
  · rw [out]; rfl
  · unfold PulseUnit.disableUnit
    rw [if_pos off, ite_self]

theorem PulseUnit.disableUnit_off (x : PulseUnit) : x.disableUnit.state = .off := by
  unfold PulseUnit.disableUnit
  split
  · next off => exact off
  · exact PulseUnit.toOff_state x

/-- A unit that the DISABLE names is in OFF. -/
theorem State.disabled_named {s : State} {m : Byte} {u : Fin 4} (named : m.getLsbD u = true) : ((s.disabled m).units.get u).state = .off := by
  rw [State.disabled_get, if_pos named]
  exact PulseUnit.disableUnit_off _

/-- Entry into OFF makes FXn of no unit active. -/
theorem State.disabled_exhausted {s : State} {m : Byte} {u : Fin 4} (on : ((s.disabled m).units.get u).exhausted = true) :
    (s.units.get u).exhausted = true := by
  rw [State.disabled_get] at on
  split at on
  · unfold PulseUnit.disableUnit at on
    split at on
    · exact on
    · simp at on
  · exact on

/-- Entry into OFF releases sources alone. -/
theorem State.disabled_releases {s : State} {m : Byte} {i : Fin 31} (on : (s.disabled m).sourceActive i = true) : s.sourceActive i = true :=
  State.sourceActive_mono (s := s.disabled m) (t := s) (fun _ => id) (fun _ => id) (fun _ => id) (fun _ => State.disabled_exhausted) on

theorem State.doDisable_eq (s : State) (m : Byte) : s.doDisable m = (s.disabled m).requalify.settle s.sources := rfl

/-- What a DISABLE leaves of the other units of a settled part: the idle and the driving ones as they are, and to a held one its
hold action is delivered once (R120). -/
theorem State.Settled.doDisable_unit {s : State} (h : s.Settled) {m : Byte} {u : Fin 4} (out : m.getLsbD u = false) :
    ((s.units.get u).state.held = false → (s.doDisable m).units.get u = s.units.get u) ∧
    (s.doDisable m).units.get u = (s.units.get u).deliverHold (s.tables.unitRow u) ((s.doDisable m).holdOf u) := by
  have hold (v : Fin 4) : (s.disabled m).holdOf v = s.holdOf v := State.holdOf_congr rfl rfl rfl v
  have yields : (s.disabled m).requalify.Yielding := State.requalify_yields (fun v driving => by
    have left : (s.disabled m).units.get v = s.units.get v := by
      refine State.disabled_left (.inl (Bool.not_eq_true _ ▸ fun named => ?_))
      rw [State.disabled_named named] at driving
      nomatch driving
    rw [hold]
    exact h.unheld (left ▸ driving)) h.fresh
  have released (i : Fin 31) (on : (s.disabled m).requalify.sourceActive i = true) : s.sources.get i = true := by
    rw [State.sources_get]
    exact State.disabled_releases (State.requalify_releases on)
  have once := yields.settle_unit released u
  rw [State.requalify_units, State.disabled_left (.inl out)] at once
  refine ⟨fun unheld => ?_, once⟩
  rw [State.doDisable_eq, once]
  by_cases off : (s.units.get u).state = .off
  · exact PulseUnit.deliverHold_off _ _ _ off
  · have driving : (s.units.get u).state.driving = true := by
      cases state : (s.units.get u).state <;> simp_all [UnitState.driving, UnitState.held]
    have free : ((s.disabled m).requalify.settle s.sources).holdOf u = .none := by
      rw [yields.settle released]
      exact State.settleRound_unheld _ _ released u (yields.unheld u (by
        rw [State.requalify_units, State.disabled_left (.inl out)]
        exact driving))
    rw [free]
    exact PulseUnit.deliverHold_none _ unheld

/-- Settles O45. -/
theorem disablePutsUnitsOff : Obligations.DisablePutsUnitsOff := by
  intro s r m settled run here params small named
  have sound : parseAsk 0x07 r.params = .ok (.disable m) := by rw [params]; exact parseUnitMask_sound small _
  have answer : s.answerAsk [] r.position (.disable m) = .accept (.disable m) :=
    if_pos ((State.anyNamed_iff s m false).mpr (by simpa using named))
  have answered : State.Settled { s with answer := bareAnswer .accepted } := settled.blocks rfl rfl rfl rfl rfl rfl rfl
  refine ⟨State.doDisable { s with answer := bareAnswer .accepted } m, (s.disabled m).units, ?_,
    State.requalify_course (State.disabled { s with answer := bareAnswer .accepted } m) _, answered.carryOut (.disable m),
    fun u => State.disabled_left, fun u out => ?_, fun u mine on => ⟨?_, ?_⟩⟩
  · rw [exec_record_asked (c := .disable r) rfl here sound (.inl run), answer, State.replied_accept]
    rfl
  · obtain ⟨unheld, once⟩ := answered.doDisable_unit out
    refine ⟨unheld, fun _ held => ?_⟩
    rw [once]
    exact PulseUnit.deliverHold_turns held _ _
  · exact (State.settle_course (State.disabled { s with answer := bareAnswer .accepted } m).requalify _).off u
      (State.disabled_named mine)
  · rw [State.disabled_get, if_pos mine]
    unfold PulseUnit.disableUnit
    rw [if_neg on]
    exact PulseUnit.present_turns _ _

end Sys2Proof.Machine
end

section
/-! CLEAR carried out (R124, R125, R128): its two changes of conditions only release, so each is one round (R120). -/

namespace Sys2Proof.Machine

/-! ## A release by rows or causes -/

/-- A row followed where its source stands as it was does not fire. -/
theorem ReflexRow.follow_steady (x : ReflexRow) (row : Row) (on : Bool) : (x.follow row on on).fired = x.fired ∧
    (reflexEnabled row = true → reflexLatched row = true → x.follow row on on = x) := by
  unfold ReflexRow.follow
  refine ⟨?_, fun enabled latched => by simp [enabled, latched]⟩
  cases on <;> (repeat' split) <;> simp_all

/-- A round in which no row fires latches no event. -/
theorem State.settleRound_steady {s : State} {b : Bank Bool 31} (released : ∀ i, s.sourceActive i = true → b.get i = true) :
    (s.settleRound b).status = s.status := by
  have quiet (n : Fin 16) : rowFires (s.tables.reflexRow n) (b.get (reflexSource (s.tables.reflexRow n)))
      (s.sourceActive (reflexSource (s.tables.reflexRow n))) = false := by
    unfold rowFires
    cases on : s.sourceActive (reflexSource (s.tables.reflexRow n)) with
    | false => simp
    | true => simp [released _ on]
  simp [State.settleRound, State.formHolds, State.followSources, quiet, State.latchIf]

/-- What the course of a settled part leaves once rows or safe causes were taken away, the block then reading `r` and the status
`e`: every row as its source stands, one delivery of the hold actions. -/
structure State.ReleasedTo (s t : State) (r : Reflex) (e : Status) : Prop where
  units : ∀ u, t.units.get u = (s.units.get u).deliverHold (s.tables.unitRow u) (t.holdOf u)
  unheld : ∀ u, s.holdOf u = .none → t.holdOf u = .none
  rows : ∀ n, t.reflex.rows.get n = (r.rows.get n).follow (s.tables.reflexRow n)
    (s.sourceActive (reflexSource (s.tables.reflexRow n))) (s.sourceActive (reflexSource (s.tables.reflexRow n)))
  status : t.status = e

theorem State.Settled.releases {s : State} (h : s.Settled) {r : Reflex} {e : Status}
    (safe : (r.link || r.thermal || r.supply) = true → s.safeActive = true)
    (rows : ∀ n, (r.rows.get n).active = true → (s.reflex.rows.get n).active = true) :
    s.ReleasedTo (State.settle { s with reflex := r, status := e } s.sources) r e := by
  have unheld (u : Fin 4) (free : s.holdOf u = .none) : State.holdOf { s with reflex := r, status := e } u = .none := by
    rw [State.holdOf_none] at free ⊢
    obtain ⟨noSafe, noRow⟩ := free
    refine ⟨?_, fun n on => noRow n (rows n on)⟩
    unfold State.safeHold at noSafe ⊢
    split
    · next active => rwa [if_pos (safe active)] at noSafe
    · rfl
  have yields : State.Yielding { s with reflex := r, status := e } := by
    refine ⟨fun u driving => unheld u (h.unheld driving), fun n on => ?_, fun k on => ?_⟩
    · have qualified : (s.limits.rows.get n).qualified = true := by
        rw [← Bool.not_eq_false]
        intro out
        have reset := h.fresh n out
        simp_all [LimitRow.atReset]
      exact ⟨qualified, (h.qualified n).symm.trans qualified⟩
    · have qualified : s.stallQualified k = true := by
        rw [← Bool.not_eq_false]
        intro out
        have := h.untimed k out
        simp_all
      exact ⟨(h.timed k).trans qualified, qualified⟩
  have released (i : Fin 31) (on : State.sourceActive { s with reflex := r, status := e } i = true) : s.sources.get i = true := by
    rw [State.sources_get]
    exact on
  refine ⟨yields.settle_unit released, fun u free => ?_, fun n => ?_, ?_⟩
  · rw [yields.settle released]
    exact State.settleRound_unheld _ _ released u (unheld u free)
  · rw [yields.settle released, State.settleRound_rows, State.sources_get]
    rfl
  · rw [yields.settle released, State.settleRound_steady released]

/-! ## Units through one or two deliveries -/

/-- A unit `x` that received its hold actions, the last of them `h`, as `y`: at most released, or held another way (R34, R35). -/
structure PulseUnit.Followed (x y : PulseUnit) (row : Row) (h : Hold) : Prop where
  idle : x.state.held = false → y = x
  freed : x.state.held = true → h = .none → y = { x with
    state := .run
    target := 0
    stopFlag := false
    demand := 0
    drive := offTimeDrive row
    lines := y.lines
    dead := y.dead }
  kept : x.state.held = true → h ≠ .none →
    y.state.held = true ∧ y = { x with state := y.state, drive := y.drive, lines := y.lines, dead := y.dead }

theorem PulseUnit.deliverHold_freed {x : PulseUnit} (held : x.state.held = true) (row : Row) : x.deliverHold row .none = x.leaveHeld row := by
  unfold PulseUnit.deliverHold
  split <;> simp_all [UnitState.held]

theorem PulseUnit.heldAs_frame (x : PulseUnit) (h : Hold) : (x.heldAs h).state.held = true ∧ x.heldAs h =
    { x with state := (x.heldAs h).state, drive := (x.heldAs h).drive, lines := (x.heldAs h).lines, dead := (x.heldAs h).dead } := by
  refine ⟨by rw [PulseUnit.heldAs_state]; exact h.heldState_held, ?_⟩
  rw [PulseUnit.heldAs_state, PulseUnit.heldAs_drive]
  exact (PulseUnit.present_turns { x with state := h.heldState } h.drive).rest

theorem PulseUnit.leaveHeld_frame (x : PulseUnit) (row : Row) : x.leaveHeld row = { x with
    state := .run
    target := 0
    stopFlag := false
    demand := 0
    drive := offTimeDrive row
    lines := (x.leaveHeld row).lines
    dead := (x.leaveHeld row).dead } :=
  (PulseUnit.present_turns { x with state := .run, target := 0, stopFlag := false, demand := 0 } (offTimeDrive row)).rest

/-- A unit left as it is by a hold action that does not concern it. -/
theorem PulseUnit.deliverHold_idle {x : PulseUnit} (row : Row) {h : Hold} (idle : x.state.held = false)
    (unheld : x.state.driving = true → h = .none) : x.deliverHold row h = x := by
  by_cases driving : x.state.driving = true
  · rw [unheld driving]
    exact PulseUnit.deliverHold_none row idle
  · refine PulseUnit.deliverHold_off x row h ?_
    cases state : x.state <;> simp_all [UnitState.driving, UnitState.held]

theorem PulseUnit.followed_once {x : PulseUnit} (row : Row) {h : Hold} (unheld : x.state.driving = true → h = .none) :
    PulseUnit.Followed x (x.deliverHold row h) row h where
  idle idle := PulseUnit.deliverHold_idle row idle unheld
  freed held gone := by rw [gone, PulseUnit.deliverHold_freed held]; exact PulseUnit.leaveHeld_frame x row
  kept held some := by rw [PulseUnit.deliverHold_held held row some]; exact PulseUnit.heldAs_frame x h

theorem PulseUnit.Followed.again {x y : PulseUnit} {row : Row} {h k : Hold} (f : PulseUnit.Followed x y row h)
    (unheld : x.state.driving = true → h = .none) (shrinks : h = .none → k = .none) :
    PulseUnit.Followed x (y.deliverHold row k) row k where
  idle idle := by
    rw [f.idle idle]
    exact PulseUnit.deliverHold_idle row idle fun driving => shrinks (unheld driving)
  freed held gone := by
    subst gone
    by_cases before : h = .none
    · have freed := f.freed held before
      rw [PulseUnit.deliverHold_none row (by rw [freed]; rfl)]
      exact freed
    · obtain ⟨still, frame⟩ := f.kept held before
      rw [PulseUnit.deliverHold_freed still, PulseUnit.leaveHeld_frame]
      generalize (y.leaveHeld row).lines = lines, (y.leaveHeld row).dead = dead
      rw [frame]
  kept held some := by
    obtain ⟨still, frame⟩ := f.kept held fun gone => some (shrinks gone)
    rw [PulseUnit.deliverHold_held still row some]
    obtain ⟨stays, shown⟩ := PulseUnit.heldAs_frame y k
    refine ⟨stays, shown.trans ?_⟩
    generalize y.heldAs k = z
    rw [frame]

/-! ## The rows a CLEAR names (R125) -/

/-- The rows named by a CLEAR handled, before the course that follows. -/
def State.cleared (s : State) (mask : Word16) : State :=
  let got (n : Fin 16) : ReflexRow × Bool :=
    (s.reflex.rows.get n).cleared (s.tables.reflexRow n) (s.sourceActive (reflexSource (s.tables.reflexRow n)))
  let rows := s.reflex.rows.mapIdx fun n x => if mask.getLsbD n then (got n).1 else x
  let fired := (List.finRange 16).any fun n => mask.getLsbD n && (got n).2
  { s with reflex := { s.reflex with rows := rows } }.latchIf fired .reflexFired

theorem State.clearRows_eq (s : State) (mask : Word16) : s.clearRows mask = (s.cleared mask).settle s.sources := rfl

theorem State.latchIf_frame (s : State) (b : Bool) (e : EventId) : s.latchIf b e = { s with status := (s.latchIf b e).status } := by
  cases b <;> rfl

theorem State.cleared_frame (s : State) (mask : Word16) :
    s.cleared mask = { s with reflex := (s.cleared mask).reflex, status := (s.cleared mask).status } := by
  unfold State.cleared
  dsimp only
  rw [State.latchIf_reflex]
  exact State.latchIf_frame _ _ _

theorem State.cleared_causes (s : State) (mask : Word16) : (s.cleared mask).reflex.link = s.reflex.link ∧
    (s.cleared mask).reflex.thermal = s.reflex.thermal ∧ (s.cleared mask).reflex.supply = s.reflex.supply := by
  unfold State.cleared
  dsimp only
  rw [State.latchIf_reflex]
  exact ⟨rfl, rfl, rfl⟩

theorem State.cleared_row (s : State) (mask : Word16) (n : Fin 16) : (s.cleared mask).reflex.rows.get n =
    if mask.getLsbD n then ((s.reflex.rows.get n).cleared (s.tables.reflexRow n)
      (s.sourceActive (reflexSource (s.tables.reflexRow n)))).1 else s.reflex.rows.get n := by
  unfold State.cleared
  simp

/-- A latched row that is active is the one a CLEAR ends or fires again (R125). -/
def ReflexRow.Latching (x : ReflexRow) (row : Row) : Prop :=
  x.active = true ∧ reflexEnabled row = true ∧ reflexLatched row = true

theorem ReflexRow.cleared_latching {x : ReflexRow} {row : Row} (h : x.Latching row) (on : Bool) :
    x.cleared row on = if on then (x.fire, true) else ({ active := false, fired := false }, false) := by
  obtain ⟨active, enabled, latched⟩ := h
  simp [ReflexRow.cleared, active, enabled, latched]

theorem ReflexRow.cleared_other {x : ReflexRow} {row : Row} (h : ¬x.Latching row) (on : Bool) :
    x.cleared row on = ({ x with fired := false }, false) := by
  refine if_neg fun both => h ?_
  simpa [ReflexRow.Latching, and_assoc] using both

/-- A CLEAR activates no row. -/
theorem ReflexRow.cleared_active {x : ReflexRow} {row : Row} {on : Bool} (h : (x.cleared row on).1.active = true) : x.active = true := by
  by_cases latching : x.Latching row
  · exact latching.1
  · rwa [ReflexRow.cleared_other latching] at h

/-- A row fires again exactly where it is latched and active and its source is active (R125). -/
theorem ReflexRow.cleared_fires (x : ReflexRow) (row : Row) (on : Bool) :
    (x.cleared row on).2 = true ↔ x.Latching row ∧ on = true := by
  by_cases latching : x.Latching row
  · rw [ReflexRow.cleared_latching latching]
    cases on <;> simp [latching]
  · rw [ReflexRow.cleared_other latching]
    simp [latching]

/-- A CLEAR that names no row handles none. -/
theorem State.cleared_none (s : State) : s.cleared 0 = s := by
  unfold State.cleared
  have none (n : Fin 16) : (0 : Word16).getLsbD n = false := by simp
  have rows : (s.reflex.rows.mapIdx fun n x => if (0 : Word16).getLsbD n then
      ((s.reflex.rows.get n).cleared (s.tables.reflexRow n) (s.sourceActive (reflexSource (s.tables.reflexRow n)))).1 else x) =
      s.reflex.rows := Bank.ext_get fun n => by rw [Bank.get_mapIdx, none]; rfl
  dsimp only
  rw [rows]
  simp [State.latchIf]

/-- REFLEX_FIRED after the rows named are handled. -/
theorem State.cleared_event (s : State) (mask : Word16) : (s.cleared mask).status.events.getLsbD 9 = true ↔
    s.status.events.getLsbD 9 = true ∨ ∃ n : Fin 16, mask.getLsbD n = true ∧ (s.reflex.rows.get n).Latching (s.tables.reflexRow n) ∧
      s.sourceActive (reflexSource (s.tables.reflexRow n)) = true := by
  unfold State.cleared
  dsimp only
  have bit : EventId.reflexFired.bit = 9 := rfl
  rw [← bit, State.latchIf_self, Bool.or_eq_true]
  simp only [List.any_eq_true, List.mem_finRange, true_and, Bool.and_eq_true, ReflexRow.cleared_fires]

theorem State.cleared_events (s : State) (mask : Word16) {i : Nat} (other : i ≠ 9) :
    (s.cleared mask).status.events.getLsbD i = s.status.events.getLsbD i :=
  State.latchIf_other _ _ _ i other

theorem State.Settled.clearRows_releases {s : State} (h : s.Settled) (mask : Word16) :
    s.ReleasedTo (s.clearRows mask) (s.cleared mask).reflex (s.cleared mask).status := by
  obtain ⟨link, thermal, supply⟩ := s.cleared_causes mask
  have released := h.releases (r := (s.cleared mask).reflex) (e := (s.cleared mask).status)
    (by rw [link, thermal, supply]; exact id) fun n on => by
      rw [State.cleared_row] at on
      split at on
      · exact ReflexRow.cleared_active on
      · exact on
  rwa [← State.cleared_frame, ← State.clearRows_eq] at released

theorem State.Settled.passCauses_releases {s : State} (h : s.Settled) :
    s.ReleasedTo (s.passCauses.settle s.sources) s.passCauses.reflex s.status :=
  h.releases (r := s.passCauses.reflex) (e := s.status) (fun safe => by
    simp only [State.passCauses, Bool.false_or, Bool.or_eq_true, Bool.and_eq_true] at safe
    unfold State.safeActive
    rcases safe with ⟨thermal, _⟩ | ⟨supply, _⟩
    · simp [thermal]
    · simp [supply]) fun _ => id

/-! ## The whole CLEAR -/

/-- A CLEAR's first parts: the events it names and the drop counters (R124, R69). -/
def State.clearNamed (s : State) (events : Word16) (flags : Byte) : State :=
  ({ s with status := { s.status with events := s.status.events &&& ~~~events } } : State).applyIf (flags.getLsbD 1) State.clearDrops

theorem State.doClear_eq (s : State) (events rows : Word16) (flags : Byte) : s.doClear events rows flags =
    ((s.clearNamed events flags).clearRows rows).applyIf (flags.getLsbD 0) fun t => t.passCauses.settle t.sources := rfl

theorem State.clearNamed_frame (s : State) (events : Word16) (flags : Byte) : s.clearNamed events flags = { s with
    status := { s.status with events := s.status.events &&& ~~~events }
    scan := (s.clearNamed events flags).scan } := by
  unfold State.clearNamed State.applyIf
  split <;> rfl

theorem State.clearNamed_drops (s : State) (events : Word16) (flags : Byte) (e : Fin 24) :
    (s.clearNamed events flags).scan.entries.get e =
      if flags.getLsbD 1 then { s.scan.entries.get e with drops := 0 } else s.scan.entries.get e := by
  unfold State.clearNamed State.applyIf
  split <;> simp [State.clearDrops]

/-- What a CLEAR makes of a settled part once its first parts are done: the rows and events as `cleared` has them, the rows followed
from sources that stood still; and every unit's hold action followed, in one delivery where a part of the CLEAR releases nothing. -/
structure State.ClearsTo (s t : State) (named : Word16) (flags : Byte) : Prop where
  units : ∀ u, PulseUnit.Followed (s.units.get u) (t.units.get u) (s.tables.unitRow u) (t.holdOf u)
  once : flags.getLsbD 0 = false ∨ named = 0 → (∀ v, (s.units.get v).GatesSound) → ∀ u,
    t.units.get u = (s.units.get u).deliverHold (s.tables.unitRow u) (t.holdOf u)
  rows : ∀ n, t.reflex.rows.get n = ((s.cleared named).reflex.rows.get n).follow (s.tables.reflexRow n)
    (s.sourceActive (reflexSource (s.tables.reflexRow n))) (s.sourceActive (reflexSource (s.tables.reflexRow n)))
  status : t.status = (s.cleared named).status

theorem State.Settled.clears {s : State} (h : s.Settled) (named : Word16) (flags : Byte) :
    s.ClearsTo ((s.clearRows named).applyIf (flags.getLsbD 0) fun t => t.passCauses.settle t.sources) named flags := by
  have first := h.clearRows_releases named
  have settled : (s.clearRows named).Settled := h.clearRows named
  have tables : (s.clearRows named).tables = s.tables := by
    unfold State.tables
    rw [State.clearRows_eq, State.cleared_frame]
    simp
  have still : named = 0 → (∀ v, (s.units.get v).GatesSound) → s.clearRows named = s := fun none gates => by
    subst none
    rw [State.clearRows_eq, State.cleared_none]
    exact State.settle_same s h gates
  generalize s.clearRows named = c at first settled tables still ⊢
  have unheld (u : Fin 4) (driving : (s.units.get u).state.driving = true) : c.holdOf u = .none := first.unheld u (h.unheld driving)
  unfold State.applyIf
  split
  · next safe =>
    have second := settled.passCauses_releases
    change s.ClearsTo (c.passCauses.settle c.sources) named flags
    refine ⟨fun u => ?_, fun none gates => ?_, fun n => ?_, second.status.trans first.status⟩
    · rw [second.units, first.units, tables]
      exact (PulseUnit.followed_once _ (unheld u)).again (unheld u) (second.unheld u)
    · have same := still (none.resolve_left (by rw [safe]; nofun)) gates
      intro u
      rw [second.units, same]
    · have row : c.passCauses.reflex.rows.get n = c.reflex.rows.get n := rfl
      rw [second.rows, row, ReflexRow.follow_same _ _ _ (settled.rows n), first.rows]
  · refine ⟨fun u => ?_, fun _ _ => first.units, first.rows, first.status⟩
    rw [first.units]
    exact PulseUnit.followed_once _ (unheld u)

/-- What a CLEAR leaves of the safe causes (R128). -/
theorem State.doClear_causes (s : State) (events rows : Word16) (flags : Byte) : (s.doClear events rows flags).reflex.link =
      (s.reflex.link && !flags.getLsbD 0) ∧
    (s.doClear events rows flags).reflex.thermal = (s.reflex.thermal && (!flags.getLsbD 0 || s.limits.warnLive)) ∧
    (s.doClear events rows flags).reflex.supply = (s.reflex.supply && (!flags.getLsbD 0 || !s.supplyRecovered)) := by
  rw [State.doClear_eq]
  have kept : ((s.clearNamed events flags).clearRows rows).reflex.link = s.reflex.link ∧
      ((s.clearNamed events flags).clearRows rows).reflex.thermal = s.reflex.thermal ∧
      ((s.clearNamed events flags).clearRows rows).reflex.supply = s.reflex.supply := by
    obtain ⟨link, thermal, supply⟩ := State.settle_causes ((s.clearNamed events flags).cleared rows) (s.clearNamed events flags).sources
    obtain ⟨link', thermal', supply'⟩ := (s.clearNamed events flags).cleared_causes rows
    rw [State.clearRows_eq, link, thermal, supply, link', thermal', supply', State.clearNamed_frame]
    exact ⟨rfl, rfl, rfl⟩
  have tests : ((s.clearNamed events flags).clearRows rows).limits.warnLive = s.limits.warnLive ∧
      ((s.clearNamed events flags).clearRows rows).supplyRecovered = s.supplyRecovered := by
    unfold State.supplyRecovered State.tables
    rw [State.clearRows_eq, State.cleared_frame, State.clearNamed_frame]
    simp
  generalize (s.clearNamed events flags).clearRows rows = c at kept tests ⊢
  obtain ⟨link, thermal, supply⟩ := kept
  obtain ⟨warn, recovered⟩ := tests
  cases flags.getLsbD 0 with
  | false => simp [State.applyIf, link, thermal, supply]
  | true =>
    simp [State.applyIf, State.passCauses, thermal, supply, warn, recovered]

/-- The rows after a CLEAR: a named one that is latched and active ends or fires again, every other named one loses its latch, one
not named keeps it (R125). -/
theorem State.ClearsTo.row {s t : State} {named : Word16} {flags : Byte} (h : s.ClearsTo t named flags) (n : Fin 16) :
    (named.getLsbD n = true → (s.reflex.rows.get n).Latching (s.tables.reflexRow n) →
      (t.reflex.rows.get n).active = s.sourceActive (reflexSource (s.tables.reflexRow n)) ∧
      (t.reflex.rows.get n).fired = s.sourceActive (reflexSource (s.tables.reflexRow n))) ∧
    (named.getLsbD n = true → ¬(s.reflex.rows.get n).Latching (s.tables.reflexRow n) → (t.reflex.rows.get n).fired = false) ∧
    (named.getLsbD n = false → (t.reflex.rows.get n).fired = (s.reflex.rows.get n).fired) := by
  refine ⟨fun mine latching => ?_, fun mine other => ?_, fun out => ?_⟩
  · rw [h.rows, (ReflexRow.follow_steady _ _ _).2 latching.2.1 latching.2.2, State.cleared_row, if_pos mine,
      ReflexRow.cleared_latching latching]
    cases s.sourceActive (reflexSource (s.tables.reflexRow n)) <;> exact ⟨rfl, rfl⟩
  · rw [h.rows, (ReflexRow.follow_steady _ _ _).1, State.cleared_row, if_pos mine, ReflexRow.cleared_other other]
  · rw [h.rows, (ReflexRow.follow_steady _ _ _).1, State.cleared_row, out]
    rfl

theorem State.doClear_scan (s : State) (events rows : Word16) (flags : Byte) :
    (s.doClear events rows flags).scan = (s.clearNamed events flags).scan := by
  rw [State.doClear_eq, State.clearRows_eq, State.cleared_frame]
  unfold State.applyIf
  split <;> simp [State.passCauses]

/-- What no part of a CLEAR touches. -/
theorem State.doClear_leaves (s : State) (events rows : Word16) (flags : Byte) : let t := s.doClear events rows flags
    t.answer = s.answer ∧ t.beat = s.beat ∧ t.slots = s.slots ∧ t.link = s.link ∧ t.service = s.service ∧ t.profile = s.profile ∧
      t.due = s.due ∧ t.contacts = s.contacts ∧ t.scan.queue = s.scan.queue := by
  have field {α : Type} (g : State → α) (settle : ∀ s b, g (State.settle s b) = g s) (reflex : ∀ s r, g { s with reflex := r } = g s)
      (status : ∀ s r, g { s with status := r } = g s) (drops : ∀ s, g (State.clearDrops s) = g s) :
      g (s.doClear events rows flags) = g s := State.doClear_field g settle reflex status drops _ _ _ _
  exact ⟨field State.answer (by simp) (fun _ _ => rfl) (fun _ _ => rfl) fun _ => rfl,
    field State.beat (by simp) (fun _ _ => rfl) (fun _ _ => rfl) fun _ => rfl,
    field State.slots (by simp) (fun _ _ => rfl) (fun _ _ => rfl) fun _ => rfl,
    field State.link (by simp) (fun _ _ => rfl) (fun _ _ => rfl) fun _ => rfl,
    field State.service (by simp) (fun _ _ => rfl) (fun _ _ => rfl) fun _ => rfl,
    field State.profile (by simp) (fun _ _ => rfl) (fun _ _ => rfl) fun _ => rfl,
    field State.due (by simp) (fun _ _ => rfl) (fun _ _ => rfl) fun _ => rfl,
    field State.contacts (by simp) (fun _ _ => rfl) (fun _ _ => rfl) fun _ => rfl,
    field (fun t => t.scan.queue) (by simp) (fun _ _ => rfl) (fun _ _ => rfl) fun _ => rfl⟩

/-- The events after a CLEAR's first parts, and the report mask. -/
theorem State.clearNamed_status (s : State) (events : Word16) (flags : Byte) (i : Nat) :
    (s.clearNamed events flags).status.events.getLsbD i = (s.status.events.getLsbD i && !events.getLsbD i) ∧
      (s.clearNamed events flags).status.mask = s.status.mask := by
  rw [State.clearNamed_frame]
  refine ⟨?_, rfl⟩
  by_cases small : i < 16
  · simp [small]
  · simp [BitVec.getLsbD_of_ge _ _ (Nat.le_of_not_lt small)]

theorem State.cleared_mask (s : State) (named : Word16) : (s.cleared named).status.mask = s.status.mask := by
  unfold State.cleared
  simp

theorem exec_clear {s : State} {r : Request} {e1 e0 r1 r0 f : Byte} (run : s.phase = .run) (here : addressedHere r)
    (params : r.params = [e1, e0, r1, r0, f]) : exec (.clear r) s = .next (State.doClear
      { s with answer := bareAnswer (if f.getLsbD 0 && s.causeRemains then .notNow else .done) } (wordOf e1 e0) (wordOf r1 r0) f) := by
  have sound : parseAsk 0x08 r.params = .ok (.clear (wordOf e1 e0) (wordOf r1 r0) f) := by rw [params]; rfl
  rw [exec_record_asked (c := .clear r) rfl here sound (.inl run)]
  unfold State.replied
  dsimp only [State.answerAsk]
  rw [Reply.addressed_bare rfl]
  rfl

theorem State.supplyRecovered_not (s : State) : (!s.supplyRecovered) = decide
    ((s.slots.get 25).value < safeUndervoltage (s.tables.row .safe 0) + safeSupplyHysteresis (s.tables.row .safe 0)) := by
  unfold State.supplyRecovered
  simp only [← decide_not, not_le]
  rfl

/-- Settles O46. -/
theorem clearCarriedOut : Obligations.ClearCarriedOut := by
  intro s r e1 e0 r1 r0 f settled run here params safe low remains
  have verdict : exec (.clear r) s = .next (State.doClear { s with answer := bareAnswer (if safe && remains then .notNow else .done) }
      (wordOf e1 e0) (wordOf r1 r0) f) := by
    rw [exec_clear run here params]
    unfold State.causeRemains
    rw [s.supplyRecovered_not]
  refine ⟨_, verdict, ?_⟩
  clear verdict
  generalize bareAnswer (if safe && remains then Verdict.notNow else .done) = answer
  have answered : State.Settled { s with answer := answer } := settled.blocks rfl rfl rfl rfl rfl rfl rfl
  have ends := answered.doClear (wordOf e1 e0) (wordOf r1 r0) f
  have causes := State.doClear_causes { s with answer := answer } (wordOf e1 e0) (wordOf r1 r0) f
  have leaves := State.doClear_leaves { s with answer := answer } (wordOf e1 e0) (wordOf r1 r0) f
  have scan := State.doClear_scan { s with answer := answer } (wordOf e1 e0) (wordOf r1 r0) f
  have drops := State.clearNamed_drops { s with answer := answer } (wordOf e1 e0) f
  have status := State.clearNamed_status { s with answer := answer } (wordOf e1 e0) f
  have frame := State.clearNamed_frame { s with answer := answer } (wordOf e1 e0) f
  have split := State.doClear_eq { s with answer := answer } (wordOf e1 e0) (wordOf r1 r0) f
  generalize State.doClear _ _ _ _ = t at *
  generalize State.clearNamed _ _ _ = b at *
  have named : b.Settled := by
    rw [frame]
    exact settled.blocks rfl rfl rfl rfl rfl rfl rfl
  have clears := named.clears (wordOf r1 r0) f
  rw [← split] at clears
  have alike : b.units = s.units ∧ b.tables = s.tables ∧ b.reflex = s.reflex ∧ ∀ i, b.sourceActive i = s.sourceActive i := by
    rw [frame]
    exact ⟨rfl, rfl, rfl, fun _ => rfl⟩
  obtain ⟨units, tables, reflex, sources⟩ := alike
  obtain ⟨answers, beat, slots, link, service, profile, due, contacts, queue⟩ := leaves
  obtain ⟨linkCause, thermal, supply⟩ := causes
  have row (n : Fin 16) := clears.row n
  have event := b.cleared_event (wordOf r1 r0)
  simp only [reflex, tables, sources] at row event
  have followed (u : Fin 4) := clears.units u
  have once := clears.once
  simp only [units, tables] at followed once
  refine ⟨ends, answers, fun i other => ?_, fun e => ?_, fun out => ?_, fun inn => ?_, fun n mine active enabled latched => ?_,
    fun n mine other => (row n).2.1 mine other, fun n out => (row n).2.2 out, ?_, ?_, beat, slots, link, service, profile, due, contacts,
    queue, fun u => ⟨(followed u).idle, (followed u).freed, (followed u).kept, fun quiet gates held => ?_⟩⟩
  · rw [clears.status, State.cleared_events _ _ other, (status i).1]
  · rw [scan, drops]
  · simp only [safe] at out
    rw [linkCause, thermal, supply, out]
    simp
  · simp only [safe] at inn
    rw [linkCause, thermal, supply, inn, State.supplyRecovered_not]
    rw [Bool.not_true, Bool.false_or, Bool.false_or, Bool.and_false]
    exact ⟨rfl, rfl, rfl⟩
  · have got := (row n).1 mine ⟨active, enabled, latched⟩
    refine ⟨fun off => ?_, fun on => ?_⟩
    · rwa [off] at got
    · rw [on] at got
      refine ⟨got.1, got.2, ?_⟩
      rw [clears.status, event]
      exact .inr ⟨n, mine, ⟨active, enabled, latched⟩, on⟩
  · rw [clears.status, event, (status 9).1]
    simp [ReflexRow.Latching, and_assoc]
  · rw [clears.status, State.cleared_mask, (status 9).2]
  · rw [once quiet gates u]
    exact PulseUnit.deliverHold_turns held _ _

end Sys2Proof.Machine
end

section
/-! The end of a run on UP (R134, R138). -/

namespace Sys2Proof.Machine

/-! ## Events latched -/

theorem State.latchIf_event (s : State) (b : Bool) (e : EventId) (i : Nat) :
    (s.latchIf b e).status.events.getLsbD i = (s.status.events.getLsbD i || (decide (i = e.bit) && b)) := by
  by_cases same : i = e.bit
  · subst same
    simp
  · simp [State.latchIf_other _ _ _ _ same, same]

theorem State.latchIf_events (s : State) (b : Bool) (e : EventId) :
    s.latchIf b e = { s with status := { s.status with events := (s.latchIf b e).status.events } } := by
  cases b <;> rfl

/-! ## The end of a run that is passed on -/

/-- The link block as the end of a run leaves it, before the frame end is judged. -/
structure Link.RunEnded (l m : Link) : Prop where
  upRun : m.upRun = none
  staging : m.staging = l.staging
  position : m.position = l.position
  timer : m.timer = l.timer
  frameErrors : m.frameErrors = l.frameErrors
  downRun : m.downRun = l.downRun
  downLive : m.downLive = l.downLive

theorem Link.send_setPort_ended (l : Link) (toUp : Bool) (bytes : List Byte) (port : PortState) :
    l.RunEnded { (l.send toUp bytes).setPort toUp port with upRun := none } := by
  cases toUp <;> exact ⟨rfl, rfl, rfl, rfl, rfl, rfl, rfl⟩

/-- A start byte alone is no good frame. -/
theorem Pass.good_long {p : Pass} (good : p.good = true) : p.received.length ≠ 1 := by
  simp only [Pass.good, Bool.and_eq_true, decide_eq_true_eq] at good
  have long := good.1.1.1
  unfold frameLength maskStart areaStart at long
  omega

/-- The idle characters after a run that this hub passes end it, good or bad. -/
theorem State.endUp_routed (s : State) {p : Pass} (routed : p.dropped = false) (idles : Nat) : ∃ l, s.link.RunEnded l ∧
    s.endUp p idles = if p.good then State.goodEnd { s with link := l } p.position p.accepted else State.badEnd { s with link := l } := by
  unfold State.endUp
  rw [routed]
  by_cases alone : p.received.length = 1
  · have bad : p.good = false := by
      rw [← Bool.not_eq_true]
      exact fun good => Pass.good_long good alone
    exact ⟨{ s.link with upRun := none }, ⟨rfl, rfl, rfl, rfl, rfl, rfl, rfl⟩, by simp [alone, bad]⟩
  · exact ⟨_, Link.send_setPort_ended s.link p.toUp p.heldBack (portAfter s.now idles), by
      simp only [alone, Bool.false_eq_true, if_false]⟩

theorem receiveUp_end {s : State} {p : Pass} {idles : Nat} (open_ : s.forwarding = true) (run : s.link.upRun = some p) (idle : 1 ≤ idles) :
    s.receiveUp [] idles = s.endUp p idles := by
  unfold State.receiveUp State.idleUp
  have some : idles ≠ 0 := by omega
  simp [open_, run, some]

/-- What a bad frame end leaves (R138). -/
theorem State.badEnd_leaves {s : State} {l : Link} (ended : s.link.RunEnded l) : let t := State.badEnd { s with link := l }
    t = { s with link := t.link, status := { s.status with events := s.status.events ||| 8 } } ∧
      t.link.staging = Bank.all 4 none ∧ t.link.upRun = none ∧ t.link.position = s.link.position ∧ t.link.timer = s.link.timer ∧
      t.link.frameErrors = min (s.link.frameErrors + 1) 65535 ∧ t.link.downRun = s.link.downRun ∧ t.link.downLive = s.link.downLive := by
  refine ⟨rfl, rfl, ended.upRun, ended.position, ended.timer, ?_, ended.downRun, ended.downLive⟩
  rw [← ended.frameErrors]
  rfl

/-- The part at a good frame end before its accepted records are carried out: staging committed, the link timer restarted, the
position recorded (R138). -/
def State.committed (s : State) (position : Nat) : State := s.commitStaging.restartTimer.recordPosition position

theorem State.goodEnd_eq (s : State) (position : Nat) (accepted : List Action) :
    s.goodEnd position accepted = accepted.foldl State.carryOut (s.committed position) := rfl

/-- The restart of the link timer (R141) sets the timer and LINK_RESTORED, and nothing else. -/
theorem State.restartTimer_eq (s : State) : s.restartTimer = { s with
    link := { s.link with timer := if s.phase = .run then .running 0 else s.link.timer }
    status := { s.status with events := s.restartTimer.status.events } } := by
  unfold State.restartTimer
  split
  · exact State.latchIf_events _ _ _
  · rfl

theorem State.restartTimer_event (s : State) (i : Nat) : s.restartTimer.status.events.getLsbD i =
    (s.status.events.getLsbD i || (decide (i = 2) && decide (s.phase = .run) && decide (s.link.timer = .expired))) := by
  unfold State.restartTimer
  split
  · next run =>
    rw [State.latchIf_event, decide_eq_true run, Bool.and_true]
    rfl
  · next other => simp [other]

theorem State.recordPosition_eq (s : State) (p : Nat) : s.recordPosition p = { s with
    link := { s.link with position := p }
    status := { s.status with events := (s.recordPosition p).status.events } } := State.latchIf_events _ _ _

/-- The committed part, field by field. -/
theorem State.committed_eq (s : State) (p : Nat) : s.committed p = { s with
    units := s.commitStaging.units
    link := { s.link with
      staging := Bank.all 4 none
      timer := if s.phase = .run then .running 0 else s.link.timer
      position := p }
    status := { s.status with events := (s.committed p).status.events } } := by
  have frame := s.commitStaging.restartTimer.recordPosition_eq p
  unfold State.committed
  generalize (s.commitStaging.restartTimer.recordPosition p).status.events = e at frame ⊢
  rw [frame, State.restartTimer_eq]
  rfl

theorem State.committed_event (s : State) (p i : Nat) : (s.committed p).status.events.getLsbD i = (s.status.events.getLsbD i ||
    (decide (i = 2) && decide (s.phase = .run) && decide (s.link.timer = .expired)) ||
    (decide (i = 4) && decide (s.link.position ≠ 0) && decide (s.link.position ≠ p))) := by
  have recorded : (s.committed p).status.events.getLsbD i = (s.commitStaging.restartTimer.status.events.getLsbD i ||
      (decide (i = 4) && (decide (s.commitStaging.restartTimer.link.position ≠ 0) &&
        decide (s.commitStaging.restartTimer.link.position ≠ p)))) := State.latchIf_event _ _ _ _
  have position : s.commitStaging.restartTimer.link.position = s.link.position := by
    rw [State.restartTimer_eq]
    rfl
  rw [recorded, State.restartTimer_event, position, Bool.and_assoc (decide (i = 4))]
  rfl

theorem State.commitStaging_get (s : State) (u : Fin 4) : s.commitStaging.units.get u = match s.link.staging.get u with
    | some sp => { s.units.get u with pending := some sp }
    | none => s.units.get u := Bank.get_mapIdx _ _ u

/-- The frame end is good exactly by length, format and check (R134). -/
theorem Pass.good_iff (p : Pass) : p.good = true ↔ p.received.length = 8 + 8 * rowNat p.received 4 + rowWordNat p.received 6 + 4 ∧
    p.received.length ≤ 508 ∧ p.error = false ∧ p.checkGood = true := by
  simp only [Pass.good, Bool.and_eq_true, decide_eq_true_eq, Bool.not_eq_true', and_assoc]
  rfl

/-- Settles O58. -/
theorem frameEndCommits : Obligations.FrameEndCommits := by
  intro s p idles fwd run routed idle good
  obtain ⟨l, ended, ends⟩ := s.endUp_routed routed idles
  have exec : exec (.sweepFrame [] idles) s = .next (s.endUp p idles) := congrArg Host.Outcome.next (receiveUp_end fwd run idle)
  refine ⟨fun goodEnd => ?_, fun bad => ?_⟩
  · rw [if_pos (p.good_iff.mpr goodEnd)] at ends
    refine ⟨State.committed { s with link := l } p.position, by rw [exec, ends, State.goodEnd_eq], ?_⟩
    have event := State.committed_event { s with link := l } p.position
    have frame := State.committed_eq { s with link := l } p.position
    have unit := State.commitStaging_get { s with link := l }
    generalize State.committed { s with link := l } p.position = v at event frame ⊢
    simp only [ended.staging, ended.timer, ended.position] at event frame unit
    rw [frame]
    refine ⟨fun u => (unit u).trans rfl, rfl, ended.upRun, rfl, rfl, ended.frameErrors, ended.downRun, ended.downLive, fun i => event i, ?_⟩
    rfl
  · have notGood : p.good = false := by
      rw [← Bool.not_eq_true, p.good_iff]
      exact bad
    rw [notGood] at ends
    exact ⟨_, exec.trans (congrArg Host.Outcome.next ends), State.badEnd_leaves ended⟩

end Sys2Proof.Machine
end

section
/-! The other traffic of the ports (R133): runs on DOWN, RETURN runs on UP, and the DOWN receive state. -/

namespace Sys2Proof.Machine

/-- The part with another link block. -/
def State.withLink (s : State) (l : Link) : State := { s with link := l }

theorem Link.downRun_same (l : Link) {r : Option DownRun} (h : l.downRun = r) : { l with downRun := r } = l := by
  subst h
  rfl

/-! ## The bytes of a run on DOWN -/

/-- While a run goes on DOWN is LIVE, and more of its characters change nothing of that. -/
def State.Heard (s : State) : Prop := s.link.downLive = true ∧ s.link.downSilence = 0

theorem State.downCharacter_heard {s : State} (h : s.Heard) : s.downCharacter = s := by
  obtain ⟨live, silence⟩ := h
  unfold State.downCharacter
  split
  · rw [← live, ← silence]
  · rfl

/-- What follows of a dropped run is received alone. -/
theorem State.bytesDown_dropped (l : List Byte) : ∀ {s : State} {r : DownRun}, s.Heard → s.link.downRun = some r → r.dropped = true →
    l.foldl State.byteDown s = { s with link := { s.link with downRun := some { r with received := r.received ++ l } } } := by
  induction l with
  | nil =>
    intro s r _ run _
    simp only [List.foldl_nil, List.append_nil]
    rw [← run]
  | cons b l ih =>
    intro s r heard run dropped
    have first : s.byteDown b = { s with link := { s.link with downRun := some { r with received := r.received ++ [b] } } } := by
      unfold State.byteDown
      rw [run, State.downCharacter_heard heard]
      unfold State.nextDown
      exact if_pos dropped
    rw [List.foldl_cons, first, ih (s := { s with link := { s.link with downRun := some { r with received := r.received ++ [b] } } })
      heard rfl dropped, List.append_assoc]
    rfl

/-- What follows of a RETURN run that has its port goes up unchanged. -/
theorem State.bytesDown_passed (l : List Byte) : ∀ {s : State} {r : DownRun}, s.Heard → s.link.downRun = some r → r.dropped = false →
    2 ≤ r.received.length → l.foldl State.byteDown s = { s with link := { s.link with
      downRun := some { r with received := r.received ++ l }
      upSent := s.link.upSent ++ l } } := by
  induction l with
  | nil =>
    intro s r _ run _ _
    simp only [List.foldl_nil, List.append_nil]
    rw [← run]
  | cons b l ih =>
    intro s r heard run passed routed
    have first : s.byteDown b = { s with link := { s.link with
        downRun := some { r with received := r.received ++ [b] }
        upSent := s.link.upSent ++ [b] } } := by
      unfold State.byteDown
      rw [run, State.downCharacter_heard heard]
      unfold State.nextDown
      simp only [passed, Bool.false_eq_true, if_false]
      rw [if_neg (by omega)]
    rw [List.foldl_cons, first, ih (s := { s with link := { s.link with
        downRun := some { r with received := r.received ++ [b] }
        upSent := s.link.upSent ++ [b] } }) heard rfl passed (by simp; omega), List.append_assoc, List.append_assoc]
    rfl

/-- A run on DOWN as its start byte opens it. -/
def State.downOpened (s : State) : DownRun where
  received := [0xD5]
  dropped := false
  started := s.now
  blocked := portBusy s.link.upPort s.now && !s.upPortYields

/-- The part once a character has been heard on DOWN. -/
def State.heard (s : State) : State := { s with link := { s.link with downLive := true, downSilence := 0 } }

theorem State.downCharacter_eq {s : State} (fwd : s.forwarding = true) : s.downCharacter = s.heard := if_pos fwd

/-- The start byte of a frame on DOWN, and the direction byte that routes it. -/
theorem State.byteDown_second {s : State} (fwd : s.forwarding = true) (idle : s.link.downRun = none) (b : Byte) :
    (s.byteDown 0xD5).byteDown b = State.routeDown { s.heard with link := { s.heard.link with downRun := some s.downOpened } } s.downOpened b := by
  have start : s.byteDown 0xD5 = { s.heard with link := { s.heard.link with downRun := some s.downOpened } } := by
    unfold State.byteDown
    rw [idle, State.downCharacter_eq fwd]
    rfl
  rw [start]
  unfold State.byteDown
  rw [State.downCharacter_heard ⟨rfl, rfl⟩]
  rfl

/-- Two idle characters after a run on DOWN end it. -/
theorem State.idleDown_ends {s : State} (h : s.Heard) : s.idleDown 2 = { s with link := s.link.endDown .free } := by
  unfold State.idleDown
  rw [State.downCharacter_heard h]
  rfl

/-- A whole run on DOWN that gets no port: a character was heard, and that is all. -/
theorem receiveDown_dropped {s : State} (fwd : s.forwarding = true) (idle : s.link.downRun = none) {b : Byte}
    (drops : b ≠ 1 ∨ s.downOpened.blocked = true ∨ s.link.upPort.takenBefore false s.now = true) (l : List Byte) :
    s.receiveDown (0xD5 :: b :: l) 2 = s.heard := by
  have route : (s.byteDown 0xD5).byteDown b = { s.heard with link := { s.heard.link with
      downRun := some { s.downOpened with received := [0xD5, b], dropped := true } } } := by
    rw [State.byteDown_second fwd idle]
    unfold State.routeDown
    exact if_pos drops
  unfold State.receiveDown
  rw [if_pos fwd, List.foldl_cons, List.foldl_cons, route, State.bytesDown_dropped l ⟨rfl, rfl⟩ rfl rfl, State.idleDown_ends ⟨rfl, rfl⟩]
  exact congrArg s.heard.withLink (s.heard.link.downRun_same idle)

/-- A whole RETURN run on DOWN that gets the UP port goes up unchanged; a run from UP that took the port at the same tick gives
way. -/
theorem receiveDown_passed {s : State} (fwd : s.forwarding = true) (idle : s.link.downRun = none)
    (open_ : s.downOpened.blocked = false) (first : s.link.upPort.takenBefore false s.now = false) (l : List Byte) {k : Link}
    (yields : k = match s.link.upPort with
      | .sending true _ => s.heard.link.yieldUp
      | .sending false _ => s.heard.link
      | .free => s.heard.link
      | .draining _ => s.heard.link) :
    s.receiveDown (0xD5 :: 1 :: l) 2 = { s.heard with link := { k with upPort := .free, upSent := 0xD5 :: 1 :: l } } := by
  have alike : k.downRun = none ∧ k.downLive = true ∧ k.downSilence = 0 := by
    subst yields
    split <;> exact ⟨idle, rfl, rfl⟩
  obtain ⟨run, live, silence⟩ := alike
  have route : (s.byteDown 0xD5).byteDown 1 = { s.heard with link := { k with
      downRun := some { s.downOpened with received := [0xD5, 1] }
      upPort := .sending false s.now
      upSent := [0xD5, 1] } } := by
    rw [State.byteDown_second fwd idle, yields]
    unfold State.routeDown
    have free : ¬((1 : Byte) ≠ 1 ∨ s.downOpened.blocked = true ∨ s.link.upPort.takenBefore false s.now = true) := by
      simp [open_, first]
    refine (if_neg free).trans ?_
    have same : s.heard.link.upPort = s.link.upPort := rfl
    dsimp only
    rw [same]
    cases s.link.upPort with
    | sending up since => cases up <;> rfl
    | free => rfl
    | draining at_ => rfl
  unfold State.receiveDown
  rw [if_pos fwd, List.foldl_cons, List.foldl_cons, route, State.bytesDown_passed l ⟨live, silence⟩ rfl rfl (by simp),
    State.idleDown_ends ⟨live, silence⟩]
  exact congrArg s.heard.withLink (Link.downRun_same { k with upPort := .free, upSent := 0xD5 :: 1 :: l } run)

/-! ## RETURN runs on UP -/

/-- What follows of a dropped run on UP is received alone. -/
theorem State.bytesUp_dropped (l : List Byte) : ∀ {s : State} {p : Pass}, s.link.upRun = some p → p.dropped = true →
    2 ≤ p.received.length → l.foldl State.byteUp s = { s with link := { s.link with upRun := some { p with received := p.received ++ l } } } := by
  induction l with
  | nil =>
    intro s p run _ _
    simp only [List.foldl_nil, List.append_nil]
    rw [← run]
  | cons b l ih =>
    intro s p run dropped routed
    have first : s.byteUp b = { s with link := { s.link with upRun := some { p with received := p.received ++ [b] } } } := by
      unfold State.byteUp
      rw [run]
      unfold State.nextUp State.applyIf
      have later : p.received.length ≠ 1 := by omega
      simp [later, dropped]
    rw [List.foldl_cons, first, ih (s := { s with link := { s.link with upRun := some { p with received := p.received ++ [b] } } })
      rfl dropped (by simp; omega), List.append_assoc]
    rfl

theorem Link.upRun_same (l : Link) {r : Option Pass} (h : l.upRun = r) : { l with upRun := r } = l := by
  subst h
  rfl

/-- A whole RETURN run on UP is dropped and leaves nothing. -/
theorem receiveUp_return {s : State} (fwd : s.forwarding = true) (idle : s.link.upRun = none) (l : List Byte) {idles : Nat}
    (some_ : 1 ≤ idles) : s.receiveUp (0xD5 :: 1 :: l) idles = s := by
  have start : s.byteUp 0xD5 = s.startUp 0xD5 := by
    unfold State.byteUp
    rw [idle]
  have route : (s.byteUp 0xD5).byteUp 1 = { s with link := { s.link with
      upRun := some { Pass.opened (!s.link.downLive) false (portBusy (s.link.port (!s.link.downLive)) s.now) s.now 0xD5 with
        dropped := true
        received := [0xD5, 1] } } } := by
    rw [start]
    rfl
  have some : idles ≠ 0 := by omega
  unfold State.receiveUp
  rw [if_pos fwd, List.foldl_cons, List.foldl_cons, route, State.bytesUp_dropped l rfl rfl (by simp)]
  unfold State.idleUp
  rw [if_neg some]
  exact congrArg s.withLink (s.link.upRun_same idle)

/-! ## The DOWN receive state -/

/-- The silence counted on DOWN at a core tick (R133). -/
theorem State.tick_silence (s : State) : s.tick.link.downSilence =
    if s.forwarding = true ∧ s.link.downLive = true then s.link.downSilence + 1 else s.link.downSilence := by
  rw [State.tick_stages]
  have phase : s.tickedPlaces.tickDeadTimes.phase = s.phase ∧ s.tickedPlaces.tickDeadTimes.link = s.link := by
    rw [State.tickDeadTimes_eq, State.tickedPlaces_eq, State.tickedPins_eq, State.tickedTimers_eq]
    exact ⟨rfl, rfl⟩
  generalize s.tickedPlaces.tickDeadTimes = t at phase ⊢
  obtain ⟨phase, link⟩ := phase
  have fwd : t.forwarding = s.forwarding := by unfold State.forwarding; rw [phase]
  unfold State.tickSilence
  rw [fwd, link]
  split
  · split
    · obtain ⟨d, frame⟩ := State.markDue_frame { t with link := { s.link with downSilence := s.link.downSilence + 1 } } .downDark
      rw [frame]
    · rfl
  · rw [link]

theorem State.mem_tick_downDark (s : State) : .downDark ∈ s.tick.due ↔ .downDark ∈ s.due ∨
    ((s.forwarding = true ∧ s.link.downLive = true) ∧ 3200 ≤ s.link.downSilence + 1) := by
  rw [State.mem_tick, State.mem_tickedPins_of_ne _ (by simp), State.mem_tickedTimers]
  simp [State.mem_positionDue, Config.darkTicks]

theorem State.forwarding_iff (s : State) : s.forwarding = true ↔ s.phase ≠ .loading := decide_eq_true_iff

/-- DOWN_LIVE: a character is heard, once the hub forwards. -/
theorem exec_downLive (s : State) : exec .downLive s = .next { s with
    due := s.due.erase .downDark
    link := if s.phase = .loading then s.link else { s.link with downLive := true, downSilence := 0 } } := by
  refine congrArg Host.Outcome.next ?_
  unfold State.downCharacter
  have fwd : (s.clearDue .downDark).forwarding = true ↔ s.phase ≠ .loading := s.forwarding_iff
  by_cases loading : s.phase = .loading
  · rw [if_neg (by rw [fwd]; exact not_not.mpr loading), if_pos loading]
    rfl
  · rw [if_pos (fwd.mpr loading), if_neg loading]
    rfl

/-- DOWN_DARK: a run that the silence cuts off ends with it. -/
theorem exec_downDark (s : State) : exec .downDark s = .next { s with
    due := s.due.erase .downDark
    link := { s.link with
      downLive := false
      downRun := none
      upPort := match s.link.downRun with
        | none => s.link.upPort
        | some r => if r.dropped = true ∨ r.received.length = 1 then s.link.upPort else .free } } := by
  refine congrArg Host.Outcome.next ?_
  have same : (s.clearDue .downDark).link = s.link := rfl
  unfold State.goDark Link.endDown
  dsimp only
  rw [same]
  cases run : s.link.downRun with
  | none =>
    dsimp only
    rw [run]
    rfl
  | some r => rfl

/-- Settles O60. -/
theorem returnTrafficAndDownState : Obligations.ReturnTrafficAndDownState := by
  refine ⟨fun s b l fwd idle free => ?_, fun s l fromUp since fwd idle port => ⟨fun later => ?_, fun now up => ?_⟩,
    fun s l idles fwd idle some => congrArg Host.Outcome.next (receiveUp_return fwd idle l some),
    fun s => ⟨exec_downLive s, exec_downDark s, fun pending due loaded live => ?_⟩⟩
  · refine congrArg Host.Outcome.next ?_
    by_cases back : b = 1
    · subst back
      rw [receiveDown_passed fwd idle (by simp [State.downOpened, free, portBusy]) (by simp [free, PortState.takenBefore]) l
        (k := s.heard.link) (by rw [free]), if_pos rfl, ← free]
      rfl
    · rw [receiveDown_dropped fwd idle (.inl back), if_neg back]
      rfl
  · refine congrArg Host.Outcome.next ?_
    have blocked : s.downOpened.blocked = true := by
      rcases later with other | down
      · simp [State.downOpened, port, portBusy, State.upPortYields, other]
      · simp [State.downOpened, port, portBusy, State.upPortYields, down]
    rw [receiveDown_dropped fwd idle (.inr (.inl blocked))]
    rfl
  · refine congrArg Host.Outcome.next ?_
    subst now up
    rw [receiveDown_passed fwd idle (by simp [State.downOpened, port, portBusy, State.upPortYields])
      (by simp [port, PortState.takenBefore]) l (k := s.heard.link.yieldUp) (by rw [port])]
    rfl
  · have fwd : s.forwarding = true := s.forwarding_iff.mpr loaded
    refine ⟨s.tick, step_tick pending due, ?_, ?_⟩
    · rw [s.tick_silence, if_pos ⟨fwd, live⟩]
    · rw [s.mem_tick_downDark, due]
      simp [fwd, live]

end Sys2Proof.Machine
end

section
/-! A run on UP byte by byte (R135, R136): what a byte leaves of pass and link block, and what the check found at its end says. -/

namespace Sys2Proof.Machine

/-! ## Places in a frame -/

theorem rowByte_append {l : Row} (m : Row) {i : Nat} (inside : i < l.length) : rowByte (l ++ m) i = rowByte l i := by
  unfold rowByte
  rw [List.getD_append _ _ _ _ inside]

theorem rowNat_append {l : Row} (m : Row) {i : Nat} (inside : i < l.length) : rowNat (l ++ m) i = rowNat l i := by
  unfold rowNat
  rw [rowByte_append m inside]

theorem rowWordNat_append {l : Row} (m : Row) {i : Nat} (inside : i + 1 < l.length) : rowWordNat (l ++ m) i = rowWordNat l i := by
  unfold rowWordNat rowWord
  rw [rowByte_append m (by omega), rowByte_append m inside]

/-- A header that has arrived settles where the segments, the service area and the masks stand. -/
theorem areaStart_append {l : Row} (m : Row) (header : 5 ≤ l.length) : areaStart (l ++ m) = areaStart l := by
  unfold areaStart segments
  rw [rowNat_append m (by omega)]

theorem maskStart_append {l : Row} (m : Row) (header : 8 ≤ l.length) : maskStart (l ++ m) = maskStart l := by
  unfold maskStart areaLength
  rw [areaStart_append m (by omega), rowWordNat_append m (by omega)]

theorem areaStart_ge (l : Row) : 8 ≤ areaStart l := Nat.le_add_right 8 _

theorem maskStart_ge (l : Row) : 8 ≤ maskStart l := (areaStart_ge l).trans (Nat.le_add_right _ _)

/-! ## What a covered byte leaves of the pass and the link block -/

/-- Route, bytes received, checks: what no byte's own handling touches. -/
structure Pass.Alike (p q : Pass) : Prop where
  toUp : q.toUp = p.toUp
  dropped : q.dropped = p.dropped
  received : q.received = p.received
  checkGood : q.checkGood = p.checkGood

theorem overlaid_alike (s : State) {p q : Pass} (h : p.Alike q) (b : Byte) : p.Alike (overlaid s q b).pass := by
  unfold overlaid
  split <;> exact ⟨h.toUp, h.dropped, h.received, h.checkGood⟩

theorem Pass.Alike.refl (p : Pass) : p.Alike p := ⟨rfl, rfl, rfl, rfl⟩

/-- No covered byte touches route, bytes received or the check found. -/
theorem coveredByte_alike (s : State) (p : Pass) (i : Nat) (b : Byte) : p.Alike (coveredByte s p i b).pass := by
  have header : p.Alike (headerByte s p i b).pass := by
    unfold headerByte
    (repeat' split) <;> exact ⟨rfl, rfl, rfl, rfl⟩
  have written (t : State) (q : Pass) (h : p.Alike q) : p.Alike (overlaid t q b).pass := overlaid_alike t h b
  have segment : p.Alike (segmentByte s p i b).pass := by
    unfold segmentByte
    split
    · split
      · exact ⟨rfl, rfl, rfl, rfl⟩
      · exact written _ _ ⟨rfl, rfl, rfl, rfl⟩
    · split <;> exact written _ p (.refl p)
  have area : p.Alike (areaByte s p i b).pass := by
    unfold areaByte
    dsimp only
    split
    · exact .refl p
    split
    · split <;> exact ⟨rfl, rfl, rfl, rfl⟩
    split
    · split <;> exact ⟨rfl, rfl, rfl, rfl⟩
    split
    · exact .refl p
    have answered (q : Pass) (h : p.Alike q) (k : Nat) : p.Alike
        (if i - p.recordAt = k then { overlaid s q b with
            pass := { (overlaid s q b).pass with overlay := [], recordNo := p.recordNo + 1, recordAt := i + 1 } }
          else overlaid s q b).pass := by
      obtain ⟨toUp, dropped, received, checkGood⟩ := written s q h
      split <;> exact ⟨toUp, dropped, received, checkGood⟩
    refine answered _ ?_ _
    split <;> exact ⟨rfl, rfl, rfl, rfl⟩
  have mask : p.Alike (maskByte s p i b).pass := by
    unfold maskByte
    (repeat' split) <;> exact ⟨rfl, rfl, rfl, rfl⟩
  unfold coveredByte
  (repeat' split) <;> first | exact .refl p | assumption

/-- What a run on UP leaves of the link block as it passes: DOWN, the timer, the position and the error count. -/
structure Link.Passing (l m : Link) : Prop where
  downLive : m.downLive = l.downLive
  position : m.position = l.position
  timer : m.timer = l.timer
  frameErrors : m.frameErrors = l.frameErrors

theorem Link.Passing.trans {l m n : Link} (h : l.Passing m) (k : m.Passing n) : l.Passing n :=
  ⟨k.downLive.trans h.downLive, k.position.trans h.position, k.timer.trans h.timer, k.frameErrors.trans h.frameErrors⟩

theorem Link.Passing.refl (l : Link) : l.Passing l := ⟨rfl, rfl, rfl, rfl⟩

theorem Link.Passing.send (l : Link) (toUp : Bool) (bytes : List Byte) : l.Passing (l.send toUp bytes) := by
  cases toUp <;> exact ⟨rfl, rfl, rfl, rfl⟩

theorem overlaid_state (s : State) (p : Pass) (b : Byte) : (overlaid s p b).state = s := by
  unfold overlaid
  split <;> rfl

theorem State.take_link (s : State) (row : Row) (seg : List Byte) : s.link.Passing (s.take row seg).link := by
  unfold State.take
  split <;> exact ⟨rfl, rfl, rfl, rfl⟩

/-- A byte that passes stages at most. -/
theorem coveredByte_link (s : State) (p : Pass) (i : Nat) (b : Byte) : s.link.Passing (coveredByte s p i b).state.link := by
  have segment : s.link.Passing (segmentByte s p i b).state.link := by
    unfold segmentByte
    split
    · split
      · exact .refl _
      · dsimp only
        rw [overlaid_state, State.fill_link]
        exact .refl _
    · split
      · rw [overlaid_state]
        exact .refl _
      · dsimp only
        rw [overlaid_state]
        split
        · exact s.take_link _ _
        · exact .refl _
  unfold coveredByte
  (repeat' split)
  · exact .refl _
  · rw [headerByte_state]; exact .refl _
  · exact segment
  · rw [areaByte_state]; exact .refl _
  · rw [maskByte_state]; exact .refl _

theorem passByte_link (s : State) (p : Pass) (b : Byte) : s.link.Passing (passByte s p b).1.link := by
  unfold passByte
  dsimp only
  (repeat' split)
  · exact (coveredByte_link _ _ _ _).trans (.send _ _ _)
  · exact .refl _
  · exact .send _ _ _
  · exact .send _ _ _

/-! ## The check of a run -/

/-- What a pass has checked so far (R136): the running check over all bytes up to the masks, held while the two bytes of the check
arrive, and then what they say. -/
structure Pass.Checked (p : Pass) : Prop where
  running : p.received.length ≤ maskStart p.received + 2 → p.crcIn = crcOf p.received
  held : p.received.length = maskStart p.received + 3 → p.crcIn = crcOf (p.received.take (p.received.length - 1))
  found : p.received.length = maskStart p.received + 4 → p.checkGood = decide
    (rowWord p.received (p.received.length - 2) = crcOf (p.received.take (p.received.length - 2)))

theorem crcOf_snoc (l : List Byte) (b : Byte) : crcOf (l ++ [b]) = crcByte (crcOf l) b := by
  unfold crcOf
  rw [List.foldl_append]
  rfl

/-- The pass after one byte: route and bytes received, and the check. -/
theorem passByte_pass (s : State) (p : Pass) (b : Byte) : (passByte s p b).2.toUp = p.toUp ∧ (passByte s p b).2.dropped = p.dropped ∧
    (passByte s p b).2.received = p.received ++ [b] ∧
    (p.received.length < maskStart (p.received ++ [b]) + 2 → (passByte s p b).2.crcIn = crcByte p.crcIn b) ∧
    (p.received.length = maskStart (p.received ++ [b]) + 2 → (passByte s p b).2.crcIn = p.crcIn) ∧
    (p.received.length = maskStart (p.received ++ [b]) + 3 →
      (passByte s p b).2.checkGood = decide (rowWord (p.received ++ [b]) (p.received.length - 1) = p.crcIn)) := by
  have far := maskStart_ge (p.received ++ [b])
  unfold passByte
  dsimp only
  split
  · next covered =>
    have place : p.received.length < maskStart (p.received ++ [b]) + 2 := by omega
    obtain ⟨toUp, dropped, received, _⟩ := coveredByte_alike s { p with received := p.received ++ [b] } p.received.length b
    exact ⟨toUp, dropped, received, fun _ => rfl, fun at_ => by omega, fun at_ => by omega⟩
  · next beyond =>
    split
    · exact ⟨rfl, rfl, rfl, fun at_ => by omega, fun _ => rfl, fun at_ => by omega⟩
    · split
      · exact ⟨rfl, rfl, rfl, fun at_ => by omega, fun at_ => by omega, fun _ => rfl⟩
      · exact ⟨rfl, rfl, rfl, fun at_ => by omega, fun at_ => by omega, fun at_ => by omega⟩

theorem Pass.Checked.next {p : Pass} (h : p.Checked) (s : State) (b : Byte) : (passByte s p b).2.Checked := by
  obtain ⟨_, _, received, running, held, found⟩ := passByte_pass s p b
  have far := maskStart_ge p.received
  have same : 8 ≤ p.received.length → maskStart (p.received ++ [b]) = maskStart p.received := maskStart_append [b]
  have far' := maskStart_ge (p.received ++ [b])
  refine ⟨fun place => ?_, fun place => ?_, fun place => ?_⟩
  all_goals rw [received] at place; rw [List.length_append, List.length_singleton] at place
  · rw [running (by omega), received, crcOf_snoc, h.running (by omega)]
  · rw [held (by omega), received, List.length_append, List.length_singleton, Nat.add_sub_cancel, List.take_left', h.running (by omega)]
    rfl
  · have short : p.received.length - 1 ≤ p.received.length := Nat.sub_le _ _
    rw [found (by omega), received, List.length_append, List.length_singleton, Nat.add_sub_add_right p.received.length 1 1,
      List.take_append_of_le_length short, h.held (by omega)]

/-- A pass that has a start byte alone. -/
theorem Pass.opened_checked (toUp dropped blocked : Bool) (started : Nat) (b : Byte) : (Pass.opened toUp dropped blocked started b).Checked := by
  have far := maskStart_ge [b]
  refine ⟨fun _ => rfl, fun place => ?_, fun place => ?_⟩
  all_goals
    have : [b].length = _ := place
    rw [List.length_singleton] at this
    omega

end Sys2Proof.Machine
end

section
/-! A bad frame takes no effect (R136): what a frame of any bytes can do before its end, and that a check that does not fit ends bad. -/

namespace Sys2Proof.Machine

/-! ## One byte of a run on UP -/

/-- What one byte of a run does to its pass and to the link block. -/
structure State.Received (s : State) (p : Pass) (l : List Byte) (t : State) (q : Pass) : Prop where
  run : t.link.upRun = some q
  received : q.received = p.received ++ l
  dropped : 2 ≤ p.received.length → q.dropped = p.dropped
  checked : (p.dropped = false → p.Checked) → q.dropped = false → q.Checked
  unstaged : q.dropped = true → t.link.staging = s.link.staging
  passing : s.link.Passing t.link

theorem State.byteUp_received {s : State} {p : Pass} (run : s.link.upRun = some p) (b : Byte) : ∃ q, s.Received p [b] (s.byteUp b) q := by
  have passed (t : State) (r : Pass) (link : s.link.Passing t.link) (received : r.received = p.received) (same : r.dropped = false)
      (was : p.dropped = false) (checked : p.Checked → r.Checked) : ∃ q, s.Received p [b]
      { (passByte t r b).1 with link := { (passByte t r b).1.link with upRun := some (passByte t r b).2 } } q := by
    obtain ⟨_, dropped, bytes, _⟩ := passByte_pass t r b
    obtain ⟨downLive, position, timer, frameErrors⟩ := link.trans (passByte_link t r b)
    refine ⟨_, rfl, by rw [bytes, received], fun _ => by rw [dropped, same, was], fun h _ => (checked (h was)).next t b, fun out => ?_,
      ⟨downLive, position, timer, frameErrors⟩⟩
    rw [dropped, same] at out
    nomatch out
  have lost (t : State) (link : t.link = s.link) (r : Pass) (received : r.received = p.received ++ [b]) (out : r.dropped = true)
      (was : 2 ≤ p.received.length → p.dropped = true) :
      ∃ q, s.Received p [b] { t with link := { t.link with upRun := some r } } q := by
    refine ⟨r, rfl, received, fun long => out.trans (was long).symm, fun _ in_ => ?_, fun _ => ?_, ?_⟩
    · rw [out] at in_
      nomatch in_
    · rw [← link]
    · rw [link]
      exact ⟨rfl, rfl, rfl, rfl⟩
  unfold State.byteUp
  rw [run]
  unfold State.nextUp
  have link : (s.applyIf (decide (p.received.length = 1) && decide (p.received.head? = some 0xD5) && decide (b = 0)) State.slotSwap).link =
      s.link := by
    unfold State.applyIf
    split
    · exact State.slotSwap_link s
    · rfl
  dsimp only
  generalize s.applyIf _ State.slotSwap = t at link ⊢
  split
  · next out => exact lost t link { p with received := p.received ++ [b] } rfl out fun _ => out
  · next routed =>
    rw [Bool.not_eq_true] at routed
    split
    · next first =>
      rw [decide_eq_true_eq] at first
      unfold State.routeUp
      split
      · exact lost t link { p with dropped := true, received := p.received ++ [b] } rfl rfl fun long => by omega
      · refine passed _ p ?_ rfl routed routed id
        have yields (l : Link) (h : s.link.Passing l) (up : Bool) (port : PortState) (bytes : List Byte) : s.link.Passing
            { (l.setPort up port).setSent up bytes with staging := Bank.all 4 none } := by
          obtain ⟨downLive, position, timer, frameErrors⟩ := h
          cases up <;> exact ⟨downLive, position, timer, frameErrors⟩
        refine yields _ ?_ _ _ _
        rw [link]
        split <;> exact ⟨rfl, rfl, rfl, rfl⟩
    · exact passed t p (by rw [link]; exact .refl _) rfl routed routed id

/-- The bytes that follow the direction byte of a run. -/
theorem State.bytesUp_received (l : List Byte) : ∀ {s : State} {p : Pass}, s.link.upRun = some p → 2 ≤ p.received.length →
    ∃ q, s.Received p l (l.foldl State.byteUp s) q := by
  induction l with
  | nil =>
    intro s p run _
    exact ⟨p, run, by simp, fun _ => rfl, id, fun _ => rfl, .refl _⟩
  | cons b l ih =>
    intro s p run long
    obtain ⟨r, first⟩ := State.byteUp_received run b
    obtain ⟨q, rest⟩ := ih first.run (by rw [first.received]; simp; omega)
    have routed : q.dropped = r.dropped := rest.dropped (by rw [first.received]; simp; omega)
    refine ⟨q, rest.run, by rw [rest.received, first.received, List.append_assoc]; rfl, fun long => routed.trans (first.dropped long),
      fun checked => rest.checked fun in_ => first.checked checked in_, fun out => (rest.unstaged out).trans (first.unstaged ?_),
      first.passing.trans rest.passing⟩
    rw [← routed]
    exact out

/-- A whole run of at least two bytes, up to its end. -/
theorem State.runUp_received {s : State} (idle : s.link.upRun = none) (b c : Byte) (l : List Byte) : ∃ q,
    (List.foldl State.byteUp s (b :: c :: l)).link.upRun = some q ∧ q.received = b :: c :: l ∧ (q.dropped = false → q.Checked) ∧
      (q.dropped = true → (List.foldl State.byteUp s (b :: c :: l)).link.staging = s.link.staging) ∧
      s.link.Passing (List.foldl State.byteUp s (b :: c :: l)).link := by
  have start : s.byteUp b = s.startUp b := by
    unfold State.byteUp
    rw [idle]
  have opened : (s.byteUp b).link.upRun = some (Pass.opened (!s.link.downLive) (decide (b ≠ 0xD5))
      (portBusy (s.link.port (!s.link.downLive)) s.now) s.now b) := by rw [start]; rfl
  have begun : s.link.Passing (s.byteUp b).link ∧ (s.byteUp b).link.staging = s.link.staging := by
    rw [start]
    exact ⟨⟨rfl, rfl, rfl, rfl⟩, rfl⟩
  obtain ⟨link, staging⟩ := begun
  obtain ⟨r, first⟩ := State.byteUp_received opened c
  have pair : r.received = [b, c] := first.received
  obtain ⟨q, rest⟩ := State.bytesUp_received l first.run (by rw [pair]; simp)
  have routed : q.dropped = r.dropped := rest.dropped (by rw [pair]; simp)
  refine ⟨q, rest.run, by rw [rest.received, pair]; rfl,
    rest.checked (first.checked fun _ => Pass.opened_checked _ _ _ _ _), fun out => ?_, link.trans (first.passing.trans rest.passing)⟩
  rw [List.foldl_cons, List.foldl_cons, rest.unstaged out, first.unstaged (routed ▸ out), staging]

/-! ## The check -/

theorem wordBytes_wordOf (hi lo : Byte) : wordBytes (wordOf hi lo) = [hi, lo] := by
  have high : (wordOf hi lo).extractLsb' 8 8 = hi := BitVec.eq_of_toNat_eq (by
    have small := lo.isLt
    have whole := hi.isLt
    rw [BitVec.extractLsb'_toNat, wordOf_toNat, Nat.shiftRight_eq_div_pow]
    omega)
  have low : (wordOf hi lo).extractLsb' 0 8 = lo := BitVec.eq_of_toNat_eq (by
    have small := lo.isLt
    rw [BitVec.extractLsb'_toNat, wordOf_toNat, Nat.shiftRight_zero]
    omega)
  unfold wordBytes
  rw [high, low]

/-- The last two bytes of a run. -/
theorem rowWord_last (l : List Byte) (hi lo : Byte) : rowWord (l ++ [hi, lo]) ((l ++ [hi, lo]).length - 2) = wordOf hi lo := by
  unfold rowWord rowByte
  simp

/-- A run whose last two bytes are not its check does not end good (R136). -/
theorem Pass.Checked.bad {p : Pass} (h : p.Checked) {body : List Byte} {hi lo : Byte} (received : p.received = body ++ [hi, lo])
    (wrong : [hi, lo] ≠ wordBytes (crcOf body)) : p.good = false := by
  rw [← Bool.not_eq_true, p.good_iff]
  rintro ⟨length, -, -, good⟩
  have found := h.found length
  rw [good, received, rowWord_last, List.length_append, List.length_cons, List.length_singleton, Nat.add_sub_cancel, List.take_left'
    (by simp), eq_comm, decide_eq_true_eq] at found
  exact wrong (by rw [← found, wordBytes_wordOf])

/-! ## What a frame can do before its end -/

/-- The SLOT mark taken at a frame's start (R139, R151), or nothing of tables and events. -/
structure State.SlotTaken (s t : State) : Prop where
  marked : s.service.marks.getLsbD 0 = true
  marks : t.service.marks = s.service.marks &&& 0x1FE
  slot : t.service.active.get .slot = s.service.shadow.get .slot
  others : ∀ id : TableId, id ≠ .slot → t.service.active.get id = s.service.active.get id
  shadow : t.service.shadow = s.service.shadow
  swaps : t.service.swaps = (s.service.swaps.map fun w => w &&& 0x1FE).filter fun w => decide (w ≠ 0)
  mask : t.status.mask = s.status.mask
  events : ∀ i, i ≠ 13 → t.status.events.getLsbD i = s.status.events.getLsbD i

/-- `t` is `s` but for what a run on UP can do before its end: the link block, fresh and change flags, the SLOT swap. -/
structure State.Framed (s t : State) : Prop where
  frame : t = { s with slots := t.slots, contacts := t.contacts, link := t.link, service := t.service, status := t.status }
  slots : ∀ n, t.slots.get n = { s.slots.get n with fresh := (t.slots.get n).fresh }
  contacts : ∀ c, t.contacts.get c = { s.contacts.get c with changed := (t.contacts.get c).changed }
  tables : (t.service = s.service ∧ t.status = s.status) ∨ s.SlotTaken t

theorem State.SlotTaken.congr {s t v : State} (h : s.SlotTaken t) (service : v.service = t.service) (status : v.status = t.status) :
    s.SlotTaken v := by
  obtain ⟨marked, marks, slot, others, shadow, swaps, mask, events⟩ := h
  exact ⟨marked, service ▸ marks, service ▸ slot, service ▸ others, service ▸ shadow, service ▸ swaps, status ▸ mask, status ▸ events⟩

theorem State.slotSwap_taken {s t : State} (service : t.service = s.service) (status : t.status = s.status)
    (marked : inSet t.service.marks .slot = true) : s.SlotTaken t.slotSwap := by
  have taken : t.slotSwap = t.takeMarks 1#9 := if_pos marked
  rw [service] at marked
  rw [taken]
  have active (id : TableId) := takeShadow_get s.service.active s.service.shadow 1#9 id
  refine ⟨marked, ?_, ?_, fun id other => ?_, ?_, ?_, ?_, fun i other => ?_⟩
  · rw [State.takeMarks, State.latchIf_service, service]
    exact slotMark_left _
  · rw [State.takeMarks, State.latchIf_service, service]
    exact (active _).trans (if_pos ((inSet_slot _).mpr rfl))
  · rw [State.takeMarks, State.latchIf_service, service]
    exact (active _).trans (if_neg fun named => other ((inSet_slot _).mp named))
  · rw [State.takeMarks, State.latchIf_service, service]
  · rw [State.takeMarks, State.latchIf_service, service]
    rfl
  · rw [State.takeMarks, State.latchIf_mask, status]
  · rw [State.takeMarks, State.latchIf_other _ _ _ _ other, status]

theorem State.Framed.slotSwap {s t : State} (h : s.Framed t) : s.Framed t.slotSwap := by
  obtain ⟨frame, slots, contacts, tables⟩ := h
  refine ⟨?_, by simpa using slots, by simpa using contacts, ?_⟩
  · unfold State.slotSwap
    split
    · rw [State.takeMarks, State.latchIf_frame, frame]
    · exact frame
  · by_cases marked : inSet t.service.marks .slot = true
    · rcases tables with ⟨service, status⟩ | taken
      · exact .inr (State.slotSwap_taken service status marked)
      · have clear : t.service.marks.getLsbD 0 = false := by
          rw [taken.marks]
          simp
        have bit : t.service.marks.getLsbD 0 = true := marked
        rw [clear] at bit
        nomatch bit
    · rwa [show t.slotSwap = t from if_neg marked]

theorem State.Framed.bytesUp (s : State) (l : List Byte) : s.Framed (l.foldl State.byteUp s) := by
  refine State.bytesUp_keeps (P := s.Framed) (fun {t} k h => ?_) (fun h => h.slotSwap) (fun {t} n h => ?_) (fun {t} h => ?_) l
    ⟨rfl, fun _ => rfl, fun _ => rfl, .inl ⟨rfl, rfl⟩⟩
  · obtain ⟨frame, slots, contacts, tables⟩ := h
    refine ⟨?_, slots, contacts, tables.imp id fun taken => taken.congr rfl rfl⟩
    rw [frame]
  · obtain ⟨frame, slots, contacts, tables⟩ := h
    refine ⟨?_, fun k => ?_, contacts, tables.imp id fun taken => taken.congr rfl rfl⟩
    · rw [frame]
      rfl
    · simp only [State.clearFresh, Bank.get_mapIdx]
      split
      · rw [slots]
      · exact slots k
  · obtain ⟨frame, slots, contacts, tables⟩ := h
    refine ⟨?_, slots, fun c => ?_, tables.imp id fun taken => taken.congr rfl rfl⟩
    · rw [frame]
      rfl
    · simp only [State.clearChanges, Bank.get_map]
      rw [contacts]

/-! ## A bad end -/

/-- A run with a wrong check ends dropped or bad: the link block's end, and FRAME_ERROR at most. -/
theorem receiveUp_wrong {s : State} (fwd : s.forwarding = true) (idle : s.link.upRun = none) {body : List Byte} {hi lo : Byte} {idles : Nat}
    (some : 1 ≤ idles) (wrong : [hi, lo] ≠ wordBytes (crcOf body)) : ∃ f l e, s.Framed f ∧
      (l.downLive = s.link.downLive ∧ l.position = s.link.position ∧ l.timer = s.link.timer ∧ l.upRun = none) ∧
      (l.staging = Bank.all 4 none ∨ l.staging = s.link.staging) ∧ (e = f.status ∨ e = (f.latch .frameError).status) ∧
      s.receiveUp (body ++ [hi, lo]) idles = { f with link := l, status := e } := by
  obtain ⟨b, c, rest, bytes⟩ : ∃ b c rest, body ++ [hi, lo] = b :: c :: rest := by
    match body with
    | [] => exact ⟨hi, lo, [], rfl⟩
    | [b] => exact ⟨b, hi, [lo], rfl⟩
    | b :: c :: body => exact ⟨b, c, body ++ [hi, lo], rfl⟩
  obtain ⟨q, run, received, checked, unstaged, passing⟩ := State.runUp_received idle b c rest
  have framed := State.Framed.bytesUp s (b :: c :: rest)
  have ends : s.receiveUp (b :: c :: rest) idles = (List.foldl State.byteUp s (b :: c :: rest)).endUp q idles := by
    unfold State.receiveUp State.idleUp
    rw [if_pos fwd, if_neg (by omega), run]
  rw [bytes, ends]
  rw [← bytes] at received
  generalize List.foldl State.byteUp s (b :: c :: rest) = f at run unstaged passing framed ⊢
  obtain ⟨downLive, position, timer, _⟩ := passing
  cases out : q.dropped with
  | true =>
    refine ⟨f, { f.link with upRun := none }, f.status, framed, ⟨downLive, position, timer, rfl⟩, .inr (unstaged out), .inl rfl, ?_⟩
    unfold State.endUp
    exact if_pos out
  | false =>
    obtain ⟨l, ended, bad⟩ := f.endUp_routed out idles
    rw [(checked out).bad received wrong] at bad
    exact ⟨f, { l with staging := Bank.all 4 none, frameErrors := min (l.frameErrors + 1) 65535 }, _, framed,
      ⟨ended.downLive.trans downLive, ended.position.trans position, ended.timer.trans timer, ended.upRun⟩, .inl rfl, .inr rfl, bad⟩

/-- FRAME_ERROR latched at most. -/
theorem frameError_others {f : State} {e : Status} (h : e = f.status ∨ e = (f.latch .frameError).status) :
    e.mask = f.status.mask ∧ ∀ i, i ≠ 3 → e.events.getLsbD i = f.status.events.getLsbD i := by
  rcases h with rfl | rfl
  · exact ⟨rfl, fun _ _ => rfl⟩
  · exact ⟨rfl, fun i other => State.latchIf_other f true .frameError i other⟩

/-- Settles O7. -/
theorem badFrameTakesNoEffect : Obligations.BadFrameTakesNoEffect := by
  intro s body hi lo idles idle fwd some wrong
  obtain ⟨f, l, e, framed, ⟨downLive, position, timer, upRun⟩, staging, status, received⟩ := receiveUp_wrong fwd idle some wrong
  obtain ⟨mask, events⟩ := frameError_others status
  refine ⟨_, congrArg Host.Outcome.next received, ?_⟩
  obtain ⟨frame, slots, contacts, tables⟩ := framed
  have kept : f.service.shadow = s.service.shadow ∧ f.service.marks &&& 0x1FE = s.service.marks &&& 0x1FE ∧
      (∀ id : TableId, id ≠ .slot → f.service.active.get id = s.service.active.get id) ∧ f.status.mask = s.status.mask ∧
      (∀ i, i ≠ 13 → f.status.events.getLsbD i = s.status.events.getLsbD i) ∧
      (s.service.marks.getLsbD 0 = false → f.status.events.getLsbD 13 = s.status.events.getLsbD 13) := by
    rcases tables with ⟨service, status⟩ | taken
    · rw [service, status]
      exact ⟨rfl, rfl, fun _ _ => rfl, rfl, fun _ _ => rfl, fun _ => rfl⟩
    · refine ⟨taken.shadow, ?_, taken.others, taken.mask, taken.events, fun clear => ?_⟩
      · rw [taken.marks, BitVec.and_assoc, BitVec.and_self]
      · rw [taken.marked] at clear
        nomatch clear
  obtain ⟨shadow, marks, active, fmask, fevents, swapped⟩ := kept
  refine ⟨?_, shadow, marks, active,
    tables.imp And.left fun taken => ⟨taken.marked, taken.marks, taken.slot, taken.swaps⟩,
    mask.trans fmask, fun i a b => (events i a).trans (fevents i b), fun clear => (events 13 (by decide)).trans (swapped clear),
    staging, timer, position, upRun, downLive, ?_, ?_, ?_, ?_, ?_, ?_, ?_, ?_, ?_, ?_, ?_, ?_, ?_, ?_, ?_, ?_, slots, contacts⟩
  all_goals
    rw [frame]

end Sys2Proof.Machine
end

section
/-! What a run on UP sends as it passes (R135, R136): stretches of bytes put together, and the places of the frame. -/

namespace Sys2Proof.Machine

/-! ## Stretches of a run -/

/-- The part with a pass under way and the bytes sent on the ports so far. -/
def State.sending (s : State) (p : Pass) (up down : List Byte) : State :=
  { s with link := { s.link with upRun := some p, upSent := up, downSent := down } }

/-- The bytes `l` take the part from `s` with the pass `p` to `t` with the pass `q`, and `out` is sent on the run's port. -/
structure State.Sends (s : State) (p : Pass) (l : List Byte) (t : State) (q : Pass) (out : List Byte) : Prop where
  toUp : q.toUp = p.toUp
  dropped : q.dropped = p.dropped
  received : q.received = p.received ++ l
  bytes : ∀ up down, l.foldl State.byteUp (s.sending p up down) =
    t.sending q (if p.toUp then up ++ out else up) (if p.toUp then down else down ++ out)

theorem State.Sends.trans {s t v : State} {p q r : Pass} {l m out out' : List Byte} (h : s.Sends p l t q out) (k : t.Sends q m v r out') :
    s.Sends p (l ++ m) v r (out ++ out') where
  toUp := k.toUp.trans h.toUp
  dropped := k.dropped.trans h.dropped
  received := by rw [k.received, h.received, List.append_assoc]
  bytes up down := by
    rw [List.foldl_append, h.bytes, k.bytes, h.toUp]
    cases p.toUp <;> simp

theorem State.Sends.nil (s : State) (p : Pass) : s.Sends p [] s p [] :=
  ⟨rfl, rfl, by simp, fun up down => by cases p.toUp <;> simp⟩

/-- A stretch that the checks cover, on both sides (R136). -/
structure State.Covers (s : State) (p : Pass) (l : List Byte) (t : State) (q : Pass) (out : List Byte) : Prop extends s.Sends p l t q out where
  crcIn : q.crcIn = l.foldl crcByte p.crcIn
  crcOut : q.crcOut = out.foldl crcByte p.crcOut

theorem State.Covers.trans {s t v : State} {p q r : Pass} {l m out out' : List Byte} (h : s.Covers p l t q out) (k : t.Covers q m v r out') :
    s.Covers p (l ++ m) v r (out ++ out') where
  toSends := h.toSends.trans k.toSends
  crcIn := by rw [List.foldl_append, ← h.crcIn, k.crcIn]
  crcOut := by rw [List.foldl_append, ← h.crcOut, k.crcOut]

theorem State.Covers.nil (s : State) (p : Pass) : s.Covers p [] s p [] := ⟨.nil s p, rfl, rfl⟩

/-- A byte after the direction byte of a routed run is passed. -/
theorem byteUp_sending {s : State} {p : Pass} (routed : p.dropped = false) (long : 2 ≤ p.received.length) (up down : List Byte) (b : Byte) :
    (s.sending p up down).byteUp b = { (passByte (s.sending p up down) p b).1 with
      link := { (passByte (s.sending p up down) p b).1.link with upRun := some (passByte (s.sending p up down) p b).2 } } := by
  have later : p.received.length ≠ 1 := by omega
  change (s.sending p up down).nextUp p b = _
  unfold State.nextUp State.applyIf
  simp [later, routed]

/-- A covered byte (R135, R136), by what its place does with it. -/
theorem State.Covers.byte {s t : State} {p r : Pass} {b o : Byte} (routed : p.dropped = false) (long : 2 ≤ p.received.length)
    (place : p.received.length < maskStart (p.received ++ [b]) + 2)
    (byte : ∀ up down, coveredByte (s.sending p up down) { p with received := p.received ++ [b] } p.received.length b =
      { state := t.sending p up down, pass := r, out := o }) :
    s.Covers p [b] t { r with crcIn := crcByte p.crcIn b, crcOut := crcByte p.crcOut o } [o] := by
  have alike := coveredByte_alike (s.sending p [] []) { p with received := p.received ++ [b] } p.received.length b
  rw [byte] at alike
  obtain ⟨toUp, dropped, received, _⟩ := alike
  refine ⟨⟨toUp, dropped, received, fun up down => ?_⟩, rfl, rfl⟩
  have passes : passByte (s.sending p up down) p b = ({ t.sending p up down with link := (t.sending p up down).link.send p.toUp [o] },
      { r with crcIn := crcByte p.crcIn b, crcOut := crcByte p.crcOut o }) := by
    unfold passByte
    dsimp only
    rw [if_pos (.inr place), byte]
  rw [List.foldl_cons, List.foldl_nil, byteUp_sending routed long, passes]
  cases p.toUp <;> rfl

/-- The first of the two bytes of the check is held back (R136). -/
theorem State.Sends.checkHeld {s : State} {p : Pass} {b : Byte} (routed : p.dropped = false)
    (place : p.received.length = maskStart (p.received ++ [b]) + 2) : s.Sends p [b] s { p with received := p.received ++ [b] } [] := by
  have far := maskStart_ge (p.received ++ [b])
  refine ⟨rfl, rfl, rfl, fun up down => ?_⟩
  have passes : passByte (s.sending p up down) p b = (s.sending p up down, { p with received := p.received ++ [b] }) := by
    unfold passByte
    dsimp only
    rw [if_neg (by omega), if_pos place]
  rw [List.foldl_cons, List.foldl_nil, byteUp_sending routed (by omega), passes]
  cases p.toUp <;> simp <;> rfl

/-- With the second one the hub sends its own check (R136). -/
theorem State.Sends.checkSent {s : State} {p r : Pass} {b : Byte} (routed : p.dropped = false)
    (place : p.received.length = maskStart (p.received ++ [b]) + 3)
    (judged : r = { p with
      received := p.received ++ [b]
      checkGood := decide (rowWord (p.received ++ [b]) (p.received.length - 1) = p.crcIn) }) :
    s.Sends p [b] s r (wordBytes r.sentCheck) := by
  have far := maskStart_ge (p.received ++ [b])
  subst judged
  refine ⟨rfl, rfl, rfl, fun up down => ?_⟩
  have passes : passByte (s.sending p up down) p b = ({ s.sending p up down with
      link := (s.sending p up down).link.send p.toUp (wordBytes (Pass.sentCheck { p with
        received := p.received ++ [b]
        checkGood := decide (rowWord (p.received ++ [b]) (p.received.length - 1) = p.crcIn) })) }, { p with
        received := p.received ++ [b]
        checkGood := decide (rowWord (p.received ++ [b]) (p.received.length - 1) = p.crcIn) }) := by
    unfold passByte
    dsimp only
    rw [if_neg (by omega), if_neg (by omega), if_pos place]
  rw [List.foldl_cons, List.foldl_nil, byteUp_sending routed (by omega), passes]
  cases p.toUp <;> rfl

/-- Any byte beyond the check passes as received. -/
theorem State.Sends.beyond {s : State} {p : Pass} {b : Byte} (routed : p.dropped = false)
    (place : maskStart (p.received ++ [b]) + 3 < p.received.length) : s.Sends p [b] s { p with received := p.received ++ [b] } [b] := by
  have far := maskStart_ge (p.received ++ [b])
  refine ⟨rfl, rfl, rfl, fun up down => ?_⟩
  have passes : passByte (s.sending p up down) p b = ({ s.sending p up down with
      link := (s.sending p up down).link.send p.toUp [b] }, { p with received := p.received ++ [b] }) := by
    unfold passByte
    dsimp only
    rw [if_neg (by omega), if_neg (by omega), if_neg (by omega)]
  rw [List.foldl_cons, List.foldl_nil, byteUp_sending routed (by omega), passes]
  cases p.toUp <;> rfl

/-- What a command of bytes alone leaves while a run passes. -/
theorem State.Sends.receive {s t : State} {p q : Pass} {l out : List Byte} (h : s.Sends p l t q out) (fwd : s.forwarding = true)
    (run : s.link.upRun = some p) : s.receiveUp l 0 = t.sending q (if p.toUp then s.link.upSent ++ out else s.link.upSent)
      (if p.toUp then s.link.downSent else s.link.downSent ++ out) := by
  have same : s.sending p s.link.upSent s.link.downSent = s := congrArg s.withLink (s.link.upRun_same run)
  have bytes := h.bytes s.link.upSent s.link.downSent
  rw [same] at bytes
  unfold State.receiveUp
  rw [if_pos fwd, bytes]
  rfl

/-! ## Where a covered byte stands -/

section places
variable (s : State) {p : Pass} {i : Nat} (b : Byte)

theorem coveredByte_error (error : p.error = true) : coveredByte s p i b = passThrough s p b := if_pos error

theorem coveredByte_header (fine : p.error = false) (place : i < 8) : coveredByte s p i b = headerByte s p i b := by
  unfold coveredByte
  rw [fine, if_neg Bool.false_ne_true, if_pos place]

theorem coveredByte_segment (fine : p.error = false) (from_ : 8 ≤ i) (place : i < areaStart p.received) :
    coveredByte s p i b = segmentByte s p i b := by
  unfold coveredByte
  rw [fine, if_neg Bool.false_ne_true, if_neg (by omega), if_pos place]

theorem coveredByte_area (fine : p.error = false) (from_ : areaStart p.received ≤ i) (place : i < maskStart p.received) :
    coveredByte s p i b = areaByte s p i b := by
  have far := areaStart_ge p.received
  unfold coveredByte
  rw [fine, if_neg Bool.false_ne_true, if_neg (by omega), if_neg (by omega), if_pos place]

theorem coveredByte_mask (fine : p.error = false) (from_ : maskStart p.received ≤ i) : coveredByte s p i b = maskByte s p i b := by
  have far : areaStart p.received ≤ maskStart p.received := Nat.le_add_right _ _
  have far' := areaStart_ge p.received
  unfold coveredByte
  rw [fine, if_neg Bool.false_ne_true, if_neg (by omega), if_neg (by omega), if_neg (by omega)]

end places

/-! ## A run that opens on free ports -/

/-- The part once a run on UP has its port (R133). -/
def State.routed (s : State) : State :=
  { s with link := { s.link.setPort (!s.link.downLive) (.sending true s.now) with staging := Bank.all 4 none } }

/-- The pass as a run with a free port opens it. -/
def State.opens (s : State) : Pass := Pass.opened (!s.link.downLive) false false s.now 0xD5

/-- The direction byte of a frame: with no SLOT mark to take, it is routed. -/
theorem State.nextUp_routes {s : State} {p : Pass} {b : Byte} (routed : p.dropped = false) (first : p.received.length = 1)
    (unmarked : b = 0 → s.service.marks.getLsbD 0 = false) : s.nextUp p b = s.routeUp p b := by
  have swap (c : Bool) : s.applyIf (c && decide (b = 0)) State.slotSwap = s := by
    unfold State.applyIf
    split
    · next taken =>
      simp only [Bool.and_eq_true, decide_eq_true_eq] at taken
      have clear : inSet s.service.marks .slot = false := unmarked taken.2
      exact if_neg (by simp [clear])
    · rfl
  unfold State.nextUp
  dsimp only
  rw [swap, routed, if_neg Bool.false_ne_true, if_pos (by simpa using first)]

/-- A run with a free port takes it at the direction byte, which it passes on. -/
theorem State.routeUp_free {s : State} {p : Pass} {b : Byte} (out : b ≠ 1) (open_ : p.blocked = false) (free : s.link.port p.toUp = .free) :
    s.routeUp p b =
      let r := passByte { s with link := { ((s.link.setPort p.toUp (.sending true p.started)).setSent p.toUp p.received) with
        staging := Bank.all 4 none } } p b
      { r.1 with link := { r.1.link with upRun := some r.2 } } := by
  unfold State.routeUp
  have enters : ¬(b = 1 ∨ p.blocked = true ∨ (s.link.port p.toUp).takenBefore true p.started = true) := by
    rintro (back | busy | taken)
    · exact out back
    · simp [open_] at busy
    · simp [free, PortState.takenBefore] at taken
  rw [if_neg enters, free]
  rfl

/-- The direction byte passed on. -/
theorem passByte_first {s : State} {p q : Pass} {b o : Byte} (fine : p.error = false) (first : p.received.length = 1)
    (byte : headerByte s { p with received := p.received ++ [b] } 1 b = { state := s, pass := q, out := o }) :
    passByte s p b = ({ s with link := s.link.send p.toUp [o] }, { q with crcIn := crcByte p.crcIn b, crcOut := crcByte p.crcOut o }) := by
  unfold passByte
  dsimp only
  rw [first, if_pos (.inl (by decide)), coveredByte_header (p := { p with received := p.received ++ [b] }) s b fine (by decide), byte]

/-- The direction byte of a frame whose port is free, with no SLOT mark to take. -/
theorem State.nextUp_enters {s : State} {p q : Pass} {b o : Byte} (routed : p.dropped = false) (fine : p.error = false)
    (first : p.received.length = 1) (open_ : p.blocked = false) (free : s.link.port p.toUp = .free) (out : b ≠ 1)
    (unmarked : b = 0 → s.service.marks.getLsbD 0 = false)
    (byte : ∀ t : State, headerByte t { p with received := p.received ++ [b] } 1 b = { state := t, pass := q, out := o }) :
    s.nextUp p b = { s with link := { Link.send { ((s.link.setPort p.toUp (.sending true p.started)).setSent p.toUp p.received) with
      staging := Bank.all 4 none } p.toUp [o] with
        upRun := some { q with crcIn := crcByte p.crcIn b, crcOut := crcByte p.crcOut o } } } := by
  rw [State.nextUp_routes routed first unmarked, State.routeUp_free out open_ free]
  dsimp only
  rw [passByte_first fine first (byte _)]

/-- The start byte and the direction byte of a run that finds its port free (R133): one that is not RETURN is routed. -/
theorem bytesUp_opens {s : State} (idle : s.link.upRun = none) (upFree : s.link.upPort = .free) (downFree : s.link.downPort = .free) {b o : Byte}
    (out : b ≠ 1) (unmarked : b = 0 → s.service.marks.getLsbD 0 = false) {q : Pass}
    (byte : ∀ t : State, headerByte t { s.opens with received := [0xD5, b] } 1 b = { state := t, pass := q, out := o }) :
    List.foldl State.byteUp s [0xD5, b] = s.routed.sending { q with
        crcIn := crcByte s.opens.crcIn b
        crcOut := crcByte s.opens.crcOut o }
      (if s.link.downLive then s.link.upSent else [0xD5, o]) (if s.link.downLive then [0xD5, o] else s.link.downSent) := by
  have start : s.byteUp 0xD5 = { s with link := { s.link with upRun := some s.opens } } := by
    unfold State.byteUp
    rw [idle]
    unfold State.startUp
    dsimp only
    cases live : s.link.downLive <;> simp [Link.port, upFree, downFree, portBusy, State.opens, live]
  have free : Link.port { s.link with upRun := some s.opens } s.opens.toUp = .free := by
    cases s.opens.toUp
    · exact downFree
    · exact upFree
  rw [List.foldl_cons, start, List.foldl_cons, List.foldl_nil]
  refine (State.nextUp_enters (s := { s with link := { s.link with upRun := some s.opens } }) (p := s.opens) rfl rfl rfl rfl free out unmarked
    byte).trans ?_
  unfold State.routed State.opens
  cases s.link.downLive <;> rfl

end Sys2Proof.Machine
end

section
/-! A frame without segments and records, from its start byte to its end (R133 to R136). -/

namespace Sys2Proof.Machine

/-! ## Header and masks of an empty frame -/

/-- Two passes that stand alike among the records of the frame. -/
structure Pass.Steady (p q : Pass) : Prop where
  error : q.error = p.error
  position : q.position = p.position
  recordAt : q.recordAt = p.recordAt
  recordNo : q.recordNo = p.recordNo
  accepted : q.accepted = p.accepted

theorem Pass.Steady.trans {p q r : Pass} (h : p.Steady q) (k : q.Steady r) : p.Steady r :=
  ⟨k.error.trans h.error, k.position.trans h.position, k.recordAt.trans h.recordAt, k.recordNo.trans h.recordNo,
    k.accepted.trans h.accepted⟩

/-- A header byte after the direction byte. -/
theorem State.Covers.header {s : State} {p q : Pass} {b o : Byte} (routed : p.dropped = false) (fine : p.error = false)
    (long : 2 ≤ p.received.length) (short : p.received.length < 8)
    (byte : ∀ t : State, headerByte t { p with received := p.received ++ [b] } p.received.length b = { state := t, pass := q, out := o }) :
    s.Covers p [b] s { q with crcIn := crcByte p.crcIn b, crcOut := crcByte p.crcOut o } [o] := by
  have far := maskStart_ge (p.received ++ [b])
  refine .byte routed long (by omega) fun up down => ?_
  rw [coveredByte_header (p := { p with received := p.received ++ [b] }) _ b fine short, byte]

/-- A header byte that passes as received. -/
theorem State.Covers.headerPlain {s : State} {p : Pass} {b : Byte} (routed : p.dropped = false) (fine : p.error = false)
    (place : p.received.length = 2 ∨ (p.received.length = 4 ∧ b.toNat ≤ 32) ∨ (p.received.length = 5 ∧ b.toNat ≤ 8) ∨ p.received.length = 6) :
    ∃ q, s.Covers p [b] s q [b] ∧ p.Steady q := by
  refine ⟨_, .header (q := { p with received := p.received ++ [b] }) routed fine (by omega) (by omega) fun t => ?_, ⟨rfl, rfl, rfl, rfl, rfl⟩⟩
  unfold headerByte
  rcases place with at_ | ⟨at_, few⟩ | ⟨at_, few⟩ | at_
  · simp [at_, passThrough]
  · simp [at_, passThrough, few]
  · simp [at_, passThrough, few]
  · simp [at_, passThrough]

/-- The hop count (R135): the hub's position, and the count it sends on. -/
theorem State.Covers.headerHop {s : State} {p : Pass} {hop : Byte} (routed : p.dropped = false) (fine : p.error = false)
    (place : p.received.length = 3) (chain : hop.toNat ≤ 3) :
    ∃ q, s.Covers p [hop] s q [hop + 1] ∧ Pass.Steady { p with position := hop.toNat + 1 } q := by
  refine ⟨_, .header (q := { p with received := p.received ++ [hop], position := hop.toNat + 1 }) routed fine (by omega) (by omega)
    fun t => ?_, ⟨rfl, rfl, rfl, rfl, rfl⟩⟩
  have next : BitVec.ofNat 8 (hop.toNat + 1) = hop + 1 := BitVec.eq_of_toNat_eq (by simp)
  unfold headerByte
  simp [place, chain, next]

/-- The last header byte: the first record would stand where the segments end. -/
theorem State.Covers.headerLast {s : State} {p : Pass} {b : Byte} (routed : p.dropped = false) (fine : p.error = false)
    (place : p.received.length = 7) :
    ∃ q, s.Covers p [b] s q [b] ∧ Pass.Steady { p with recordAt := areaStart (p.received ++ [b]) } q := by
  refine ⟨_, .header (q := { p with received := p.received ++ [b], recordAt := areaStart (p.received ++ [b]) }) routed fine (by omega)
    (by omega) fun t => ?_, ⟨rfl, rfl, rfl, rfl, rfl⟩⟩
  unfold headerByte
  simp [place, passThrough]

/-- The header of an empty frame from its third byte on: the hop count goes up by one (R135). -/
theorem State.Covers.emptyHeader {s : State} {p : Pass} (routed : p.dropped = false) (fine : p.error = false) (second hop : Byte)
    (chain : hop.toNat ≤ 3) {start direction : Byte} (begun : p.received = [start, direction]) : ∃ q,
    s.Covers p [second, hop, 0, 0, 0, 0] s q [second, hop + 1, 0, 0, 0, 0] ∧
      Pass.Steady { p with position := hop.toNat + 1, recordAt := 8 } q := by
  obtain ⟨p2, h2, k2⟩ := State.Covers.headerPlain (s := s) (b := second) routed fine (.inl (by rw [begun]; rfl))
  have r2 : p2.received = [start, direction, second] := by rw [h2.received, begun]; rfl
  have d2 := h2.dropped.trans routed
  have e2 := k2.error.trans fine
  obtain ⟨p3, h3, k3⟩ := State.Covers.headerHop (s := s) (hop := hop) d2 e2 (by rw [r2]; rfl) chain
  have r3 : p3.received = [start, direction, second, hop] := by rw [h3.received, r2]; rfl
  have d3 := h3.dropped.trans d2
  have e3 := k3.error.trans e2
  obtain ⟨p4, h4, k4⟩ := State.Covers.headerPlain (s := s) (b := 0) d3 e3 (.inr (.inl ⟨by rw [r3]; rfl, by decide⟩))
  have r4 : p4.received = [start, direction, second, hop, 0] := by rw [h4.received, r3]; rfl
  have d4 := h4.dropped.trans d3
  have e4 := k4.error.trans e3
  obtain ⟨p5, h5, k5⟩ := State.Covers.headerPlain (s := s) (b := 0) d4 e4 (.inr (.inr (.inl ⟨by rw [r4]; rfl, by decide⟩)))
  have r5 : p5.received = [start, direction, second, hop, 0, 0] := by rw [h5.received, r4]; rfl
  have d5 := h5.dropped.trans d4
  have e5 := k5.error.trans e4
  obtain ⟨p6, h6, k6⟩ := State.Covers.headerPlain (s := s) (b := 0) d5 e5 (.inr (.inr (.inr (by rw [r5]; rfl))))
  have r6 : p6.received = [start, direction, second, hop, 0, 0, 0] := by rw [h6.received, r5]; rfl
  obtain ⟨p7, h7, k7⟩ := State.Covers.headerLast (s := s) (b := 0) (h6.dropped.trans d5) (k6.error.trans e5) (by rw [r6]; rfl)
  have area : areaStart (p6.received ++ [0]) = 8 := by rw [r6]; rfl
  rw [area] at k7
  have k6' := ((k3.trans k4).trans k5).trans k6
  refine ⟨p7, ((((h2.trans h3).trans h4).trans h5).trans h6).trans h7, k7.error.trans (k6'.error.trans k2.error),
    k7.position.trans k6'.position, k7.recordAt, k7.recordNo.trans (k6'.recordNo.trans k2.recordNo),
    k7.accepted.trans (k6'.accepted.trans k2.accepted)⟩

/-- The presence mask, the service area filled exactly (R135). -/
theorem State.Covers.presence {s : State} {p : Pass} {b : Byte} (routed : p.dropped = false) (fine : p.error = false)
    (header : 8 ≤ p.received.length) (place : p.received.length = maskStart p.received) (records_ : p.recordNo = records p.received)
    (filled : p.recordAt = maskStart p.received) :
    ∃ q, s.Covers p [b] s q [if s.inStandby then b else b ||| positionBit p.position] ∧ p.Steady q := by
  have same := maskStart_append [b] header
  refine ⟨_, .byte (r := { p with received := p.received ++ [b] }) routed (by omega) (by omega) fun up down => ?_, ⟨rfl, rfl, rfl, rfl, rfl⟩⟩
  have count : records (p.received ++ [b]) = records p.received := by unfold records; rw [rowNat_append _ (by omega)]
  have standby : (s.sending p up down).inStandby = s.inStandby := rfl
  rw [coveredByte_mask (p := { p with received := p.received ++ [b] }) _ b fine (by rw [same, place])]
  unfold maskByte
  simp only [same, count]
  rw [if_pos place, if_neg (by omega), standby]
  cases s.inStandby <;> rfl

/-- The attention mask (R135). -/
theorem State.Covers.attention {s : State} {p : Pass} {b : Byte} (routed : p.dropped = false) (fine : p.error = false)
    (header : 8 ≤ p.received.length) (place : p.received.length = maskStart p.received + 1) :
    ∃ q, s.Covers p [b] s q [if s.summary = 0 then b else b ||| positionBit p.position] ∧ p.Steady q := by
  have same := maskStart_append [b] header
  refine ⟨_, .byte (r := { p with received := p.received ++ [b] }) routed (by omega) (by omega) fun up down => ?_, ⟨rfl, rfl, rfl, rfl, rfl⟩⟩
  have summary : (s.sending p up down).summary = s.summary := rfl
  rw [coveredByte_mask (p := { p with received := p.received ++ [b] }) _ b fine (by rw [same, place]; omega)]
  unfold maskByte
  simp only [same]
  rw [if_neg (by omega), summary]
  split <;> rfl

/-- The check of a frame and the check the hub sends (R136). -/
theorem State.Sends.check {s : State} {p : Pass} {hi lo : Byte} (routed : p.dropped = false) (header : 8 ≤ p.received.length)
    (place : p.received.length = maskStart p.received + 2) :
    ∃ q, s.Sends p [hi, lo] s q (wordBytes q.sentCheck) ∧ p.Steady q ∧ q.crcOut = p.crcOut ∧ q.checkGood = decide (wordOf hi lo = p.crcIn) := by
  have held := State.Sends.checkHeld (s := s) (b := hi) routed (by rw [maskStart_append _ header, place])
  have sent := State.Sends.checkSent (s := s) (p := { p with received := p.received ++ [hi] }) (b := lo) routed (by
    rw [maskStart_append [lo] (by rw [List.length_append]; omega), maskStart_append _ header, List.length_append, place]
    rfl) rfl
  have last : rowWord (p.received ++ [hi] ++ [lo]) ((p.received ++ [hi]).length - 1) = wordOf hi lo := by
    rw [List.append_assoc, List.length_append, List.length_singleton, Nat.add_sub_cancel]
    have words := rowWord_last p.received hi lo
    rwa [List.length_append, List.length_cons, List.length_singleton, Nat.add_sub_cancel] at words
  exact ⟨_, held.trans sent, ⟨rfl, rfl, rfl, rfl, rfl⟩, rfl, by rw [last]⟩

/-! ## The end of a whole frame -/

/-- The part once a whole frame has been sent and its port is free (R133, log entry 23). -/
def State.sent (s : State) (toUp : Bool) (up down : List Byte) : State :=
  { s with link := { s.link.setPort toUp .free with upRun := none, upSent := up, downSent := down } }

/-- Two idle characters after a whole frame. -/
theorem State.endUp_whole {s : State} {q : Pass} {up down : List Byte} (routed : q.dropped = false)
    (whole : q.received.length = maskStart q.received + 4) : (s.sending q up down).endUp q 2 =
      if q.good then (s.sent q.toUp up down).goodEnd q.position q.accepted else (s.sent q.toUp up down).badEnd := by
  have far := maskStart_ge q.received
  have none : q.heldBack = [] := if_neg (by omega)
  have sent : State.withLink (s.sending q up down) { ((s.sending q up down).link.send q.toUp []).setPort q.toUp (portAfter s.now 2) with
      upRun := Option.none } = s.sent q.toUp up down := by
    cases q.toUp <;> simp [State.sending, State.sent, State.withLink, Link.send, Link.setPort, portAfter]
  unfold State.endUp
  rw [routed, if_neg Bool.false_ne_true, if_neg (by omega), none]
  dsimp only
  rw [← sent]
  rfl

/-- The ports after a whole frame, good or bad, and what is said of it. -/
theorem State.sent_ends (s : State) (toUp : Bool) (up down : List Byte) (position : Nat) (good : Bool) :
    let t := if good then (s.sent toUp up down).goodEnd position [] else (s.sent toUp up down).badEnd
    t.link.upSent = up ∧ t.link.downSent = down ∧ t.link.upPort = (if toUp then .free else s.link.upPort) ∧
      t.link.downPort = (if toUp then s.link.downPort else .free) ∧ t.link.upRun = none ∧
      (good = true → t.link.position = position) ∧ (good = false → t.status.events.getLsbD 3 = true) := by
  cases good with
  | true =>
    dsimp only
    rw [if_pos rfl, State.goodEnd_eq, List.foldl_nil, State.committed_eq]
    refine ⟨?_, ?_, ?_, ?_, rfl, fun _ => rfl, nofun⟩ <;> cases toUp <;> rfl
  | false =>
    have error : (s.sent toUp up down).badEnd.status.events.getLsbD 3 = true := by
      refine (State.latchIf_self _ true .frameError).trans ?_
      rw [Bool.or_true]
    dsimp only
    rw [if_neg Bool.false_ne_true]
    refine ⟨?_, ?_, ?_, ?_, rfl, nofun, fun _ => error⟩ <;> cases toUp <;> rfl

theorem maskStart_empty (a b c d : Byte) (l : List Byte) : maskStart (a :: b :: c :: d :: 0 :: 0 :: 0 :: 0 :: l) = 8 := by
  have area : rowWordNat (a :: b :: c :: d :: 0 :: 0 :: 0 :: 0 :: l) 6 = 0 := by
    unfold rowWordNat rowWord
    rw [wordOf_toNat]
    simp [rowByte]
  unfold maskStart areaLength areaStart segments
  rw [area]
  simp [rowNat, rowByte]

theorem wordBytes_inj {v w : Word16} (same : wordBytes v = wordBytes w) : v = w := by
  simp only [wordBytes, List.cons.injEq, and_true] at same
  rw [← wordOf_bytes v, ← wordOf_bytes w, same.1, same.2]

/-- An empty frame on free ports, up to its last byte: what the hub has sent, and what its pass holds. -/
theorem bytesUp_empty {s : State} {second hop present attention hi lo : Byte} (idle : s.link.upRun = none) (upFree : s.link.upPort = .free)
    (downFree : s.link.downPort = .free) (unmarked : s.service.marks.getLsbD 0 = false) (chain : hop.toNat ≤ 3) :
    let sent : List Byte := [0xD5, if s.link.downLive then 0x00 else 0x01, second, hop + 1, 0, 0, 0, 0,
      if s.inStandby then present else present ||| positionBit (hop.toNat + 1),
      if s.summary = 0 then attention else attention ||| positionBit (hop.toNat + 1)]
    let good := decide (wordOf hi lo = crcOf [0xD5, 0x00, second, hop, 0, 0, 0, 0, present, attention])
    let out := sent ++ wordBytes (if good then crcOf sent else ~~~(crcOf sent))
    ∃ q, List.foldl State.byteUp s [0xD5, 0x00, second, hop, 0, 0, 0, 0, present, attention, hi, lo] =
        s.routed.sending q (if s.link.downLive then s.link.upSent else out) (if s.link.downLive then out else s.link.downSent) ∧
      q.toUp = !s.link.downLive ∧ q.dropped = false ∧
      q.received = [0xD5, 0x00, second, hop, 0, 0, 0, 0, present, attention, hi, lo] ∧ q.good = good ∧ q.position = hop.toNat + 1 ∧
      q.accepted = [] := by
  intro sent good out
  have opens := bytesUp_opens (s := s) (b := 0) (o := if s.link.downLive then 0x00 else 0x01)
    (q := { s.opens with received := [0xD5, 0x00] }) idle upFree downFree (by decide) (fun _ => unmarked) fun t => by
      unfold headerByte State.opens Pass.opened
      cases s.link.downLive <;> rfl
  generalize p1eq : ({ s.opens with
    received := [0xD5, 0x00]
    crcIn := crcByte s.opens.crcIn 0
    crcOut := crcByte s.opens.crcOut (if s.link.downLive then 0x00 else 0x01) } : Pass) = p1 at opens
  have d1 : p1.dropped = false := by rw [← p1eq]; rfl
  have e1 : p1.error = false := by rw [← p1eq]; rfl
  have r1 : p1.received = [0xD5, 0x00] := by rw [← p1eq]
  have c1 : p1.crcIn = crcOf [0xD5, 0x00] ∧ p1.crcOut = crcOf [0xD5, if s.link.downLive then 0x00 else 0x01] := by
    rw [← p1eq]
    simp only [crcOf, List.foldl_cons, List.foldl_nil, State.opens, Pass.opened, and_self]
  have n1 : p1.recordNo = 0 ∧ p1.accepted = [] ∧ p1.toUp = !s.link.downLive := by
    rw [← p1eq]
    exact ⟨rfl, rfl, rfl⟩
  obtain ⟨p2, h2, k2⟩ := State.Covers.emptyHeader (s := s.routed) d1 e1 second hop chain r1
  have r2 : p2.received = [0xD5, 0x00, second, hop, 0, 0, 0, 0] := by rw [h2.received, r1]; rfl
  have m2 : maskStart p2.received = 8 := by rw [r2]; exact maskStart_empty _ _ _ _ _
  have d2 := h2.dropped.trans d1
  have e2 : p2.error = false := k2.error.trans e1
  obtain ⟨p3, h3, k3⟩ := State.Covers.presence (s := s.routed) (b := present) d2 e2 (by simp [r2]) (by rw [m2, r2]; rfl)
    (by rw [k2.recordNo, r2]; exact n1.1) (by rw [k2.recordAt, m2])
  have r3 : p3.received = [0xD5, 0x00, second, hop, 0, 0, 0, 0, present] := by rw [h3.received, r2]; rfl
  have m3 : maskStart p3.received = 8 := by rw [r3]; exact maskStart_empty _ _ _ _ _
  obtain ⟨p4, h4, k4⟩ := State.Covers.attention (s := s.routed) (b := attention) (h3.dropped.trans d2) (k3.error.trans e2)
    (by simp [r3]) (by rw [m3, r3]; rfl)
  have r4 : p4.received = [0xD5, 0x00, second, hop, 0, 0, 0, 0, present, attention] := by rw [h4.received, r3]; rfl
  have m4 : maskStart p4.received = 8 := by rw [r4]; exact maskStart_empty _ _ _ _ _
  have d4 := h4.dropped.trans (h3.dropped.trans d2)
  obtain ⟨q, h5, k5, crcOut, checkGood⟩ := State.Sends.check (s := s.routed) (hi := hi) (lo := lo) d4 (by simp [r4])
    (by rw [m4, r4]; rfl)
  have covers := (h2.trans h3).trans h4
  have position : p3.position = hop.toNat + 1 := k3.position.trans k2.position
  rw [k2.position, position] at covers
  have crcs : p4.crcIn = crcOf [0xD5, 0x00, second, hop, 0, 0, 0, 0, present, attention] ∧ p4.crcOut = crcOf sent := by
    rw [covers.crcIn, covers.crcOut, c1.1, c1.2]
    unfold crcOf
    rw [← List.foldl_append, ← List.foldl_append]
    exact ⟨rfl, rfl⟩
  rw [crcs.1] at checkGood
  rw [crcs.2] at crcOut
  have error : q.error = false := k5.error.trans (k4.error.trans (k3.error.trans e2))
  have check : q.sentCheck = if good then crcOf sent else ~~~(crcOf sent) := by
    unfold Pass.sentCheck
    rw [checkGood, error, crcOut, Bool.not_false, Bool.and_true]
  have whole := covers.toSends.trans h5
  have received : q.received = [0xD5, 0x00, second, hop, 0, 0, 0, 0, present, attention, hi, lo] := by rw [h5.received, r4]; rfl
  have masks : maskStart q.received = 8 := by rw [received]; exact maskStart_empty _ _ _ _ _
  have toUp : q.toUp = !s.link.downLive := whole.toUp.trans n1.2.2
  refine ⟨q, ?_, toUp, h5.dropped.trans d4, received, ?_, k5.position.trans (k4.position.trans position),
    k5.accepted.trans (k4.accepted.trans (k3.accepted.trans (k2.accepted.trans n1.2.1)))⟩
  · have bytes : ([0xD5, 0x00, second, hop, 0, 0, 0, 0, present, attention, hi, lo] : List Byte) =
        [0xD5, 0x00] ++ ([second, hop, 0, 0, 0, 0] ++ [present] ++ [attention] ++ [hi, lo]) := rfl
    rw [bytes, List.foldl_append, opens, whole.bytes, n1.2.2, check]
    cases live : s.link.downLive <;> (simp only [out, sent, live]; rfl)
  · unfold Pass.good frameLength
    rw [masks, received, error, checkGood]
    simp [Config.maxFrame, good]

/-- Settles O59. -/
theorem emptyFrameForwarded : Obligations.EmptyFrameForwarded := by
  intro s second hop present attention check fwd idle upFree downFree unmarked chain two body bit sent out
  obtain ⟨hi, lo, rfl⟩ : ∃ hi lo, check = [hi, lo] := List.length_eq_two.mp two
  have judged : decide ([hi, lo] = wordBytes (crcOf body)) = decide (wordOf hi lo = crcOf body) := by
    rw [decide_eq_decide]
    refine ⟨fun same => ?_, fun same => by rw [← same, wordBytes_wordOf]⟩
    rw [← wordBytes_wordOf] at same
    exact wordBytes_inj same
  obtain ⟨q, bytes, toUp, routed, received, good, position, accepted⟩ :=
    bytesUp_empty (s := s) (second := second) (present := present) (attention := attention) (hi := hi) (lo := lo) idle upFree downFree unmarked
      chain
  have standby : s.inStandby = true ↔ s.phase = .standby ∨ s.phase = .standbyReload := by simp [State.inStandby]
  have places : positionBit (hop.toNat + 1) = bit := rfl
  simp only [places, standby] at bytes
  rw [← judged] at good bytes
  have masks : maskStart q.received = 8 := by rw [received]; exact maskStart_empty _ _ _ _ _
  have ends := State.endUp_whole (s := s.routed) (q := q) (up := if s.link.downLive then s.link.upSent else out (decide ([hi, lo] = wordBytes (crcOf body))))
    (down := if s.link.downLive then out (decide ([hi, lo] = wordBytes (crcOf body))) else s.link.downSent) routed
    (by rw [masks, received]; rfl)
  have execs : exec (.sweepFrame (body ++ [hi, lo]) 2) s = .next (s.receiveUp (body ++ [hi, lo]) 2) := rfl
  have received2 : s.receiveUp (body ++ [hi, lo]) 2 = (s.routed.sending q
      (if s.link.downLive then s.link.upSent else out (decide ([hi, lo] = wordBytes (crcOf body))))
      (if s.link.downLive then out (decide ([hi, lo] = wordBytes (crcOf body))) else s.link.downSent)).endUp q 2 := by
    unfold State.receiveUp
    rw [if_pos fwd]
    exact congrArg (fun t => State.idleUp t 2) bytes
  have facts := State.sent_ends s.routed q.toUp (if s.link.downLive then s.link.upSent else out (decide ([hi, lo] = wordBytes (crcOf body))))
    (if s.link.downLive then out (decide ([hi, lo] = wordBytes (crcOf body))) else s.link.downSent) (hop.toNat + 1) q.good
  rw [position, accepted] at ends
  refine ⟨_, execs.trans (congrArg Host.Outcome.next (received2.trans ends)), ?_⟩
  dsimp only at facts
  generalize (if q.good = true then _ else _ : State) = t at facts ⊢
  obtain ⟨up, down, upPort, downPort, run, recorded, error⟩ := facts
  rw [good] at recorded error
  refine ⟨?_, ?_, ?_, run, fun same => recorded (decide_eq_true same), fun other => error (decide_eq_false other)⟩
  · rw [up, down]
    cases s.link.downLive <;> exact ⟨rfl, rfl⟩
  · rw [upPort, toUp]
    cases live : s.link.downLive
    · rfl
    · simp [State.routed, Link.setPort, live, upFree]
  · rw [downPort, toUp]
    cases live : s.link.downLive
    · simp [State.routed, Link.setPort, live, downFree]
    · rfl

end Sys2Proof.Machine
end

section
/-! Format errors (R137): from the byte that shows one on every byte passes as received, and the frame ends bad (R136). -/

namespace Sys2Proof.Machine

/-! ## After a format error -/

theorem Pass.Steady.refl (p : Pass) : p.Steady p := ⟨rfl, rfl, rfl, rfl, rfl⟩

/-- A covered byte after a format error passes as received. -/
theorem State.Covers.errorByte {s : State} {p : Pass} {b : Byte} (routed : p.dropped = false) (error : p.error = true)
    (long : 2 ≤ p.received.length) (place : p.received.length < maskStart (p.received ++ [b]) + 2) :
    ∃ q, s.Covers p [b] s q [b] ∧ p.Steady q :=
  ⟨_, .byte (r := { p with received := p.received ++ [b] }) routed long place fun _ _ => coveredByte_error _ b error,
    ⟨rfl, rfl, rfl, rfl, rfl⟩⟩

/-- The masks stand no earlier once more bytes have arrived, as far as the frame has not passed them. -/
theorem maskStart_prefix {l m : List Byte} (short : (l ++ m).length ≤ maskStart (l ++ m) + 2) : l.length ≤ maskStart l + 2 := by
  have far := maskStart_ge l
  by_cases header : 8 ≤ l.length
  · rw [maskStart_append m header, List.length_append] at short
    omega
  · omega

/-- After a format error every covered byte passes as received. -/
theorem State.Covers.afterError (l : List Byte) : ∀ {s : State} {p : Pass}, p.dropped = false → p.error = true → 2 ≤ p.received.length →
    (p.received ++ l).length ≤ maskStart (p.received ++ l) + 2 → ∃ q, s.Covers p l s q l ∧ p.Steady q := by
  induction l with
  | nil => exact fun {s p} _ _ _ _ => ⟨p, .nil s p, .refl p⟩
  | cons b l ih =>
    intro s p routed error long short
    have bytes : p.received ++ b :: l = p.received ++ [b] ++ l := by simp
    rw [bytes] at short
    have place := maskStart_prefix short
    rw [List.length_append, List.length_singleton] at place
    obtain ⟨q, first, steady⟩ := State.Covers.errorByte (s := s) (b := b) routed error long (by omega)
    obtain ⟨r, rest, steady'⟩ := ih (s := s) (p := q) (first.dropped.trans routed) (steady.error.trans error)
      (by rw [first.received]; simp; omega) (by rw [first.received]; exact short)
    exact ⟨r, first.trans rest, steady.trans steady'⟩

/-- Any byte after a format error is passed, held back or answered by the check. -/
theorem State.Sends.errorByte {s : State} {p : Pass} (b : Byte) (routed : p.dropped = false) (error : p.error = true)
    (long : 2 ≤ p.received.length) : ∃ q out, s.Sends p [b] s q out ∧ p.Steady q := by
  by_cases covered : p.received.length < maskStart (p.received ++ [b]) + 2
  · obtain ⟨q, covers, steady⟩ := State.Covers.errorByte (s := s) routed error long covered
    exact ⟨q, _, covers.toSends, steady⟩
  by_cases held : p.received.length = maskStart (p.received ++ [b]) + 2
  · exact ⟨_, _, .checkHeld routed held, ⟨rfl, rfl, rfl, rfl, rfl⟩⟩
  by_cases check : p.received.length = maskStart (p.received ++ [b]) + 3
  · exact ⟨_, _, .checkSent routed check rfl, ⟨rfl, rfl, rfl, rfl, rfl⟩⟩
  · exact ⟨_, _, .beyond routed (by omega), ⟨rfl, rfl, rfl, rfl, rfl⟩⟩

theorem State.Sends.anyError (l : List Byte) : ∀ {s : State} {p : Pass}, p.dropped = false → p.error = true → 2 ≤ p.received.length →
    ∃ q out, s.Sends p l s q out ∧ p.Steady q := by
  induction l with
  | nil => exact fun {s p} _ _ _ => ⟨p, [], .nil s p, .refl p⟩
  | cons b l ih =>
    intro s p routed error long
    obtain ⟨q, out, first, steady⟩ := State.Sends.errorByte (s := s) b routed error long
    obtain ⟨r, out', rest, steady'⟩ := ih (s := s) (p := q) (first.dropped.trans routed) (steady.error.trans error)
      (by rw [first.received]; simp; omega)
    exact ⟨r, out ++ out', first.trans rest, steady.trans steady'⟩

/-- What is sent after a format error: the bytes as received, and the check of a whole frame inverted (R136, R137). -/
theorem State.Sends.afterError {s : State} {p : Pass} (l : List Byte) (routed : p.dropped = false) (error : p.error = true)
    (long : 2 ≤ p.received.length) : ∃ q out, s.Sends p l s q out ∧ p.Steady q ∧
      ((p.received ++ l).length ≤ maskStart (p.received ++ l) + 2 → out = l) ∧
      (p.received.length ≤ maskStart (p.received ++ l) + 2 → (p.received ++ l).length = maskStart (p.received ++ l) + 4 →
        out = l.take (l.length - 2) ++ wordBytes (~~~((l.take (l.length - 2)).foldl crcByte p.crcOut))) := by
  by_cases covered : (p.received ++ l).length ≤ maskStart (p.received ++ l) + 2
  · obtain ⟨q, covers, steady⟩ := State.Covers.afterError (s := s) l routed error long covered
    exact ⟨q, l, covers.toSends, steady, fun _ => rfl, fun _ whole => by omega⟩
  by_cases whole : p.received.length ≤ maskStart (p.received ++ l) + 2 ∧ (p.received ++ l).length = maskStart (p.received ++ l) + 4
  · obtain ⟨early, length⟩ := whole
    have far := maskStart_ge (p.received ++ l)
    rw [List.length_append] at length
    obtain ⟨hi, lo, last⟩ : ∃ hi lo, l.drop (l.length - 2) = [hi, lo] := List.length_eq_two.mp (by simp; omega)
    have bytes : l = l.take (l.length - 2) ++ [hi, lo] := by rw [← last, List.take_append_drop]
    have size : (p.received ++ l.take (l.length - 2)).length = maskStart (p.received ++ l) + 2 := by
      simp
      omega
    have masks : maskStart (p.received ++ l) = maskStart (p.received ++ l.take (l.length - 2)) := by
      conv_lhs => rw [bytes, ← List.append_assoc]
      exact maskStart_append _ (by omega)
    obtain ⟨q, covers, steady⟩ := State.Covers.afterError (s := s) (l.take (l.length - 2)) routed error long (by rw [size, masks])
    have error' : q.error = true := steady.error.trans error
    obtain ⟨r, check, steady', crcOut, _⟩ := State.Sends.check (s := s) (hi := hi) (lo := lo) (covers.dropped.trans routed)
      (by rw [covers.received]; omega) (by rw [covers.received, size, masks])
    have inverted : r.sentCheck = ~~~((l.take (l.length - 2)).foldl crcByte p.crcOut) := by
      unfold Pass.sentCheck
      rw [steady'.error, error', crcOut, covers.crcOut]
      simp
    have sends := covers.toSends.trans check
    rw [inverted, ← bytes] at sends
    exact ⟨r, _, sends, steady.trans steady', fun short => absurd short covered, fun _ _ => rfl⟩
  · obtain ⟨q, out, sends, steady⟩ := State.Sends.anyError l (s := s) routed error long
    exact ⟨q, out, sends, steady, fun short => absurd short covered, fun early length => absurd ⟨early, length⟩ whole⟩

/-! ## The byte that shows a format error -/

theorem rowByte_drop (l : Row) (n i : Nat) : rowByte (l.drop n) i = rowByte l (n + i) := by
  unfold rowByte
  simp [List.getD_eq_getElem?_getD]

theorem rowNat_drop (l : Row) (n i : Nat) : rowNat (l.drop n) i = rowNat l (n + i) := by
  unfold rowNat
  rw [rowByte_drop]

theorem rowNat_last (l : Row) (b : Byte) : rowNat (l ++ [b]) l.length = b.toNat := by
  unfold rowNat rowByte
  simp

theorem records_append {l : Row} (m : Row) (header : 8 ≤ l.length) : records (l ++ m) = records l := by
  unfold records
  rw [rowNat_append m (by omega)]

/-- The byte of R137 ends the header, a record or the service area with a format error. -/
theorem Pass.ErrsAt.formatError {p : Pass} {b : Byte} (errs : p.ErrsAt b) (fine : p.error = false) (s : State) :
    coveredByte s { p with received := p.received ++ [b] } p.received.length b = formatError s { p with received := p.received ++ [b] } b := by
  have record (header : 8 ≤ p.received.length) (area : areaStart p.received ≤ p.received.length)
      (inside : p.received.length < maskStart p.received) (next : p.recordNo < records p.received) :
      coveredByte s { p with received := p.received ++ [b] } p.received.length b =
        areaByte s { p with received := p.received ++ [b] } p.received.length b ∧
      ¬records (p.received ++ [b]) ≤ p.recordNo := by
    refine ⟨coveredByte_area (p := { p with received := p.received ++ [b] }) s b fine ?_ ?_, ?_⟩
    · dsimp only
      rwa [areaStart_append _ (by omega)]
    · dsimp only
      rwa [maskStart_append _ header]
    · rw [records_append _ header]
      omega
  rcases errs with ⟨at_, bad⟩ | ⟨at_, bad⟩ | ⟨at_, bad⟩ | ⟨header, area, inside, next, at_, bad⟩ | ⟨header, area, inside, next, at_, bad⟩ |
    ⟨header, at_, bad⟩
  · rw [coveredByte_header (p := { p with received := p.received ++ [b] }) s b fine (by omega)]
    unfold headerByte
    simp [at_, bad]
  · rw [coveredByte_header (p := { p with received := p.received ++ [b] }) s b fine (by omega)]
    unfold headerByte
    simp [at_, bad]
  · rw [coveredByte_header (p := { p with received := p.received ++ [b] }) s b fine (by omega)]
    unfold headerByte
    simp [at_, bad]
  · obtain ⟨place, more⟩ := record header area inside next
    have plen : rowNat (Pass.record { p with received := p.received ++ [b] }) 2 = b.toNat := by
      unfold Pass.record
      rw [rowNat_drop, ← at_, rowNat_last]
    rw [place]
    unfold areaByte
    dsimp only
    rw [if_neg more, plen, if_pos (show p.received.length - p.recordAt = 2 by omega), if_pos bad]
  · obtain ⟨place, more⟩ := record header area inside next
    have room : rowNat (Pass.record { p with received := p.received ++ [b] }) 3 = b.toNat := by
      unfold Pass.record
      rw [rowNat_drop, ← at_, rowNat_last]
    have plen : rowNat (Pass.record { p with received := p.received ++ [b] }) 2 = rowNat p.received (p.recordAt + 2) := by
      unfold Pass.record
      dsimp only
      rw [rowNat_drop, rowNat_append _ (by omega)]
    rw [place]
    unfold areaByte
    dsimp only
    rw [if_neg more, plen, room, if_neg (show ¬p.received.length - p.recordAt = 2 by omega),
      if_pos (show p.received.length - p.recordAt = 3 by omega), maskStart_append _ header]
    exact if_pos bad
  · have masks : maskStart (p.received ++ [b]) = maskStart p.received := maskStart_append _ header
    rw [coveredByte_mask (p := { p with received := p.received ++ [b] }) s b fine (by dsimp only; rw [masks]; exact at_.ge)]
    unfold maskByte
    dsimp only
    rw [masks, records_append _ header]
    exact (if_pos at_).trans (if_pos bad)

/-- The byte that shows a format error is covered by the checks. -/
theorem Pass.ErrsAt.place {p : Pass} {b : Byte} (errs : p.ErrsAt b) : p.received.length < maskStart (p.received ++ [b]) + 1 := by
  have far := maskStart_ge (p.received ++ [b])
  have same : 8 ≤ p.received.length → maskStart (p.received ++ [b]) = maskStart p.received := maskStart_append [b]
  have whole : maskStart p.received = 8 + 8 * rowNat p.received 4 + rowWordNat p.received 6 := rfl
  rcases errs with ⟨at_, _⟩ | ⟨at_, _⟩ | ⟨at_, _⟩ | ⟨header, _, inside, _⟩ | ⟨header, _, inside, _⟩ | ⟨header, at_, _⟩
  · omega
  · omega
  · omega
  · rw [same header]; omega
  · rw [same header]; omega
  · rw [same header]; omega

/-- A format error and all that follows it (R136, R137). -/
theorem State.Sends.formatError {s : State} {p : Pass} {b : Byte} (rest : List Byte) (routed : p.dropped = false) (fine : p.error = false)
    (long : 2 ≤ p.received.length) (errs : p.ErrsAt b) : ∃ q out, s.Sends p (b :: rest) s q out ∧ q.error = true ∧ q.accepted = p.accepted ∧
      ((p.received ++ b :: rest).length ≤ maskStart (p.received ++ b :: rest) + 2 → out = b :: rest) ∧
      ((p.received ++ b :: rest).length = maskStart (p.received ++ b :: rest) + 4 →
        out = (b :: rest).take (rest.length - 1) ++ wordBytes (~~~(((b :: rest).take (rest.length - 1)).foldl crcByte p.crcOut))) := by
  have place := errs.place
  obtain ⟨q, first, error, accepted⟩ : ∃ q, s.Covers p [b] s q [b] ∧ q.error = true ∧ q.accepted = p.accepted :=
    ⟨_, .byte (r := { p with received := p.received ++ [b], error := true, overlay := [] }) routed long (by omega) fun _ _ =>
      errs.formatError fine _, rfl, rfl⟩
  have bytes : p.received ++ b :: rest = q.received ++ rest := by rw [first.received]; simp
  obtain ⟨r, out, tail, steady, short, whole⟩ := State.Sends.afterError (s := s) rest (first.dropped.trans routed) error
    (by rw [first.received]; simp; omega)
  rw [bytes]
  refine ⟨r, [b] ++ out, first.toSends.trans tail, steady.error.trans error, steady.accepted.trans accepted, fun few => ?_, fun length => ?_⟩
  · rw [short few]
    rfl
  · have early : q.received.length ≤ maskStart (q.received ++ rest) + 1 := by
      rw [first.received, List.length_append, List.length_singleton]
      by_cases header : 8 ≤ p.received.length
      · rw [maskStart_append _ (by rw [List.length_append]; omega)]
        omega
      · have far := maskStart_ge (p.received ++ [b] ++ rest)
        omega
    have two : 2 ≤ rest.length := by
      rw [List.length_append] at length
      omega
    have body : (b :: rest).take (rest.length - 1) = b :: rest.take (rest.length - 2) := by
      rw [show rest.length - 1 = rest.length - 2 + 1 by omega, List.take_succ_cons]
    rw [whole (by omega) length, body, List.foldl_cons, first.crcOut]
    rfl

/-! ## The end of a frame with a format error -/

/-- A pass with a format error ends bad (R134). -/
theorem Pass.good_error {p : Pass} (error : p.error = true) : p.good = false := by
  rw [← Bool.not_eq_true, p.good_iff]
  simp [error]

/-- The idle characters after bytes that leave a format error: FRAME_ERROR, the count, and nothing of staging (R138). -/
theorem State.errorEnd {s t : State} {q : Pass} {up down : List Byte} {l : List Byte} {idles : Nat} (fwd : s.forwarding = true)
    (bytes : l.foldl State.byteUp s = t.sending q up down) (routed : q.dropped = false) (error : q.error = true) (idle : 1 ≤ idles) :
    ∃ v, s.receiveUp l idles = v ∧ v = { t with link := v.link, status := { t.status with events := t.status.events ||| 8 } } ∧
      v.link.staging = Bank.all 4 none ∧ v.link.upRun = none ∧ v.link.position = t.link.position ∧ v.link.timer = t.link.timer ∧
      v.link.frameErrors = min (t.link.frameErrors + 1) 65535 := by
  obtain ⟨k, ended, ends⟩ := (t.sending q up down).endUp_routed routed idles
  rw [Pass.good_error error, if_neg Bool.false_ne_true] at ends
  have received : s.receiveUp l idles = State.badEnd { t.sending q up down with link := k } := by
    unfold State.receiveUp State.idleUp
    rw [if_pos fwd, bytes, if_neg (by omega)]
    exact ends
  obtain ⟨frame, staging, run, position, timer, errors, _, _⟩ := State.badEnd_leaves ended
  exact ⟨_, received, frame, staging, run, position, timer, errors⟩

/-- A frame whose direction byte is a format error (R133, R137). -/
theorem bytesUp_misdirected {s : State} {d : Byte} (rest : List Byte) (idle : s.link.upRun = none) (upFree : s.link.upPort = .free)
    (downFree : s.link.downPort = .free) (notOut : d ≠ 0) (notReturn : d ≠ 1) : ∃ q out,
    List.foldl State.byteUp s (0xD5 :: d :: rest) = s.routed.sending q (if s.link.downLive then s.link.upSent else out)
        (if s.link.downLive then out else s.link.downSent) ∧
      q.dropped = false ∧ q.received = 0xD5 :: d :: rest ∧ q.error = true ∧ q.accepted = [] ∧
      ((0xD5 :: d :: rest).length ≤ maskStart (0xD5 :: d :: rest) + 2 → out = 0xD5 :: d :: rest) ∧
      ((0xD5 :: d :: rest).length = maskStart (0xD5 :: d :: rest) + 4 →
        out = (0xD5 :: d :: rest).take (maskStart (0xD5 :: d :: rest) + 2) ++
          wordBytes (~~~(crcOf ((0xD5 :: d :: rest).take (maskStart (0xD5 :: d :: rest) + 2))))) := by
  have opens := bytesUp_opens (s := s) (b := d) (o := d) (q := { s.opens with received := [0xD5, d], error := true, overlay := [] })
    idle upFree downFree notReturn (fun out => absurd out notOut) fun t => by
      unfold headerByte
      exact (if_pos rfl).trans (if_neg notOut)
  obtain ⟨p, begun, routed, received, error, accepted, toUp, crc⟩ : ∃ p, List.foldl State.byteUp s [0xD5, d] = s.routed.sending p
        (if s.link.downLive then s.link.upSent else [0xD5, d]) (if s.link.downLive then [0xD5, d] else s.link.downSent) ∧
      p.dropped = false ∧ p.received = [0xD5, d] ∧ p.error = true ∧ p.accepted = [] ∧ (p.toUp = !s.link.downLive) ∧
      p.crcOut = crcOf [0xD5, d] :=
    ⟨_, opens, rfl, rfl, rfl, rfl, rfl, by simp only [crcOf, List.foldl_cons, List.foldl_nil, State.opens, Pass.opened]⟩
  obtain ⟨q, out, tail, steady, short, whole⟩ := State.Sends.afterError (s := s.routed) rest routed error (by simp [received])
  have all : p.received ++ rest = 0xD5 :: d :: rest := by rw [received]; rfl
  have far := maskStart_ge (0xD5 :: d :: rest)
  rw [all] at short whole
  refine ⟨q, [0xD5, d] ++ out, ?_, tail.dropped.trans routed, tail.received.trans all, steady.error.trans error,
    steady.accepted.trans accepted, fun few => by rw [short few]; exact List.cons_append, fun length => ?_⟩
  · rw [show (0xD5 :: d :: rest : List Byte) = [0xD5, d] ++ rest from rfl, List.foldl_append, begun, tail.bytes, toUp]
    cases s.link.downLive <;> rfl
  · have size : maskStart (0xD5 :: d :: rest) + 2 = rest.length - 2 + 2 := by
      simp only [List.length_cons] at length
      omega
    have body : (0xD5 :: d :: rest).take (maskStart (0xD5 :: d :: rest) + 2) = [0xD5, d] ++ rest.take (rest.length - 2) := by
      rw [size, List.take_succ_cons, List.take_succ_cons]
      rfl
    rw [body, whole (by rw [received]; simp) length, crc]
    unfold crcOf
    rw [List.foldl_append, List.append_assoc]

end Sys2Proof.Machine
end

section
/-! Segments of a frame passing the hub (R135, R140): what is written in place, taken and given. -/

namespace Sys2Proof.Machine

/-! ## Bytes written in place -/

/-- What is sent of the bytes `l` with the overlay `o`: its bytes where it has some, those received elsewhere. -/
def overlayOut : List (Option Byte) → List Byte → List Byte
  | _, [] => []
  | [], l => l
  | some w :: o, _ :: l => w :: overlayOut o l
  | none :: o, b :: l => b :: overlayOut o l

theorem overlayOut_nil (l : List Byte) : overlayOut [] l = l := by cases l <;> rfl

theorem overlayOut_append (l m : List Byte) : ∀ o, overlayOut o (l ++ m) = overlayOut o l ++ overlayOut (o.drop l.length) m := by
  induction l with
  | nil => intro o; cases o <;> rfl
  | cons b l ih =>
    intro o
    match o with
    | [] => simp [overlayOut_nil]
    | some w :: o => simp [overlayOut, ih]
    | none :: o => simp [overlayOut, ih]

/-- As many bytes written in place as there are: they alone are sent. -/
theorem overlayOut_some (l : List Byte) : ∀ m : List Byte, m.length = l.length → overlayOut (m.map some) l = m := by
  induction l with
  | nil => intro m none; rw [List.length_eq_zero_iff.mp none]; rfl
  | cons b l ih =>
    intro m same
    match m, same with
    | w :: m, same => rw [List.map_cons, overlayOut, ih m (by simpa using same)]

/-- The byte that is sent of the byte `b` with the overlay `o`. -/
def overlayHead : List (Option Byte) → Byte → Byte
  | some w :: _, _ => w
  | none :: _, b => b
  | [], b => b

theorem overlayOut_singleton (o : List (Option Byte)) (b : Byte) : overlayOut o [b] = [overlayHead o b] := by
  match o with
  | [] => rfl
  | some w :: o => simp [overlayOut, overlayHead]
  | none :: o => simp [overlayOut, overlayHead]

theorem overlaid_eq (s : State) (p : Pass) (b : Byte) :
    overlaid s p b = { state := s, pass := { p with overlay := p.overlay.drop 1 }, out := overlayHead p.overlay b } := by
  unfold overlaid
  split
  · next w rest overlay => rw [overlay]; rfl
  · next rest overlay => rw [overlay]; rfl
  · next overlay =>
    have same : { p with overlay := p.overlay.drop 1 } = p := by rw [overlay, List.drop_nil, ← overlay]
    rw [same, overlay]
    rfl

/-! ## Fills and takes while bytes are sent -/

theorem State.fill_sending (s : State) (p : Pass) (up down : List Byte) (row : Row) (n : Nat) :
    (s.sending p up down).fill row n = ((s.fill row n).1.sending p up down, (s.fill row n).2) := by
  unfold State.fill
  cases slotKind row <;> rfl

theorem State.take_sending (s : State) (p : Pass) (up down : List Byte) (row : Row) (seg : List Byte) :
    (s.sending p up down).take row seg = (s.take row seg).sending p up down := by
  unfold State.take
  cases slotKind row <;> rfl

/-! ## The bytes of a segment -/

/-- A pass within a segment: nothing of the header or the records is near. -/
structure Pass.InSegment (p : Pass) (n : Nat) : Prop where
  routed : p.dropped = false
  fine : p.error = false
  header : 8 ≤ p.received.length
  inside : p.received.length + n ≤ areaStart p.received

theorem Pass.InSegment.place {p : Pass} {n : Nat} (h : p.InSegment n) (some : 0 < n) (s : State) (b : Byte) :
    coveredByte s { p with received := p.received ++ [b] } p.received.length b =
        segmentByte s { p with received := p.received ++ [b] } p.received.length b ∧
      p.received.length < maskStart (p.received ++ [b]) + 2 := by
  have masks : areaStart p.received ≤ maskStart p.received := Nat.le_add_right _ _
  have inside := h.inside
  have header := h.header
  refine ⟨coveredByte_segment (p := { p with received := p.received ++ [b] }) s b h.fine header ?_, ?_⟩
  · dsimp only
    rw [areaStart_append _ (by omega)]
    omega
  · rw [maskStart_append _ header]
    omega

theorem Pass.InSegment.next {s t : State} {p q : Pass} {b : Byte} {out : List Byte} {n : Nat} (h : p.InSegment (n + 1))
    (covers : s.Covers p [b] t q out) (steady : p.Steady q) : q.InSegment n := by
  obtain ⟨routed, fine, header, inside⟩ := h
  refine ⟨covers.dropped.trans routed, steady.error.trans fine, ?_, ?_⟩
  · rw [covers.received, List.length_append]
    omega
  · rw [covers.received, areaStart_append _ (by omega), List.length_append, List.length_singleton]
    omega

/-- Where in its segment a byte stands. -/
def Pass.offset (p : Pass) : Nat := (p.received.length - 8) % 8

section bytes
variable (s : State) {p : Pass} {i : Nat} (b : Byte)

theorem segmentByte_within (later : (i - 8) % 8 ≠ 0) (still : p.slotRow = none ∨ (i - 8) % 8 ≠ 7) :
    segmentByte s p i b = overlaid s p b := by
  unfold segmentByte
  rw [if_neg later]
  split
  · rfl
  · next row named =>
    rw [named] at still
    rw [if_neg (still.resolve_left nofun)]

theorem segmentByte_last {row : Row} (named : p.slotRow = some row) (last : (i - 8) % 8 = 7) :
    segmentByte s p i b = overlaid (s.take row (p.received.drop (i - 7))) p b := by
  unfold segmentByte
  rw [if_neg (by omega), named]
  dsimp only
  rw [if_pos last]

theorem segmentByte_first (first : (i - 8) % 8 = 0) : (s.slotOf ((i - 8) / 8) = none → segmentByte s p i b =
      { state := s, pass := { p with slotRow := none, overlay := [] }, out := b }) ∧
    (∀ row, s.slotOf ((i - 8) / 8) = some row → segmentByte s p i b = overlaid (s.fill row p.position).1
      { p with slotRow := some row, overlay := (s.fill row p.position).2.map some } b) := by
  unfold segmentByte
  rw [if_pos first]
  refine ⟨fun none => ?_, fun row some => ?_⟩
  · rw [none]
    rfl
  · rw [some]

end bytes

/-- A byte of a segment that is written in place or passes, after a fill or a take. -/
theorem State.Covers.inPlace {s t : State} {p q : Pass} {b : Byte} {n : Nat} (place : p.InSegment (n + 1)) (alike : p.Steady q)
    (byte : ∀ up down, segmentByte (s.sending p up down) { p with received := p.received ++ [b] } p.received.length b =
      overlaid (t.sending p up down) q b) :
    ∃ r, s.Covers p [b] t r (overlayOut q.overlay [b]) ∧ p.Steady r ∧ r.overlay = q.overlay.drop 1 ∧ r.slotRow = q.slotRow := by
  have here := (place.place (Nat.succ_pos n) s b).2
  have header := place.header
  rw [overlayOut_singleton]
  refine ⟨_, .byte (r := { q with overlay := q.overlay.drop 1 }) place.routed (by omega) here fun up down => ?_,
    ⟨alike.error, alike.position, alike.recordAt, alike.recordNo, alike.accepted⟩, rfl, rfl⟩
  rw [(place.place (Nat.succ_pos n) _ b).1, byte, overlaid_eq]

/-- A byte within a segment, neither its first nor a last one that is taken. -/
theorem State.Covers.within {s : State} {p : Pass} {b : Byte} {n : Nat} (place : p.InSegment (n + 1)) (later : p.offset ≠ 0)
    (still : p.slotRow = none ∨ p.offset ≠ 7) : ∃ q, s.Covers p [b] s q (overlayOut p.overlay [b]) ∧ p.Steady q ∧
      q.overlay = p.overlay.drop 1 ∧ q.slotRow = p.slotRow :=
  State.Covers.inPlace (q := { p with received := p.received ++ [b] }) place ⟨rfl, rfl, rfl, rfl, rfl⟩ fun _ _ =>
    segmentByte_within _ b later still

/-- The last byte of a segment that an entry names: its take, if it is one, is staged. -/
theorem State.Covers.segmentLast {s : State} {p : Pass} {b : Byte} {n : Nat} {row : Row} (place : p.InSegment (n + 1)) (last : p.offset = 7)
    (named : p.slotRow = some row) : ∃ q, s.Covers p [b] (s.take row ((p.received ++ [b]).drop (p.received.length - 7))) q
      (overlayOut p.overlay [b]) ∧ p.Steady q :=
  have ⟨q, covers, steady, _, _⟩ := State.Covers.inPlace (t := s.take row ((p.received ++ [b]).drop (p.received.length - 7)))
    (q := { p with received := p.received ++ [b] }) place ⟨rfl, rfl, rfl, rfl, rfl⟩ fun up down => by
      rw [← State.take_sending]
      exact segmentByte_last (p := { p with received := p.received ++ [b] }) _ b named last
  ⟨q, covers, steady⟩

/-- The first byte of a segment: the entry that names it, if any, and its fill. -/
theorem State.Covers.segmentFirst {s : State} {p : Pass} {b : Byte} {n : Nat} (place : p.InSegment (n + 1)) (first : p.offset = 0) :
    (s.slotOf ((p.received.length - 8) / 8) = none → ∃ q, s.Covers p [b] s q [b] ∧ p.Steady q ∧ q.overlay = [] ∧ q.slotRow = none) ∧
    ∀ row, s.slotOf ((p.received.length - 8) / 8) = some row → ∃ q,
      s.Covers p [b] (s.fill row p.position).1 q (overlayOut ((s.fill row p.position).2.map some) [b]) ∧ p.Steady q ∧
        q.overlay = ((s.fill row p.position).2.map some).drop 1 ∧ q.slotRow = some row := by
  have header := place.header
  refine ⟨fun none => ?_, fun row named => ?_⟩
  · refine ⟨_, .byte (r := { p with received := p.received ++ [b], slotRow := Option.none, overlay := [] }) place.routed (by omega)
      (place.place (Nat.succ_pos n) s b).2 fun up down => ?_, ⟨rfl, rfl, rfl, rfl, rfl⟩, rfl, rfl⟩
    rw [(place.place (Nat.succ_pos n) _ b).1]
    exact (segmentByte_first (s.sending p up down) (p := { p with received := p.received ++ [b] }) b first).1 none
  · refine State.Covers.inPlace (q := { p with
      received := p.received ++ [b]
      slotRow := some row
      overlay := (s.fill row p.position).2.map some }) place ⟨rfl, rfl, rfl, rfl, rfl⟩ fun up down => ?_
    have filled := (segmentByte_first (s.sending p up down) (p := { p with received := p.received ++ [b] }) b first).2 row named
    rw [State.fill_sending] at filled
    exact filled

/-- Bytes within a segment. -/
theorem State.Covers.inner {s : State} (n : Nat) (l : List Byte) : ∀ {p : Pass}, p.InSegment (l.length + n) → p.offset ≠ 0 →
    (p.offset + l.length ≤ 8) → (p.slotRow = none ∨ p.offset + l.length ≤ 7) → ∃ q, s.Covers p l s q (overlayOut p.overlay l) ∧ p.Steady q ∧
      q.slotRow = p.slotRow ∧ q.overlay = p.overlay.drop l.length ∧ q.InSegment n := by
  induction l with
  | nil => exact fun {p} place _ _ _ => ⟨p, by rw [overlayOut]; exact .nil s p, .refl p, rfl, rfl, by simpa using place⟩
  | cons b l ih =>
    intro p place later inside still
    rw [List.length_cons] at inside still
    replace place : p.InSegment (l.length + n + 1) := by rwa [List.length_cons, show l.length + 1 + n = l.length + n + 1 by omega] at place
    obtain ⟨q, first, steady, overlay, row⟩ := State.Covers.within (s := s) (b := b) place later (still.imp_right fun _ => by omega)
    match l with
    | [] => exact ⟨q, first, steady, row, overlay, by simpa using place.next first steady⟩
    | c :: l =>
      rw [List.length_cons] at inside still
      have offset : q.offset = p.offset + 1 := by
        have header := place.header
        unfold Pass.offset at inside ⊢
        rw [first.received, List.length_append, List.length_singleton]
        omega
      obtain ⟨r, rest, steady', row', overlay', place'⟩ := ih (place.next first steady) (by omega) (by rw [List.length_cons]; omega)
        (still.imp row.trans fun _ => by rw [List.length_cons]; omega)
      refine ⟨r, ?_, steady.trans steady', row'.trans row, ?_, place'⟩
      · have both := first.trans rest
        rw [overlay] at both
        rwa [show b :: c :: l = [b] ++ c :: l from rfl, overlayOut_append]
      · rw [overlay', overlay, List.drop_drop, List.length_cons, List.length_cons, List.length_cons, Nat.add_comm]

/-- A segment passing this hub (R135, R140): one that no entry names passes as received, one that an entry names is filled at its first
byte and staged at its last. -/
theorem State.Covers.segment {s : State} {p : Pass} {seg : List Byte} (place : p.InSegment 8) (aligned : p.received.length % 8 = 0)
    (eight : seg.length = 8) : (s.slotOf (p.received.length / 8 - 1) = none → ∃ q, s.Covers p seg s q seg ∧ p.Steady q) ∧
    ∀ row, s.slotOf (p.received.length / 8 - 1) = some row → ∃ q, s.Covers p seg ((s.fill row p.position).1.take row seg) q
      (overlayOut ((s.fill row p.position).2.map some) seg) ∧ p.Steady q := by
  have header := place.header
  obtain ⟨b, l, rfl⟩ : ∃ b l, seg = b :: l := List.exists_cons_of_length_eq_add_one eight
  rw [List.length_cons] at eight
  have begins : p.offset = 0 := by unfold Pass.offset; omega
  rw [show p.received.length / 8 - 1 = (p.received.length - 8) / 8 by omega]
  obtain ⟨unnamed, named⟩ := State.Covers.segmentFirst (s := s) (b := b) (n := 7) place begins
  have offset {t : State} {q : Pass} {out : List Byte} (first : s.Covers p [b] t q out) : q.offset = 1 := by
    unfold Pass.offset
    rw [first.received, List.length_append, List.length_singleton]
    omega
  refine ⟨fun none => ?_, fun row some => ?_⟩
  · obtain ⟨q, first, steady, overlay, slot⟩ := unnamed none
    have at1 := offset first
    obtain ⟨r, rest, steady', _⟩ := State.Covers.inner (s := s) 0 l (p := q) (by rw [show l.length + 0 = 7 by omega]; exact place.next first steady)
      (by omega) (by omega) (.inl slot)
    rw [overlay, overlayOut_nil] at rest
    exact ⟨r, first.trans rest, steady.trans steady'⟩
  · obtain ⟨q, first, steady, overlay, slot⟩ := named row some
    have at1 := offset first
    obtain ⟨m, c, rfl⟩ : ∃ m c, l = m ++ [c] := ⟨l.take 6, l[6], by simp; omega⟩
    rw [List.length_append, List.length_singleton] at eight
    obtain ⟨r, rest, steady', slot', overlay', place'⟩ := State.Covers.inner (s := (s.fill row p.position).1) 1 m (p := q)
      (by rw [show m.length + 1 = 7 by omega]; exact place.next first steady) (by omega) (by omega) (.inr (by omega))
    have received : r.received = p.received ++ (b :: m) := by rw [rest.received, first.received]; simp
    obtain ⟨v, last, steady''⟩ := State.Covers.segmentLast (s := (s.fill row p.position).1) (b := c) (n := 0) place'
      (by unfold Pass.offset; rw [received]; simp; omega) (slot'.trans slot)
    have bytes : (r.received ++ [c]).drop (r.received.length - 7) = b :: (m ++ [c]) := by
      rw [received, List.append_assoc, List.length_append, show p.received.length + (b :: m).length - 7 = p.received.length by simp; omega,
        List.drop_left]
      rfl
    refine ⟨v, ?_, (steady.trans steady').trans steady''⟩
    have whole := (first.trans rest).trans last
    rw [bytes, overlay', overlay, List.drop_drop] at whole
    rw [show b :: (m ++ [c]) = [b] ++ m ++ [c] from rfl, overlayOut_append, overlayOut_append, List.length_append, List.length_singleton]
    exact whole

end Sys2Proof.Machine
end

section
/-! What a segment's entry takes and gives (R83, R92, R102, R140). -/

namespace Sys2Proof.Machine

/-! ## The entry of a segment -/

theorem State.slotOf_mem {s : State} {k : Nat} {row : Row} (found : s.slotOf k = some row) :
    row ∈ s.tables.slot ∧ slotEnabled row = true ∧ slotSegment row = k := by
  have names := List.find?_some found
  rw [Bool.and_eq_true, decide_eq_true_eq] at names
  exact ⟨List.mem_of_find?_eq_some found, names⟩

/-! ## Takes -/

theorem stageFor_get (staging : Bank (Option Setpoint) 4) (n : Nat) (sp : Setpoint) (u : Fin 4) :
    (stageFor staging n sp).get u = if n = u.val then some sp else staging.get u := by
  unfold stageFor namedUnit
  by_cases named : n < 4
  · rw [dif_pos named]
    dsimp only
    by_cases same : n = u.val
    · obtain rfl : u = ⟨n, named⟩ := Fin.ext same.symm
      simp
    · have other : u ≠ ⟨n, named⟩ := fun eq => same (congrArg Fin.val eq).symm
      rw [if_neg same]
      simp [Bank.get_set, other]
  · rw [dif_neg named, if_neg (by omega)]

/-- The part after a segment that an entry names, its fill and its take done. -/
def State.segmentDone (s : State) (row : Row) (position : Nat) (seg : List Byte) : State := (s.fill row position).1.take row seg

/-- What is sent of such a segment. -/
def State.segmentOut (s : State) (row : Row) (position : Nat) (seg : List Byte) : List Byte :=
  overlayOut ((s.fill row position).2.map some) seg

section kinds
variable (s : State) {row : Row} (position : Nat) (seg : List Byte)

theorem State.segmentDone_frame (row : Row) : s.segmentDone row position seg = { s with
    slots := (s.segmentDone row position seg).slots
    contacts := (s.segmentDone row position seg).contacts
    link := (s.segmentDone row position seg).link } := by
  unfold State.segmentDone State.fill State.take
  cases slotKind row <;> rfl

/-- A DRIVE_PAIR passes as received and is staged for its two units, the second one's setpoint last. -/
theorem State.segment_drivePair (kind : slotKind row = .drivePair) : s.segmentOut row position seg = seg ∧
    (s.segmentDone row position seg).slots = s.slots ∧ (s.segmentDone row position seg).contacts = s.contacts ∧
    ∀ u : Fin 4, (s.segmentDone row position seg).link.staging.get u =
      if slotSecond row = u.val then some { target := seg.getD 4 0 ++ seg.getD 5 0, flags := seg.getD 6 0 }
      else if slotFirst row = u.val then some { target := seg.getD 0 0 ++ seg.getD 1 0, flags := seg.getD 2 0 }
      else s.link.staging.get u := by
  unfold State.segmentDone State.segmentOut State.fill State.take
  rw [kind]
  refine ⟨overlayOut_nil seg, rfl, rfl, fun u => ?_⟩
  dsimp only
  rw [stageFor_get, stageFor_get]
  rfl

/-- Only a DRIVE_PAIR is taken. -/
theorem State.segment_give (kind : slotKind row ≠ .drivePair) :
    (s.segmentDone row position seg).link.staging = s.link.staging := by
  unfold State.segmentDone State.fill State.take
  cases found : slotKind row
  case drivePair => exact absurd found kind
  all_goals rfl

theorem ofNat8_toNat (w : Word16) : w.extractLsb' 0 8 = BitVec.ofNat 8 w.toNat := by
  apply BitVec.eq_of_toNat_eq
  simp

/-- SAMPLES gives three values with their fresh flags, which it clears, and the beat's number (R83). -/
theorem State.segment_samples (kind : slotKind row = .samples) (eight : seg.length = 8) :
    (s.segmentDone row position seg).contacts = s.contacts ∧
    (∀ n : Fin 26, (s.segmentDone row position seg).slots.get n = if slotFirst row ≤ n.val ∧ n.val ≤ slotFirst row + 2
      then { s.slots.get n with fresh := false } else s.slots.get n) ∧
    let x (i : Nat) : Slot := s.slots.get (Fin.ofNat 26 (slotFirst row + i))
    let bit (i : Nat) : Nat := if (x i).fresh then 2 ^ i else 0
    s.segmentOut row position seg = natBytes (x 0).value ++ natBytes (x 1).value ++ natBytes (x 2).value ++
      [BitVec.ofNat 8 (bit 0 + bit 1 + bit 2), BitVec.ofNat 8 s.beat.number.toNat] := by
  unfold State.segmentDone State.segmentOut State.fill State.take
  rw [kind]
  dsimp only
  refine ⟨rfl, fun n => Bank.get_mapIdx _ _ n, ?_⟩
  have bits (a b c : Bool) : natOfBits [a, b, c] = (if a then 2 ^ 0 else 0) + (if b then 2 ^ 1 else 0) + if c then 2 ^ 2 else 0 := by
    cases a <;> cases b <;> cases c <;> rfl
  rw [overlayOut_some _ _ (by rw [eight]; rfl), State.samplesBytes]
  dsimp only
  rw [bits, ofNat8_toNat]

/-- MOTION gives count, interval and age of an input, its stall and its count direction (R102). -/
theorem State.segment_motion (kind : slotKind row = .motion) (eight : seg.length = 8) {r : Fin 3} (input : slotFirst row = r.val) :
    (s.segmentDone row position seg).slots = s.slots ∧ (s.segmentDone row position seg).contacts = s.contacts ∧
    s.segmentOut row position seg = s.motionBytes r := by
  unfold State.segmentDone State.segmentOut State.fill State.take
  rw [kind]
  dsimp only
  refine ⟨rfl, rfl, ?_⟩
  rw [overlayOut_some _ _ (by rw [eight]; rfl), input, Fin.ofNat_val_eq_self]

/-- STATUS gives levels, change flags, which it clears, unit states, the event summary and the causes with the position (R92). -/
theorem State.segment_status (kind : slotKind row = .status) (eight : seg.length = 8) :
    (s.segmentDone row position seg).slots = s.slots ∧
    (∀ c, (s.segmentDone row position seg).contacts.get c = { s.contacts.get c with changed := false }) ∧
    s.segmentOut row position seg = s.statusBytes position := by
  unfold State.segmentDone State.segmentOut State.fill State.take
  rw [kind]
  dsimp only
  exact ⟨rfl, fun c => Bank.get_map _ _ c, overlayOut_some _ _ (by rw [eight]; rfl)⟩

end kinds

/-! ## The bytes of MOTION and STATUS -/

theorem State.motionBytes_eq (s : State) (r : Fin 3) (back : Bool) (reverse : back = true ↔ s.edgeDir r = .rev) : s.motionBytes r =
    wordBytes (s.rotation.get r).count ++ natBytes (s.rotation.get r).interval ++ natBytes (s.rotation.get r).age ++
      [BitVec.ofNat 8 ((if (s.rotation.get r).stalled then 1 else 0) + if back then 2 else 0), 0] := by
  have bits (a b : Bool) : natOfBits [a, b] = (if a then 1 else 0) + if b then 2 else 0 := by cases a <;> cases b <;> rfl
  unfold State.motionBytes State.rotationBits
  dsimp only
  rw [bits, show decide (s.edgeDir r = .rev) = back from Bool.eq_iff_iff.mpr (decide_eq_true_iff.trans reverse.symm)]

theorem UnitState.code_lt (x : UnitState) : x.code < 16 := by cases x <;> decide

theorem State.unitStateWord_toNat (s : State) : s.unitStateWord.toNat = (s.units.get 0).state.code + 16 * (s.units.get 1).state.code +
    256 * (s.units.get 2).state.code + 4096 * (s.units.get 3).state.code := by
  have := (s.units.get 0).state.code_lt
  have := (s.units.get 1).state.code_lt
  have := (s.units.get 2).state.code_lt
  have := (s.units.get 3).state.code_lt
  unfold State.unitStateWord
  rw [BitVec.toNat_ofNat, Nat.mod_eq_of_lt (by omega)]

theorem State.causeBits_lt (s : State) : s.causeBits < 16 := natOfBits_lt _

/-- A cause in the causes byte, below the position. -/
theorem State.getLsbD_causes (s : State) (position : Nat) {i : Nat} (low : i < 4) :
    (BitVec.ofNat 8 (s.causeBits + 16 * position)).getLsbD i =
      [s.reflex.link, s.reflex.thermal, s.reflex.supply, s.limits.warnLive].getD i false := by
  rw [BitVec.getLsbD_ofNat, decide_eq_true (show i < 8 by omega), Bool.true_and, Nat.add_comm,
    Nat.testBit_two_pow_mul_add (i := 4) position s.causeBits_lt, if_pos low]
  exact testBit_natOfBits _ _

/-- A STATUS segment field by field (R92, R140). -/
theorem State.statusBytes_fields (s : State) (position : Nat) : ∃ levels changes states causes : Byte, ∃ high : Byte,
    s.statusBytes position = [levels, changes, high, states] ++ wordBytes (s.status.events &&& s.status.mask) ++ [causes, 0] ∧
    (∀ c : Fin 8, levels.getLsbD c = (s.contacts.get c).filtered ∧ changes.getLsbD c = (s.contacts.get c).changed) ∧
    states.toNat = (s.units.get 0).state.code + 16 * (s.units.get 1).state.code ∧
    high.toNat = (s.units.get 2).state.code + 16 * (s.units.get 3).state.code ∧
    causes.getLsbD 0 = s.reflex.link ∧ causes.getLsbD 1 = s.reflex.thermal ∧ causes.getLsbD 2 = s.reflex.supply ∧
    causes.getLsbD 3 = s.limits.warnLive ∧ (position ≤ 4 → causes.toNat / 16 = position) := by
  have word := s.unitStateWord_toNat
  have := (s.units.get 0).state.code_lt
  have := (s.units.get 1).state.code_lt
  have := (s.units.get 2).state.code_lt
  have := (s.units.get 3).state.code_lt
  have := s.causeBits_lt
  refine ⟨s.levelMask, s.changeMask, s.unitStateWord.extractLsb' 0 8, BitVec.ofNat 8 (s.causeBits + 16 * position),
    s.unitStateWord.extractLsb' 8 8, rfl, fun c => ⟨getLsbD_maskOf _ c, getLsbD_maskOf _ c⟩, ?_, ?_,
    s.getLsbD_causes position (by decide), s.getLsbD_causes position (by decide), s.getLsbD_causes position (by decide),
    s.getLsbD_causes position (by decide), fun few => ?_⟩
  · rw [BitVec.extractLsb'_toNat, Nat.shiftRight_zero]
    omega
  · rw [BitVec.extractLsb'_toNat, Nat.shiftRight_eq_div_pow]
    omega
  · rw [BitVec.toNat_ofNat]
    omega

/-! ## A segment passing the hub -/

/-- A command that brings one segment of a frame under way. -/
theorem exec_segment {s : State} {p : Pass} {seg : List Byte} (fwd : s.forwarding = true) (run : s.link.upRun = some p)
    (place : p.InSegment 8) (aligned : p.received.length % 8 = 0) (eight : seg.length = 8) {v : State} {out : List Byte}
    (leaves : (s.slotOf (p.received.length / 8 - 1) = none ∧ v = s ∧ out = seg) ∨
      ∃ row, s.slotOf (p.received.length / 8 - 1) = some row ∧ v = s.segmentDone row p.position seg ∧
        out = s.segmentOut row p.position seg) : ∃ t q, exec (.sweepFrame seg 0) s = .next t ∧ t.link.upRun = some q ∧
      q.received = p.received ++ seg ∧ q.crcIn = seg.foldl crcByte p.crcIn ∧ q.crcOut = out.foldl crcByte p.crcOut ∧ q.error = false ∧
      q.accepted = p.accepted ∧ q.position = p.position ∧
      (if p.toUp then t.link.upSent = s.link.upSent ++ out ∧ t.link.downSent = s.link.downSent
        else t.link.downSent = s.link.downSent ++ out ∧ t.link.upSent = s.link.upSent) ∧
      t = { s with slots := t.slots, contacts := t.contacts, link := t.link } ∧ t.slots = v.slots ∧ t.contacts = v.contacts ∧
      t.link.staging = v.link.staging := by
  obtain ⟨unnamed, named⟩ := State.Covers.segment (s := s) place aligned eight
  obtain ⟨q, covers, steady, frame⟩ : ∃ q, s.Covers p seg v q out ∧ p.Steady q ∧
      v = { s with slots := v.slots, contacts := v.contacts, link := v.link } := by
    rcases leaves with ⟨nothing, rfl, rfl⟩ | ⟨row, found, rfl, rfl⟩
    · obtain ⟨q, covers, steady⟩ := unnamed nothing
      exact ⟨q, covers, steady, rfl⟩
    · obtain ⟨q, covers, steady⟩ := named row found
      exact ⟨q, covers, steady, s.segmentDone_frame p.position seg row⟩
  refine ⟨_, q, congrArg Host.Outcome.next (covers.toSends.receive fwd run), rfl, covers.received, covers.crcIn, covers.crcOut,
    steady.error.trans place.fine, steady.accepted, steady.position, ?_, ?_, rfl, rfl, rfl⟩
  · cases p.toUp <;> exact ⟨rfl, rfl⟩
  · rw [frame]
    rfl

end Sys2Proof.Machine
end

section
/-! The judging of a record does not look at the run that carries it (R143): of the link engine only the count of bad frames is read. -/

namespace Sys2Proof.Machine

/-! ## Courses and carried-out records beside the link engine -/

section
variable (s : State) (l : Link)

theorem State.latchIf_withLink (b : Bool) (e : EventId) : (s.withLink l).latchIf b e = (s.latchIf b e).withLink l := by
  cases b <;> rfl

theorem State.settleRound_withLink (b : Bank Bool 31) : (s.withLink l).settleRound b = (s.settleRound b).withLink l := by
  have follows : (s.withLink l).followSources b = (s.followSources b).withLink l := State.latchIf_withLink { s with reflex := _ } l _ _
  unfold State.settleRound
  rw [follows]
  rfl

/-- No course looks at the link engine. -/
theorem State.settle_withLink (b : Bank Bool 31) : (s.withLink l).settle b = (s.settle b).withLink l := by
  have fuel (k : Nat) : ∀ (s : State) (b : Bank Bool 31), State.settleFuel k b (s.withLink l) = (State.settleFuel k b s).withLink l := by
    induction k with
    | zero => exact fun _ _ => rfl
    | succ k ih =>
      intro s b
      unfold State.settleFuel
      dsimp only
      rw [State.settleRound_withLink, ih]
      exact (apply_ite (fun t => State.withLink t l) _ _ _).symm
  exact fuel 4 s b

theorem State.applyIf_withLink (b : Bool) {f : State → State} (same : ∀ s : State, f (s.withLink l) = (f s).withLink l) :
    (s.withLink l).applyIf b f = (s.applyIf b f).withLink l := by
  cases b
  · rfl
  · exact same s

theorem State.markDue_withLink (e : DueEvent) : (s.withLink l).markDue e = (s.markDue e).withLink l := by
  unfold State.markDue
  by_cases there : e ∈ s.due
  · rw [if_pos there]
    exact if_pos there
  · rw [if_neg there]
    exact if_neg there

theorem State.doEnable_withLink (mask : Byte) : (s.withLink l).doEnable mask = (s.doEnable mask).withLink l := by
  unfold State.doEnable
  dsimp only
  rw [← State.settle_withLink]
  rfl

theorem State.doDisable_withLink (mask : Byte) : (s.withLink l).doDisable mask = (s.doDisable mask).withLink l := by
  have ready (t : State) : (t.withLink l).requalify = t.requalify.withLink l := rfl
  unfold State.doDisable
  dsimp only
  rw [← State.settle_withLink, ← ready]
  rfl

theorem State.clearRows_withLink (mask : Word16) : (s.withLink l).clearRows mask = (s.clearRows mask).withLink l := by
  unfold State.clearRows
  dsimp only
  refine Eq.trans ?_ (State.settle_withLink _ l _)
  rw [← State.latchIf_withLink]
  rfl

theorem State.doClear_withLink (events rows : Word16) (flags : Byte) :
    (s.withLink l).doClear events rows flags = (s.doClear events rows flags).withLink l := by
  unfold State.doClear
  dsimp only
  rw [← State.applyIf_withLink _ l _ fun t => State.settle_withLink t.passCauses l t.sources, ← State.clearRows_withLink,
    ← State.applyIf_withLink _ l _ fun _ => rfl]
  rfl

theorem State.doSync_withLink : (s.withLink l).doSync = s.doSync.withLink l := by
  unfold State.doSync
  dsimp only
  rw [apply_ite (fun t => State.withLink t l), apply_ite (fun t => State.withLink t l), ← State.markDue_withLink]
  rfl

theorem State.doResetUnits_withLink : (s.withLink l).doResetUnits = s.doResetUnits.withLink l := by
  have cleared : (s.withLink l).unitsCleared = s.unitsCleared.withLink l := rfl
  rw [State.doResetUnits_eq, cleared, State.settle_withLink, State.doResetUnits_eq]

end

/-! ## States that judge alike -/

/-- Two states that differ in the link engine alone, and there not in the count of bad frames. -/
def State.JudgeAlike (s t : State) : Prop := ∃ l : Link, t = s.withLink l ∧ l.frameErrors = s.link.frameErrors

theorem State.JudgeAlike.of_withLink {s t : State} (alike : s.JudgeAlike t) {f : State → State}
    (same : ∀ (s : State) (l : Link), f (s.withLink l) = (f s).withLink l) : (f s).JudgeAlike (f t) := by
  obtain ⟨l, rfl, errors⟩ := alike
  have unchanged : f s = (f s).withLink s.link := same s s.link
  have kept : (f s).link = s.link := by rw [unchanged]; rfl
  exact ⟨l, same s l, errors.trans (congrArg Link.frameErrors kept.symm)⟩

theorem State.JudgeAlike.asIfDone {s t : State} (alike : s.JudgeAlike t) (a : Action) : (s.asIfDone a).JudgeAlike (t.asIfDone a) := by
  cases a with
  | tableWrite id first rows => exact alike.of_withLink (f := fun s => s.doTableWrite id first rows) fun _ _ => rfl
  | swap set => exact alike.of_withLink (f := fun s => s.doSwap set) fun _ _ => rfl
  | enable mask => exact alike.of_withLink (f := fun s => s.doEnable mask) fun s l => s.doEnable_withLink l mask
  | disable mask => exact alike.of_withLink (f := fun s => s.doDisable mask) fun s l => s.doDisable_withLink l mask
  | clear events rows flags => exact alike.of_withLink (f := fun s => s.doClear events rows flags) fun s l => s.doClear_withLink l _ _ _
  | reportMask mask => exact alike.of_withLink (f := fun s => s.carryOut (.reportMask mask)) fun _ _ => rfl
  | sync =>
    refine alike.of_withLink (f := fun s => s.carryOut .sync) fun s l => ?_
    refine (congrArg (fun t => if s.inStandby then s.withLink l else t) (s.doSync_withLink l)).trans ?_
    exact (apply_ite (fun t => State.withLink t l) _ _ _).symm
  | profileSave cal safe tables => exact alike.of_withLink (f := fun s => s.beginSave cal safe tables) fun _ _ => rfl
  | standby =>
    obtain ⟨l, rfl, errors⟩ := alike
    exact ⟨{ l with timer := .stopped }, rfl, errors⟩
  | wake =>
    refine alike.of_withLink (f := fun s => s.asIfDone .wake) fun s l => ?_
    exact (apply_ite (State.withLink · l) (s.inStandby = true) s { s with phase := .standby }).symm
  | resetFull =>
    obtain ⟨l, rfl, errors⟩ := alike
    exact ⟨{ l with position := 0, frameErrors := 0, timer := .stopped }, rfl, rfl⟩
  | resetUnits => exact alike.of_withLink (f := State.doResetUnits) State.doResetUnits_withLink

theorem State.JudgeAlike.judgedState (earlier : List Action) : ∀ {s t : State}, s.JudgeAlike t →
    (s.judgedState earlier).JudgeAlike (t.judgedState earlier) := by
  induction earlier with
  | nil => exact id
  | cons a earlier ih => exact fun alike => ih (alike.asIfDone a)

theorem State.JudgeAlike.answerAsk {s t : State} (alike : s.JudgeAlike t) (earlier : List Action) (position : Nat) (ask : Ask) :
    t.answerAsk earlier position ask = s.answerAsk earlier position ask := by
  obtain ⟨l, rfl, errors⟩ := alike
  cases ask with
  | readEvents =>
    unfold State.answerAsk State.eventsReply
    dsimp only [State.withLink]
    rw [errors]
    rfl
  | _ => rfl

/-- A record is judged alike on them. -/
theorem State.JudgeAlike.judge {s t : State} (alike : s.JudgeAlike t) (earlier : List Action) (position kind : Nat) (broadcast : Bool)
    (params : List Byte) : t.judge earlier position kind broadcast params = s.judge earlier position kind broadcast params := by
  have now := alike.judgedState earlier
  have answers := now.answerAsk earlier position
  obtain ⟨l, state, _⟩ := now
  have standby : (t.judgedState earlier).inStandby = (s.judgedState earlier).inStandby := by rw [state]; rfl
  have reloading : (t.judgedState earlier).reloading = (s.judgedState earlier).reloading := by rw [state]; rfl
  unfold State.judge
  simp only [standby, reloading, answers]

theorem State.JudgeAlike.answerRecord {s t : State} (alike : s.JudgeAlike t) (earlier : List Action) (position : Nat) (target : Byte) (kind : Nat)
    (params : List Byte) (room : Nat) :
    t.answerRecord earlier position target kind params room = s.answerRecord earlier position target kind params room := by
  unfold State.answerRecord
  simp only [alike.judge]

theorem State.answerRecord_sending (s : State) (p : Pass) (up down : List Byte) (earlier : List Action) (position : Nat) (target : Byte)
    (kind : Nat) (params : List Byte) (room : Nat) :
    (s.sending p up down).answerRecord earlier position target kind params room = s.answerRecord earlier position target kind params room :=
  State.JudgeAlike.answerRecord (t := s.sending p up down) ⟨_, rfl, rfl⟩ earlier position target kind params room

end Sys2Proof.Machine
end

section
/-! The bytes of a record passing the hub (R135, R143): its head as received, its answer in its own bytes. -/

namespace Sys2Proof.Machine

/-! ## A byte of a record, by its place -/

section places
variable (s : State) {p : Pass} {i plen room : Nat} (b : Byte)

/-- Up to the last parameter a sound record passes as received. -/
theorem areaByte_plain (next : p.recordNo < records p.received) (early : i - p.recordAt < 4 + rowNat p.record 2)
    (fits : i - p.recordAt = 2 → rowNat p.record 2 ≤ 48) (area : i - p.recordAt = 3 → rowNat p.record 3 ≤ 48 ∧
      p.recordAt + 6 + rowNat p.record 2 + rowNat p.record 3 ≤ maskStart p.received) : areaByte s p i b = passThrough s p b := by
  unfold areaByte
  dsimp only
  rw [if_neg (by omega)]
  split
  · next two => rw [if_neg (by have := fits two; omega)]
  · split
    · next three =>
      obtain ⟨short, inside⟩ := area three
      rw [if_neg (by omega)]
    · rfl

/-- At the verdict byte the record is answered. -/
theorem areaByte_verdict (next : p.recordNo < records p.received) (plen_ : rowNat p.record 2 = plen) (room_ : rowNat p.record 3 = room)
    (at_ : i - p.recordAt = 4 + plen) : areaByte s p i b =
      let got := s.answerRecord p.accepted p.position (rowByte p.record 0) (rowNat p.record 1) ((p.record.drop 4).take plen) room
      overlaid s { p with overlay := got.1, accepted := p.accepted ++ got.2.toList } b := by
  unfold areaByte
  dsimp only
  rw [if_neg (by omega), plen_, room_, if_neg (by omega), if_neg (by omega), if_neg (by omega), if_pos at_, if_neg (by omega)]

/-- Its reply is written byte by byte, or the bytes pass. -/
theorem areaByte_reply (next : p.recordNo < records p.received) (plen_ : rowNat p.record 2 = plen) (room_ : rowNat p.record 3 = room)
    (from_ : 5 + plen ≤ i - p.recordAt) (before : i - p.recordAt < 5 + plen + room) : areaByte s p i b = overlaid s p b := by
  unfold areaByte
  dsimp only
  rw [if_neg (by omega), plen_, room_, if_neg (by omega), if_neg (by omega), if_neg (by omega), if_neg (by omega), if_neg (by omega)]

/-- With its last byte the next record begins. -/
theorem areaByte_last (next : p.recordNo < records p.received) (plen_ : rowNat p.record 2 = plen) (room_ : rowNat p.record 3 = room)
    (at_ : i - p.recordAt = 5 + plen + room) : areaByte s p i b = { overlaid s p b with
      pass := { (overlaid s p b).pass with
        overlay := []
        recordNo := p.recordNo + 1
        recordAt := i + 1 } } := by
  unfold areaByte
  dsimp only
  rw [if_neg (by omega), plen_, room_, if_neg (by omega), if_neg (by omega), if_neg (by omega), if_pos at_,
    if_neg (by omega)]

end places

/-- A pass within a record that is not the last thing of the service area. -/
structure Pass.InRecord (p : Pass) : Prop where
  routed : p.dropped = false
  fine : p.error = false
  header : 8 ≤ p.received.length
  area : areaStart p.received ≤ p.recordAt
  begun : p.recordAt ≤ p.received.length
  next : p.recordNo < records p.received

theorem Pass.InRecord.extend {p q : Pass} {m : List Byte} (h : p.InRecord) (received : q.received = p.received ++ m)
    (dropped : q.dropped = p.dropped) (error : q.error = p.error) (at_ : q.recordAt = p.recordAt) (no : q.recordNo = p.recordNo) :
    q.InRecord ∧ maskStart q.received = maskStart p.received ∧ q.record = p.record ++ m := by
  obtain ⟨routed, fine, header, area, begun, next⟩ := h
  refine ⟨⟨dropped.trans routed, error.trans fine, ?_, ?_, ?_, ?_⟩, ?_, ?_⟩
  · rw [received, List.length_append]; omega
  · rw [received, areaStart_append _ (by omega), at_]; exact area
  · rw [received, List.length_append, at_]; omega
  · rw [received, records_append _ header, no]; exact next
  · rw [received, maskStart_append _ header]
  · unfold Pass.record
    rw [received, at_]
    exact List.drop_append_of_le_length begun

theorem Pass.InRecord.steady {s t : State} {p q : Pass} {l out : List Byte} (h : p.InRecord) (covers : s.Covers p l t q out) (steady : p.Steady q) :
    q.InRecord ∧ maskStart q.received = maskStart p.received ∧ q.record = p.record ++ l :=
  h.extend covers.received covers.dropped steady.error steady.recordAt steady.recordNo

/-- The next byte of a record is a byte of the service area. -/
theorem State.Covers.record {s : State} {p q : Pass} {b o : Byte} (h : p.InRecord) (inside : p.received.length < maskStart p.received)
    (byte : ∀ up down, areaByte (s.sending p up down) { p with received := p.received ++ [b] } p.received.length b =
      { state := s.sending p up down, pass := q, out := o }) :
    s.Covers p [b] s { q with crcIn := crcByte p.crcIn b, crcOut := crcByte p.crcOut o } [o] := by
  have header := h.header
  have masks : maskStart (p.received ++ [b]) = maskStart p.received := maskStart_append _ header
  refine .byte h.routed (by omega) (by omega) fun up down => ?_
  rw [coveredByte_area (p := { p with received := p.received ++ [b] }) _ b h.fine, byte]
  · dsimp only
    rw [areaStart_append _ (by omega)]
    exact h.area.trans h.begun
  · dsimp only
    rwa [masks]

/-! ## The head of a record -/

/-- The first four bytes of a record and its parameters. -/
def recordHead (target kind : Byte) (params : List Byte) (room : Nat) : List Byte :=
  [target, kind, BitVec.ofNat 8 params.length, BitVec.ofNat 8 room] ++ params

section head
variable (target kind : Byte) {params : List Byte} {room : Nat} (m : List Byte)

theorem recordHead_length : (recordHead target kind params room).length = 4 + params.length := by
  simp [recordHead]
  omega

theorem recordHead_fields (few : params.length ≤ 48) (short : room ≤ 48) :
    rowByte (recordHead target kind params room ++ m) 0 = target ∧ rowNat (recordHead target kind params room ++ m) 1 = kind.toNat ∧
    rowNat (recordHead target kind params room ++ m) 2 = params.length ∧ rowNat (recordHead target kind params room ++ m) 3 = room ∧
    ((recordHead target kind params room ++ m).drop 4).take params.length = params := by
  have small (n : Nat) (le : n ≤ 48) : (BitVec.ofNat 8 n).toNat = n := by
    rw [BitVec.toNat_ofNat]
    omega
  exact ⟨rfl, rfl, small _ few, small _ short, List.take_left⟩

/-- The head of a record passes as received. -/
theorem State.Covers.recordHead {s : State} {p : Pass} (h : p.InRecord) (begins : p.received.length = p.recordAt) (few : params.length ≤ 48)
    (short : room ≤ 48) (fits : p.recordAt + 6 + params.length + room ≤ maskStart p.received) (l : List Byte) :
    ∀ m, l ++ m = Machine.recordHead target kind params room → ∃ q, s.Covers p l s q l ∧ p.Steady q := by
  induction l using List.reverseRecOn with
  | nil => exact fun _ _ => ⟨p, .nil s p, .refl p⟩
  | append_singleton l b ih =>
    intro m whole
    obtain ⟨q, covers, steady⟩ := ih ([b] ++ m) (by rw [← List.append_assoc]; exact whole)
    obtain ⟨place, masks, _⟩ := h.steady covers steady
    have size : l.length + 1 + m.length = 4 + params.length := by
      have lengths := congrArg List.length whole
      rwa [recordHead_length, List.length_append, List.length_append, List.length_singleton] at lengths
    have offset : q.received.length - q.recordAt = l.length := by
      rw [covers.received, steady.recordAt, List.length_append]
      omega
    obtain ⟨place', masks', record'⟩ := place.extend (q := { q with received := q.received ++ [b] }) rfl rfl rfl rfl rfl
    have record : Pass.record { q with received := q.received ++ [b] } = l ++ [b] := by
      unfold Pass.record
      dsimp only
      rw [covers.received, steady.recordAt, List.append_assoc, ← begins, List.drop_left]
    obtain ⟨_, _, plen, room_, _⟩ := recordHead_fields target kind [] few short
    rw [List.append_nil, ← whole] at plen room_
    have atLength (i : Nat) (le : i ≤ l.length) : rowNat (l ++ [b]) i = rowNat (l ++ [b] ++ m) i :=
      (rowNat_append m (by rw [List.length_append, List.length_singleton]; omega)).symm
    have early : l.length < 4 + rowNat (l ++ [b]) 2 := by
      by_cases two : 2 ≤ l.length
      · rw [atLength 2 two, plen]
        omega
      · omega
    have plain (t : State) : areaByte t { q with received := q.received ++ [b] } q.received.length b =
        passThrough t { q with received := q.received ++ [b] } b := by
      refine areaByte_plain t b place'.next ?_ ?_ ?_
      · rw [record]
        exact offset.trans_lt early
      · rw [record]
        intro two
        rw [atLength 2 (by dsimp only at two; omega), plen]
        exact few
      · rw [record, masks', masks]
        intro three
        dsimp only at three ⊢
        rw [atLength 2 (by omega), atLength 3 (by omega), plen, room_, steady.recordAt]
        exact ⟨short, fits⟩
    have first := State.Covers.record (s := s) (b := b) (o := b) place
      (by rw [masks, covers.received, List.length_append]; omega) fun up down => plain _
    exact ⟨_, covers.trans first, steady.trans ⟨rfl, rfl, rfl, rfl, rfl⟩⟩

end head

/-! ## The reply of a record -/

/-- A pass in the reply of a record, `left` bytes before its last one. -/
structure Pass.InReply (p : Pass) (plen room left : Nat) : Prop extends p.InRecord where
  plenByte : rowNat p.record 2 = plen
  roomByte : rowNat p.record 3 = room
  head : 4 ≤ p.record.length
  place : p.received.length + left = p.recordAt + 5 + plen + room
  few : left ≤ room
  fits : p.recordAt + 6 + plen + room ≤ maskStart p.received

theorem Pass.InReply.extend {p : Pass} {plen room left : Nat} (h : p.InReply plen room left) (b : Byte) :
    let q : Pass := { p with received := p.received ++ [b] }
    p.recordNo < records q.received ∧ rowNat q.record 2 = plen ∧ rowNat q.record 3 = room := by
  obtain ⟨place, _, record⟩ := h.toInRecord.extend (q := { p with received := p.received ++ [b] }) rfl rfl rfl rfl rfl
  have head := h.head
  dsimp only
  rw [record, rowNat_append _ (by omega), rowNat_append _ (by omega)]
  exact ⟨place.next, h.plenByte, h.roomByte⟩

theorem overlaid_sending (s : State) (p q : Pass) (up down : List Byte) (b : Byte) : overlaid (s.sending p up down) q b =
    { state := s.sending p up down, pass := { q with overlay := q.overlay.drop 1 }, out := overlayHead q.overlay b } :=
  overlaid_eq _ q b

/-- A byte of the reply before its last one. -/
theorem State.Covers.replyByte {s : State} {p : Pass} {plen room left : Nat} (b : Byte) (h : p.InReply plen room (left + 1)) :
    ∃ q, s.Covers p [b] s q (overlayOut p.overlay [b]) ∧ p.Steady q ∧ q.overlay = p.overlay.drop 1 ∧ q.InReply plen room left := by
  obtain ⟨next, plen_, room_⟩ := h.extend b
  have place := h.place
  have few := h.few
  have fits := h.fits
  have reply (t : State) : areaByte t { p with received := p.received ++ [b] } p.received.length b =
      overlaid t { p with received := p.received ++ [b] } b :=
    areaByte_reply t b next plen_ room_ (by dsimp only; omega) (by dsimp only; omega)
  rw [overlayOut_singleton]
  have covers := State.Covers.record (s := s) (b := b) h.toInRecord (by omega) fun up down => (reply _).trans (overlaid_sending s p _ up down b)
  have steady : p.Steady { p with
    received := p.received ++ [b]
    overlay := p.overlay.drop 1
    crcIn := crcByte p.crcIn b
    crcOut := crcByte p.crcOut (overlayHead p.overlay b) } := ⟨rfl, rfl, rfl, rfl, rfl⟩
  obtain ⟨within, masks, record⟩ := h.toInRecord.steady covers steady
  have head := h.head
  refine ⟨_, covers, steady, rfl, within, ?_, ?_, ?_, ?_, by omega, ?_⟩
  · rw [record, rowNat_append _ (by omega)]
    exact h.plenByte
  · rw [record, rowNat_append _ (by omega)]
    exact h.roomByte
  · rw [record, List.length_append]
    omega
  · dsimp only
    rw [List.length_append, List.length_singleton]
    omega
  · exact fits.trans masks.ge

theorem State.Covers.replyBytes {s : State} {plen room : Nat} (l : List Byte) : ∀ {p : Pass}, p.InReply plen room l.length →
    ∃ q, s.Covers p l s q (overlayOut p.overlay l) ∧ p.Steady q ∧ q.overlay = p.overlay.drop l.length ∧ q.InReply plen room 0 := by
  induction l with
  | nil => exact fun {p} h => ⟨p, by rw [overlayOut]; exact .nil s p, .refl p, rfl, h⟩
  | cons b l ih =>
    intro p h
    obtain ⟨q, first, steady, overlay, h'⟩ := State.Covers.replyByte (s := s) b (left := l.length) h
    obtain ⟨r, rest, steady', overlay', h''⟩ := ih h'
    refine ⟨r, ?_, steady.trans steady', ?_, h''⟩
    · have both := first.trans rest
      rw [overlay] at both
      rwa [show b :: l = [b] ++ l from rfl, overlayOut_append]
    · rw [overlay', overlay, List.drop_drop, List.length_cons, Nat.add_comm]

/-- The last byte of a record. -/
theorem State.Covers.replyLast {s : State} {p : Pass} {plen room : Nat} (b : Byte) (h : p.InReply plen room 0) :
    ∃ q, s.Covers p [b] s q (overlayOut p.overlay [b]) ∧ q.error = p.error ∧ q.accepted = p.accepted ∧ q.recordNo = p.recordNo + 1 ∧
      q.recordAt = p.received.length + 1 := by
  obtain ⟨next, plen_, room_⟩ := h.extend b
  have place := h.place
  have fits := h.fits
  have last (t : State) : areaByte t { p with received := p.received ++ [b] } p.received.length b = _ :=
    areaByte_last t b next plen_ room_ (by dsimp only; omega)
  rw [overlayOut_singleton]
  refine ⟨_, State.Covers.record (s := s) (b := b) (o := overlayHead p.overlay b) (q := { p with
    received := p.received ++ [b]
    overlay := []
    recordNo := p.recordNo + 1
    recordAt := p.received.length + 1 }) h.toInRecord (by omega) fun up down => ?_, rfl, rfl, rfl, rfl⟩
  rw [last, overlaid_sending]

/-- The verdict byte of a record: it is answered from here on. -/
theorem State.Covers.verdict {s : State} {p : Pass} {target kind : Byte} {params : List Byte} {room : Nat} (b : Byte) (h : p.InRecord)
    (few : params.length ≤ 48) (short : room ≤ 48) (record : p.record = Machine.recordHead target kind params room)
    (fits : p.recordAt + 6 + params.length + room ≤ maskStart p.received) :
    let got := s.answerRecord p.accepted p.position target kind.toNat params room
    ∃ q, s.Covers p [b] s q (overlayOut got.1 [b]) ∧ q.error = p.error ∧ q.accepted = p.accepted ++ got.2.toList ∧
      q.recordNo = p.recordNo ∧ q.recordAt = p.recordAt ∧ q.overlay = got.1.drop 1 ∧ q.InReply params.length room room := by
  intro got
  have begun := h.begun
  have size : p.received.length - p.recordAt = 4 + params.length := by
    rw [← recordHead_length target kind (params := params) (room := room), ← record]
    exact List.length_drop.symm
  obtain ⟨place', masks', record'⟩ := h.extend (q := { p with received := p.received ++ [b] }) rfl rfl rfl rfl rfl
  rw [record] at record'
  obtain ⟨target_, kind_, plen, room_, params_⟩ := recordHead_fields target kind [b] few short
  rw [← record'] at target_ kind_ plen room_ params_
  have answers (t : State) : areaByte t { p with received := p.received ++ [b] } p.received.length b = _ :=
    areaByte_verdict t b place'.next plen room_ size
  rw [overlayOut_singleton]
  have covers := State.Covers.record (s := s) (b := b) (o := overlayHead got.1 b) (q := { p with
    received := p.received ++ [b]
    overlay := got.1.drop 1
    accepted := p.accepted ++ got.2.toList }) h (by omega) fun up down => by
      rw [answers, target_, kind_, params_, State.answerRecord_sending]
      exact overlaid_sending s p _ up down b
  obtain ⟨within, masks, record''⟩ := h.extend (q := { p with
    received := p.received ++ [b]
    overlay := got.1.drop 1
    accepted := p.accepted ++ got.2.toList
    crcIn := crcByte p.crcIn b
    crcOut := crcByte p.crcOut (overlayHead got.1 b) }) rfl rfl rfl rfl rfl
  refine ⟨_, covers, rfl, rfl, rfl, rfl, rfl, within, plen, room_, ?_, ?_, le_rfl, fits.trans masks.ge⟩
  · rw [record'', record, List.length_append, recordHead_length]
    omega
  · dsimp only
    rw [List.length_append, List.length_singleton]
    omega

/-- A whole record passing the hub (R135, R143): its head as received, then its answer over the bytes of its reply. -/
theorem State.Covers.wholeRecord {s : State} {p : Pass} {target kind v len : Byte} {params room : List Byte} (h : p.InRecord)
    (begins : p.received.length = p.recordAt) (few : params.length ≤ 48) (short : room.length ≤ 48)
    (fits : p.recordAt + 6 + params.length + room.length ≤ maskStart p.received) :
    let got := s.answerRecord p.accepted p.position target kind.toNat params room.length
    let head := Machine.recordHead target kind params room.length
    ∃ q, s.Covers p (head ++ v :: len :: room) s q (head ++ overlayOut got.1 (v :: len :: room)) ∧ q.error = false ∧
      q.accepted = p.accepted ++ got.2.toList ∧ q.recordNo = p.recordNo + 1 ∧
      q.recordAt = p.recordAt + (head ++ v :: len :: room).length := by
  intro got head
  obtain ⟨q, covers, steady⟩ := State.Covers.recordHead (s := s) target kind h begins few short fits head [] (List.append_nil _)
  obtain ⟨place, masks, record⟩ := h.steady covers steady
  rw [show p.record = [] from List.drop_of_length_le begins.le, List.nil_append] at record
  obtain ⟨r, first, error, accepted, no, at_, overlay, reply⟩ := State.Covers.verdict (s := s) v place few short record
    (by rw [masks, steady.recordAt]; exact fits)
  rw [steady.accepted, steady.position] at first accepted overlay
  obtain ⟨l, b, rest⟩ : ∃ l b, len :: room = l ++ [b] := ⟨_, _, (List.dropLast_append_getLast (List.cons_ne_nil _ _)).symm⟩
  have size : l.length = room.length := by
    have lengths := congrArg List.length rest
    rw [List.length_append, List.length_cons, List.length_singleton] at lengths
    omega
  rw [← size] at reply
  obtain ⟨u, middle, steady', overlay', reply'⟩ := State.Covers.replyBytes (s := s) l reply
  obtain ⟨w, last, error', accepted', no', at'⟩ := State.Covers.replyLast (s := s) b reply'
  have whole := ((covers.trans first).trans middle).trans last
  have bytes : head ++ v :: len :: room = head ++ [v] ++ l ++ [b] := by
    rw [rest]
    simp
  refine ⟨w, ?_, error'.trans (steady'.error.trans (error.trans (steady.error.trans h.fine))), accepted'.trans (steady'.accepted.trans accepted),
    ?_, ?_⟩
  · rw [bytes, rest, show v :: (l ++ [b]) = [v] ++ l ++ [b] from rfl, overlayOut_append, overlayOut_append]
    rw [overlay', overlay, List.drop_drop] at whole
    simpa [List.append_assoc, Nat.add_comm] using whole
  · rw [no', steady'.recordNo, no, steady.recordNo]
  · rw [at', middle.received, first.received, covers.received, ← begins, bytes]
    simp
    omega

/-! ## The bytes sent of a record -/

theorem overlayOut_length (l : List Byte) : ∀ o, (overlayOut o l).length = l.length := by
  induction l with
  | nil => intro o; cases o <;> rfl
  | cons b l ih =>
    intro o
    match o with
    | [] => rfl
    | some w :: o => simp [overlayOut, ih]
    | none :: o => simp [overlayOut, ih]

/-- A byte of what is sent: the one written in place, or the one received. -/
theorem overlayOut_at (l : List Byte) : ∀ (o : List (Option Byte)) (i : Nat), i < l.length →
    (overlayOut o l)[i]? = (o[i]?.join).or l[i]? := by
  induction l with
  | nil => exact fun _ i less => absurd less (Nat.not_lt_zero i)
  | cons b l ih =>
    intro o i less
    match o, i with
    | [], i => simp [overlayOut_nil]
    | some w :: o, 0 => simp [overlayOut]
    | none :: o, 0 => simp [overlayOut]
    | some w :: o, i + 1 => simpa [overlayOut] using ih o i (by simpa using less)
    | none :: o, i + 1 => simpa [overlayOut] using ih o i (by simpa using less)

/-- A record for another position is not answered. -/
theorem State.answerRecord_other (s : State) {position : Nat} {target : Byte} (earlier : List Action) (kind : Nat) (params : List Byte)
    (room : Nat) (single : target.toNat ≠ 15) (other : target.toNat ≠ position) :
    s.answerRecord earlier position target kind params room = ([], none) := by
  rw [State.answerRecord, if_neg single, if_neg other]

/-- A record for this hub alone gets its judgement. -/
theorem State.answerRecord_here (s : State) {position : Nat} {target : Byte} (earlier : List Action) (kind : Nat) (params : List Byte)
    (room : Nat) (few : position ≤ 4) (here : target.toNat = position) :
    s.answerRecord earlier position target kind params room =
      ((s.judge earlier position kind false params).addressed room, (s.judge earlier position kind false params).action) := by
  rw [State.answerRecord, if_neg (by omega), if_pos here]

theorem Reply.addressed_verdict {r : Reply} {room : Nat} (fits : r.bytes.length ≤ room) : (r.addressed room)[0]? = some (some r.verdict.code) := by
  unfold Reply.addressed
  dsimp only
  rw [if_neg (fun cut => absurd cut.1 (by omega))]
  rfl

end Sys2Proof.Machine
end

section
/-! What a frame's segments, records and format errors meet in this hub (R135 to R137, R140, R143). -/

namespace Sys2Proof.Machine

/-- A run that is routed leaves position, link timer and the count of bad frames. -/
theorem State.routed_kept (s : State) : s.routed.link.position = s.link.position ∧ s.routed.link.timer = s.link.timer ∧
    s.routed.link.frameErrors = s.link.frameErrors := by
  unfold State.routed
  cases s.link.downLive <;> exact ⟨rfl, rfl, rfl⟩

/-- Settles O31. -/
theorem passTakesGivesAndAnswers : Obligations.PassTakesGivesAndAnswers := by
  unfold Obligations.PassTakesGivesAndAnswers
  refine ⟨fun s p seg fwd run routed fine header aligned inside eight => ?_,
    fun s p target kind v len params room fwd run routed fine header begins area next few short fits => ?_,
    fun s p b rest fwd run routed fine long errs => ?_, fun s d rest fwd idle upFree downFree notOut notReturn => ?_⟩
  · have place : p.InSegment 8 := ⟨routed, fine, header, by
      change p.received.length + 8 ≤ 8 + 8 * rowNat p.received 4
      omega⟩
    dsimp only
    cases found : s.slotOf (p.received.length / 8 - 1) with
    | none =>
      obtain ⟨t, q, execs, run', received, crcIn, crcOut, error, accepted, position, ports, frame, slots, contacts, staging⟩ :=
        exec_segment fwd run place aligned eight (v := s) (out := seg) (.inl ⟨found, rfl, rfl⟩)
      refine ⟨t, q, seg, execs, run', received, crcIn, crcOut, error, accepted, position, ports, frame,
        fun _ => ⟨rfl, staging, slots, contacts⟩, fun row mem enabled segment _ => ?_⟩
      have unnamed := List.find?_eq_none.mp found row mem
      simp [enabled, segment] at unnamed
    | some entry =>
      obtain ⟨t, q, execs, run', received, crcIn, crcOut, error, accepted, position, ports, frame, slots, contacts, staging⟩ :=
        exec_segment fwd run place aligned eight (.inr ⟨entry, found, rfl, rfl⟩)
      obtain ⟨mem, enabled, segment⟩ := State.slotOf_mem found
      refine ⟨t, q, _, execs, run', received, crcIn, crcOut, error, accepted, position, ports, frame,
        fun unnamed => absurd segment (unnamed entry mem enabled), fun row _ _ _ only => ?_⟩
      obtain rfl : entry = row := only entry mem enabled segment
      rw [slots, contacts, staging]
      refine ⟨s.segment_drivePair p.position seg, s.segment_give p.position seg, fun give _ => s.segment_samples p.position seg give eight,
        fun r give input => ?_, fun give => ?_⟩
      · obtain ⟨slots', contacts', out⟩ := s.segment_motion p.position seg give eight input
        refine ⟨slots', contacts', out.trans (s.motionBytes_eq r _ ?_)⟩
        rw [State.edgeDir_rev]
        cases rotationLinked (s.tables.rotationRow r) <;> simp
      · obtain ⟨slots', contacts', out⟩ := s.segment_status p.position seg give eight
        obtain ⟨levels, changes, states, causes, high, bytes, fields⟩ := s.statusBytes_fields p.position
        exact ⟨slots', contacts', levels, changes, states, causes, high, out.trans bytes, fields⟩
  · have place : p.InRecord := ⟨routed, fine, header, area, begins.ge, next⟩
    obtain ⟨q, covers, error, accepted, no, at_⟩ := State.Covers.wholeRecord (s := s) (v := v) (len := len) (target := target) (kind := kind)
      place begins few short fits
    dsimp only
    generalize answered : s.answerRecord p.accepted p.position target kind.toNat params room.length = answer at covers accepted ⊢
    have head : (recordHead target kind params room.length).length = 4 + params.length := recordHead_length target kind
    have whole : [target, kind, BitVec.ofNat 8 params.length, BitVec.ofNat 8 room.length] ++ params ++ v :: len :: room =
      recordHead target kind params room.length ++ v :: len :: room := rfl
    rw [whole]
    have sent (i : Nat) : (recordHead target kind params room.length ++ overlayOut answer.1 (v :: len :: room))[4 + params.length + i]? =
        (overlayOut answer.1 (v :: len :: room))[i]? := by
      rw [← head, List.getElem?_append_right (Nat.le_add_right _ _), Nat.add_sub_cancel_left]
    have arrived (i : Nat) : (recordHead target kind params room.length ++ v :: len :: room)[4 + params.length + i]? =
        (v :: len :: room)[i]? := by
      rw [← head, List.getElem?_append_right (Nat.le_add_right _ _), Nat.add_sub_cancel_left]
    refine ⟨_, q, _, congrArg Host.Outcome.next (covers.toSends.receive fwd run), rfl, rfl, covers.received, no, at_, error, accepted, rfl,
      covers.crcIn, covers.crcOut, ?_, ?_, ?_, fun i less => ?_, fun single other => ?_, fun here few' => ⟨?_, fun fits' => ?_⟩⟩
    · cases p.toUp <;> exact ⟨rfl, rfl⟩
    · rw [List.length_append, List.length_append, overlayOut_length]
    · rw [← head, List.take_left, List.take_left]
    · rw [sent, arrived, overlayOut_at _ _ _ (by simp; omega)]
      cases answer.1[i]? with
      | none => rfl
      | some w => cases w <;> rfl
    · rw [State.answerRecord_other s _ _ _ _ single other] at answered
      subst answered
      exact ⟨by rw [overlayOut_nil], accepted.trans (List.append_nil _)⟩
    · rw [State.answerRecord_here s _ _ _ _ few' here] at answered
      subst answered
      exact accepted
    · rw [State.answerRecord_here s _ _ _ _ few' here] at answered
      subst answered
      rw [show 4 + params.length = 4 + params.length + 0 from rfl, sent, overlayOut_at _ _ _ (by simp), Reply.addressed_verdict fits']
      rfl
  · obtain ⟨q, out, sends, error, accepted, short, whole⟩ := State.Sends.formatError (s := s) rest routed fine long errs
    have bytes := sends.bytes s.link.upSent s.link.downSent
    rw [show s.sending p s.link.upSent s.link.downSent = s from congrArg s.withLink (s.link.upRun_same run)] at bytes
    have far := maskStart_ge (p.received ++ b :: rest)
    dsimp only
    refine ⟨fun idles some => ?_, _, q, out, congrArg Host.Outcome.next (sends.receive fwd run), rfl, rfl, sends.received, error, accepted, rfl,
      ?_, fun few => short ?_, fun _ => whole⟩
    · obtain ⟨t, received, facts⟩ := State.errorEnd fwd bytes (sends.dropped.trans routed) error some
      exact ⟨t, congrArg Host.Outcome.next received, facts⟩
    · cases p.toUp <;> exact ⟨rfl, rfl⟩
    · rcases few with few | few
      · omega
      · exact few
  · obtain ⟨q, out, bytes, routed, received, error, accepted, short, whole⟩ := bytesUp_misdirected rest idle upFree downFree notOut notReturn
    have far := maskStart_ge (0xD5 :: d :: rest)
    have receives : s.receiveUp (0xD5 :: d :: rest) 0 = s.routed.sending q (if s.link.downLive then s.link.upSent else out)
        (if s.link.downLive then out else s.link.downSent) := by
      unfold State.receiveUp
      rw [if_pos fwd, bytes]
      rfl
    dsimp only
    refine ⟨fun idles some => ?_, _, q, out, congrArg Host.Outcome.next receives, rfl, rfl, received, error, accepted, rfl,
      ?_, fun few => short ?_, fun _ => whole⟩
    · obtain ⟨t, ended, frame, staging, run, position, timer, errors⟩ := State.errorEnd fwd bytes routed error some
      obtain ⟨position', timer', errors'⟩ := s.routed_kept
      exact ⟨t, congrArg Host.Outcome.next ended, frame, staging, run, position.trans position', timer.trans timer', errors' ▸ errors⟩
    · cases s.link.downLive <;> exact ⟨rfl, rfl⟩
    · rcases few with few | few
      · omega
      · exact few

end Sys2Proof.Machine
end
